-- ==== Sys2Proof/Word.lean ====
section
/-! DEFINITION. Word: the byte of messages, frames and transfers, and `Tab`, a table with a fixed number of rows numbered
from 0 (section 0.4, Indices). Values of signals are `Int`, counts and times are `Nat`: the manual computes them as exact
numbers within stated ranges, not as bit patterns. -/

namespace Sys2Proof

/-- One byte of a frame, a service message or a display link transfer. -/
abbrev Byte := BitVec 8

/-- A table of exactly `n` rows, numbered from 0. -/
structure Tab (n : Nat) (α : Type) where
  list : List α
  ok : list.length = n
deriving DecidableEq, Repr

namespace Tab
variable {n : Nat} {α β : Type}

/-- Row `i`. -/
def get (t : Tab n α) (i : Fin n) : α :=
  t.list[i.val]'(by rw [t.ok]; exact i.isLt)

/-- The table with row `i` replaced. -/
def set (t : Tab n α) (i : Fin n) (a : α) : Tab n α :=
  ⟨t.list.set i.val a, by rw [List.length_set]; exact t.ok⟩

/-- The table with `f` applied to row `i`. -/
def modify (t : Tab n α) (i : Fin n) (f : α → α) : Tab n α :=
  t.set i (f (t.get i))

/-- `n` equal rows. -/
def replicate (n : Nat) (a : α) : Tab n α :=
  ⟨List.replicate n a, List.length_replicate⟩

/-- `f` applied to every row. -/
def map (f : α → β) (t : Tab n α) : Tab n β :=
  ⟨t.list.map f, by rw [List.length_map]; exact t.ok⟩

/-- `f` applied to every row with its number. -/
def mapIdx (f : Fin n → α → β) (t : Tab n α) : Tab n β :=
  ⟨List.zipWith f (List.finRange n) t.list, by rw [List.length_zipWith, List.length_finRange, t.ok]; exact Nat.min_self n⟩

/-- The row numbers with their rows, in order. -/
def rows (t : Tab n α) : List (Fin n × α) :=
  List.zip (List.finRange n) t.list

/-- The number of the first row that satisfies `p`. -/
def findIdx (p : Fin n → α → Bool) (t : Tab n α) : Option (Fin n) :=
  (t.rows.find? (fun r => p r.1 r.2)).map (·.1)

end Tab

/-- The number `k` as a row number below `n`, when it is one. -/
def toFin? (n k : Nat) : Option (Fin n) :=
  if h : k < n then some ⟨k, h⟩ else none

end Sys2Proof
end

