-- ==== Sys2Proof/Syntax.lean ====
section
/-! DEFINITION. Syntax: the commands of the MZ620, one constructor for each row of the table of operations and events
(spec/opcode_table.json). The table gives its rows no operands: the operands here are what the rule of the row says the event
or the request carries. -/

namespace Sys2Proof

/-- CAN ports P0 to P2. -/
abbrev Port := Fin 3

/-- Identifier kind of a CAN frame (0.1.1). -/
inductive IdKind | standard | extended
deriving DecidableEq, Repr

/-- A frame as a port hands it to the Frame Engine (R2): kind, identifier, remote flag and data bytes (0 to 8). -/
structure Frame where
  kind : IdKind
  ident : BitVec 29
  remote : Bool
  data : List Byte
deriving DecidableEq, Repr

/-- Result of a lamp driver's load sensing (R134). -/
inductive Sensing | loadPresent | openLoad | short
deriving DecidableEq, Repr

/-- The four steps of a commit (R187). A persistence save has the last of them alone (R189), a select read writes in the last
alone (R188). -/
inductive StoreStep | erase | write | check | save
deriving DecidableEq, Repr

/-- One step of the part. Requests carry the port they arrived on and their parameter bytes, as they follow the command code
in the request message (Table 10-3); for LOAD ENTRY the table code is the constructor's, and the index, the part header and
the content bytes follow it (Table 10-5). -/
inductive Instr
  /-- `reached`: the step which a commit that the reset interrupts had reached, if it stood in an earlier one (R186, R187). -/
  | reset (reached : StoreStep)
  | startingComplete
  | receivedFrame (p : Port) (f : Frame)
  | receiveError (p : Port)
  | transmitError (p : Port)
  | transmissionComplete (p : Port)
  | recoveryTimerExpiry (p : Port)
  | receptionTimerExpiry (e : Fin 128)
  | gapTimerExpiry (p : Port)
  | identify (p : Port) (params : List Byte)
  | readSignal (p : Port) (params : List Byte)
  | readFrameEntry (p : Port) (params : List Byte)
  | readFaults (p : Port) (params : List Byte)
  | readSnapshot (p : Port) (params : List Byte)
  | readAttribute (p : Port) (params : List Byte)
  | acknowledge (p : Port) (params : List Byte)
  | clearFaults (p : Port) (params : List Byte)
  | resetAttribute (p : Port) (params : List Byte)
  | substitute (p : Port) (params : List Byte)
  | releaseSubstitute (p : Port) (params : List Byte)
  | beginConfiguration (p : Port) (params : List Byte)
  | endConfiguration (p : Port) (params : List Byte)
  | loadEntryFrame (p : Port) (index : BitVec 16) (part : Byte) (content : List Byte)
  | loadEntryExtract (p : Port) (index : BitVec 16) (part : Byte) (content : List Byte)
  | loadEntrySignal (p : Port) (index : BitVec 16) (part : Byte) (content : List Byte)
  | loadEntrySubstitution (p : Port) (index : BitVec 16) (part : Byte) (content : List Byte)
  | loadEntryInput (p : Port) (index : BitVec 16) (part : Byte) (content : List Byte)
  | loadEntryAnalog (p : Port) (index : BitVec 16) (part : Byte) (content : List Byte)
  | loadEntryDoor (p : Port) (index : BitVec 16) (part : Byte) (content : List Byte)
  | loadEntryGauge (p : Port) (index : BitVec 16) (part : Byte) (content : List Byte)
  | loadEntryWarning (p : Port) (index : BitVec 16) (part : Byte) (content : List Byte)
  | loadEntryLamp (p : Port) (index : BitVec 16) (part : Byte) (content : List Byte)
  | loadEntryPattern (p : Port) (index : BitVec 16) (part : Byte) (content : List Byte)
  | loadEntryTransmit (p : Port) (index : BitVec 16) (part : Byte) (content : List Byte)
  | loadEntryDisplay (p : Port) (index : BitVec 16) (part : Byte) (content : List Byte)
  | loadEntryAttribute (p : Port) (index : BitVec 16) (part : Byte) (content : List Byte)
  | loadEntrySnapshotList (p : Port) (index : BitVec 16) (part : Byte) (content : List Byte)
  | loadEntryGeneral (p : Port) (index : BitVec 16) (part : Byte) (content : List Byte)
  | commitProfile (p : Port) (params : List Byte)
  | selectProfile (p : Port) (params : List Byte)
  | outputTest (p : Port) (params : List Byte)
  | stopTest (p : Port) (params : List Byte)
  | testTimerExpiry
  | commitComplete
  /-- `saved`: the save of the slot number that a good check begins (R188) has completed within this step; otherwise it runs
  on, and PERSISTENCE_SAVE_COMPLETE or STORE_WRITE_FAILURE ends it. -/
  | selectReadComplete (saved : Bool)
  | persistenceSaveComplete
  /-- `failed`: the step of a running commit whose write did not read back, if it stood in an earlier one (R187). -/
  | storeWriteFailure (failed : StoreStep)
  | sleepTimerExpiry
  | runningTimeSecond
  /-- The levels at the pins: IN0 to IN23 in per mille of the reference (R47), AN0 to AN7 as 12-bit samples (R53). -/
  | scan (levels : Tab 24 Nat) (samples : Tab 8 Nat)
  | sleepScan (levels : Tab 24 Nat)
  | travelTimerExpiry (d : Fin 6)
  | plausibilityTimerExpiry (d : Fin 6)
  | gaugeUpdate
  | homingTimerExpiry (g : Fin 6)
  | onDelayExpiry (w : Fin 64)
  | offDelayExpiry (w : Fin 64)
  | minimumTimerExpiry
  | autoDismissTimerExpiry
  | stepTimerExpiry
  | bulbCheckTimerExpiry
  | lampSensingResult (l : Fin 24) (r : Sensing)
  | periodTimerExpiry (e : Fin 16)
  | readyAsserted
  | readyDeasserted
  /-- `status`: the status byte the display processor returned during the transfer (R168, section 10.8). -/
  | transferComplete (status : Byte)
  | refreshTimerExpiry
  | stallTimerExpiry
deriving DecidableEq, Repr

end Sys2Proof
end

