-- ==== Sys2Proof/Decode.lean ====
section
/-! DEFINITION. Decode: the commands of this part are events and requests; no row of spec/opcode_table.json gives bits
(every row's "fields" is empty), so no word spells a command. The request messages, which do have a byte layout
(section 10.8), are taken apart in Machine/Service.lean and Machine/Tables.lean as the part itself does it. -/

namespace Sys2Proof

/-- The command that a word spells by the table's bits: none, since the table gives no row any bits. -/
def decodeTableWord (_nbits _w : Nat) : Option Instr := none

end Sys2Proof
end

