-- ==== Sys2Proof/Config.lean ====
section
/-! DEFINITION. Config: the constants the manual fixes for the part, the model's own constant of its delivery loop, and the
free values (opaque constants: nothing in Lean can evaluate them). -/

namespace Sys2Proof

/-- Byte 2 of the identity record (Table 10-6): the manual names the field "Revision" and gives no value.
A free value (log 3): a claim that holds, holds for every revision. -/
opaque Config.revision : Byte

/-- The two code bytes of a fault field that carries no fault code (section 10.8: "a severity of 0xFF marks no fault
code"; the manual does not say what the code bytes then hold). A free value (log 4). -/
opaque Config.absentFaultCode : BitVec 16

/-- Part code of the identity record (Table 10-6). -/
def Config.partCode : Nat := 0x0620

/-- Reassembly gap time in ms (R173). -/
def Config.gapMs : Nat := 200

/-- Interval of the scans in SLEEP in ms (R56). -/
def Config.sleepScanMs : Nat := 100

/-- Plausibility time of a door in ms (R66). -/
def Config.plausibilityMs : Nat := 200

/-- Period of the gauge updates in ms (R84). -/
def Config.gaugeUpdateMs : Nat := 20

/-- Refresh time of the display link in ms (R169). -/
def Config.refreshMs : Nat := 1000

/-- Stall time of the display link in ms (R170). -/
def Config.stallMs : Nat := 500

/-- Code, and severity, of the display link stall (R170). -/
def Config.stallCode : Nat := 0xF002

/-- Code of the profile fallback (R190). -/
def Config.fallbackCode : Nat := 0xF001

/-- Code of a store write failure (R190). -/
def Config.storeFailCode : Nat := 0xF003

/-- The greatest value of a 32-bit counter: attribute values, capture numbers, stamps, running seconds. -/
def Config.max32 : Nat := 4294967295

/-- How many notices between blocks one step delivers at most. What is left then waits for the next step (log 6): a
configuration whose derived signals feed back into the doors that write them can go on for ever. -/
def Config.deliveries : Nat := 65536

end Sys2Proof
end

