-- ==== Sys2Proof/Machine/State.lean ====
section
/-! DEFINITION. State: everything the manual gives the part, block by block (Table 0-1), and the outside's waiting commands.
A timer is its expiry time in ms of the model's clock, `none` while it stands still. A reported flag with its reported code is
`some code` while the flag is set. -/

namespace Sys2Proof.Machine

/-! ### Names shared by the blocks -/

/-- Operating modes (Table 11-2). -/
inductive Mode | starting | active | configuring | standby | sleep
deriving DecidableEq, Repr

/-- Result codes of responses (Table 10-4). -/
inductive Result
  | done | pending | busy | denied | wrongMode | badIndex | badValue | conflict | storeFailed | unknownCommand
deriving DecidableEq, Repr

/-- A fault code with its severity 0 to 3. -/
structure FaultCode where
  code : Nat
  severity : Nat
deriving DecidableEq, Repr

/-- Fault sources (Table 8-1). -/
inductive FaultSource
  | port (p : Port) | entry (e : Fin 128) | discrete (n : Fin 24) | analog (n : Fin 8) | door (d : Fin 6)
  | warning (w : Fin 64) | lamp (l : Fin 24) | displayLink | attr (a : Fin 16) | profileStore
deriving DecidableEq, Repr

/-- Wear event kinds (Table 8-5). -/
inductive WearKind
  | doorCycle | doorSlowClose | doorFault | inputWireFault | lampFault | portBusOff | forwardDrop | frameTimeout
  | gaugeHoming | ignitionCycle
deriving DecidableEq, Repr

/-- Own statuses of a signal (Table 2-1). As a written status every one but `blocked`. -/
inductive OwnStatus | neverReceived | valid | timeout | notAvailable | senderError | wireFault | blocked
deriving DecidableEq, Repr

/-- Effective statuses (Table 2-1). -/
inductive EffStatus | valid | substituted | invalid
deriving DecidableEq, Repr

/-- The effective state of a signal: value, status, reason and qualifier (section 2.1). -/
structure Effective where
  value : Int
  status : EffStatus
  reason : Option OwnStatus
  qual : Bool
deriving DecidableEq, Repr

/-- Derived producer items (section 2.1), in the order of Table 10-7. -/
inductive Producer | door (d : Fin 6) | allClosed | openMoving | displayFault
deriving DecidableEq, Repr

/-- Source kind and source reference of a signal (R22). -/
inductive Source
  | none | frame (e : Fin 128) (slot : Fin 8) | discrete (n : Fin 24) | analog (n : Fin 8) | derived (p : Producer)
  | constant (v : Int)
deriving DecidableEq, Repr

/-- Comparison operators of warnings. -/
inductive Operator | above | below | equal | notEqual
deriving DecidableEq, Repr

/-- Byte orders of payload numbering (R25). -/
inductive ByteOrder | little | big
deriving DecidableEq, Repr

/-! ### The working image: every table loaded by LOAD ENTRY, and the general settings -/

/-- Frame Table entry (Table 1-4). `timeout` counts 10 ms. Bit p of `forward` is port p. -/
structure FrameEntry where
  enabled : Bool
  port : Port
  kind : IdKind
  ident : BitVec 29
  mask : BitVec 29
  minLen : Nat
  timeout : Nat
  forward : BitVec 3
  replacement : Option (BitVec 29)
  urgent : Bool
  mirror : Option (Fin 64)
  fault : Option FaultCode
deriving DecidableEq, Repr

/-- Extraction descriptor (Table 1-7). -/
structure Descriptor where
  target : Option (Fin 256)
  start : Nat
  length : Nat
  order : ByteOrder
  signed : Bool
  invalidCodes : Bool
  gain : Int
  shift : Nat
  offset : Int
deriving DecidableEq, Repr

/-- The part of a signal record held in the working image (Table 2-1). -/
structure SignalConfig where
  source : Source
  min : Int
  max : Int
deriving DecidableEq, Repr

/-- Alternate of a Substitution Table entry. -/
inductive Alternate | none | signal (j : Fin 256) | constant (v : Int)
deriving DecidableEq, Repr

/-- Substitution Table entry (Table 2-7); `forced` is the mode FORCED. -/
structure SubEntry where
  inUse : Bool
  signal : Fin 256
  alternate : Alternate
  forced : Bool
deriving DecidableEq, Repr

/-- Discrete channel configuration (Table 3-2); `activeHigh` is the active level HIGH. -/
structure DiscreteConfig where
  supervised : Bool
  activeHigh : Bool
  debounce : Nat
  target : Option (Fin 256)
  wake : Bool
  fault : Option FaultCode
deriving DecidableEq, Repr

/-- Analog channel configuration (Table 3-6). -/
structure AnalogConfig where
  averaging : Nat
  low : Nat
  high : Nat
  gain : Int
  shift : Nat
  offset : Int
  target : Option (Fin 256)
  fault : Option FaultCode
deriving DecidableEq, Repr

/-- A pattern or OFF (`none`). -/
abbrev Lit := Option (Fin 8)

/-- Door states (Table 4-2), in the order of their codes. -/
inductive DoorState | unknown | closed | released | opening | opened | closing | reversing | emergency | fault
deriving DecidableEq, Repr

/-- Door channel configuration (Table 4-1). `travel` and `slow` count 0.1 s; `lampMap` is in door state order. -/
structure DoorConfig where
  enabled : Bool
  closed : Fin 256
  opened : Option (Fin 256)
  edge : Option (Fin 256)
  handle : Option (Fin 256)
  release : Option (Fin 256)
  travel : Nat
  slow : Nat
  stateSignal : Option (Fin 256)
  fault : Option FaultCode
  lampMap : Tab 9 Lit
deriving DecidableEq, Repr

/-- Fallback of a gauge (Table 5-1). -/
inductive Fallback | hold | rest | position (v : Nat)
deriving DecidableEq, Repr

/-- Gauge channel configuration (Table 5-1). -/
structure GaugeConfig where
  inUse : Bool
  source : Fin 256
  fs : Nat
  points : List (Int × Nat)
  rest : Nat
  damping : Nat
  slew : Nat
  fallback : Fallback
  overrun : Nat
  sweep : Bool
deriving DecidableEq, Repr

/-- A warning's qualifier. -/
structure Qualifier where
  signal : Fin 256
  op : Operator
  threshold : Int
deriving DecidableEq, Repr

/-- Warning definition (Table 6-1); `watch` is the condition kind INVALID_WATCH. Delays and the minimum display time count
0.1 s, the auto-dismiss counts s. -/
structure WarningConfig where
  inUse : Bool
  watch : Bool
  primary : Fin 256
  op : Operator
  threshold : Int
  hysteresis : Int
  qualifier : Option Qualifier
  level : Nat
  onDelay : Nat
  offDelay : Nat
  latching : Bool
  message : Nat
  minimum : Nat
  autoDismiss : Nat
  buzzer : Option (Fin 8 × Nat)
  lamp : Option (Fin 24 × Fin 8)
  fault : Option FaultCode
deriving DecidableEq, Repr

/-- Lamp owner kinds (Table 7-1). -/
inductive LampOwner | none | warnings | signal | door
deriving DecidableEq, Repr

/-- Lamp configuration (Table 7-1). -/
structure LampConfig where
  owner : LampOwner
  signal : Option (Fin 256)
  pattern : Option (Fin 8)
  door : Option (Fin 6)
  standby : Bool
  fault : Option FaultCode
deriving DecidableEq, Repr

/-- A pattern (section 7.2): bit i of `steps` is step i. -/
structure Pattern where
  period : Nat
  steps : BitVec 16
deriving DecidableEq, Repr

/-- A packing descriptor (Table 9-1). -/
structure PackSlot where
  signal : Fin 256
  start : Nat
  length : Nat
  order : ByteOrder
  shift : Nat
  offset : Int
  invalidCodes : Bool
deriving DecidableEq, Repr

/-- The loaded part of a Transmit Schedule entry (Table 9-1). `period` counts 10 ms. -/
structure TransmitEntry where
  inUse : Bool
  port : Port
  kind : IdKind
  ident : BitVec 29
  length : Nat
  period : Nat
  standby : Bool
  slots : Tab 8 (Option PackSlot)
deriving DecidableEq, Repr

/-- Display record kinds with their parameter (Table 9-4). -/
inductive RecordKind
  | none | gauge (g : Fin 6) | value (s : Fin 256) | present | doors | lamps | raw | mode
deriving DecidableEq, Repr

/-- The loaded part of a wear attribute (Table 8-6); source `none` is ANY. INPUT_WIRE_FAULT sources are numbered as in
section 10.8, 0 to 23 for IN0 to IN23 and 24 to 31 for AN0 to AN7. -/
structure AttrConfig where
  inUse : Bool
  kind : WearKind
  source : Option Nat
  threshold : Nat
  fault : Option FaultCode
deriving DecidableEq, Repr

/-- Bit rates of a port. -/
inductive BitRate | k125 | k250 | k500
deriving DecidableEq, Repr

/-- Port settings (Table 1-1). `recovery` counts 10 ms. -/
structure PortConfig where
  inUse : Bool
  bitRate : BitRate
  recovery : Nat
  fault : Option FaultCode
  service : Bool
  serviceKind : IdKind
  request : BitVec 29
  response : BitVec 29
deriving DecidableEq, Repr

/-- The general settings (table GENERAL of Table 10-9). `scanPeriod`, `stepInterval`, `bulbCheck` count ms, `tone` 100 Hz,
`sleepDelay` s; bit n of a mask is level n. -/
structure General where
  ignition : Fin 256
  speed : Fin 256
  brake : Fin 256
  serviceEnable : Fin 256
  ackKey : Fin 256
  dimmer : Fin 256
  movingThreshold : Int
  stationaryMask : Byte
  movingMask : Byte
  allClosed : Option (Fin 256)
  openMoving : Option (Fin 256)
  displayFault : Option (Fin 256)
  scanPeriod : Nat
  stepInterval : Nat
  bulbCheck : Nat
  tone : Nat
  healLimit : Nat
  sleepDelay : Nat
  bl0 : List (Int × Nat)
  bl1 : List (Int × Nat)
  ports : Tab 3 PortConfig
deriving DecidableEq, Repr

/-- A complete working image: every table and the general settings (Table 10-8, R43). -/
structure Image where
  frames : Tab 128 FrameEntry
  extract : Tab 128 (Tab 8 Descriptor)
  signals : Tab 256 SignalConfig
  substitution : Tab 16 SubEntry
  discretes : Tab 24 DiscreteConfig
  analogs : Tab 8 AnalogConfig
  doors : Tab 6 DoorConfig
  gauges : Tab 6 GaugeConfig
  warnings : Tab 64 WarningConfig
  lamps : Tab 24 LampConfig
  patterns : Tab 8 Pattern
  transmit : Tab 16 TransmitEntry
  display : Tab 64 RecordKind
  attrs : Tab 16 AttrConfig
  snapshotList : List (Fin 256)
  general : General
deriving DecidableEq, Repr

/-! ### Run-time state of the blocks -/

/-- Port states (Table 1-2). -/
inductive PortState | offline | errorActive | errorPassive | busOff | listen
deriving DecidableEq, Repr

/-- Receive and error state of a port (section 1.1, 1.8); `bitRate` is the running bit rate (R1). -/
structure PortRun where
  state : PortState
  transmitErrors : Nat
  receiveErrors : Nat
  recovery : Option Nat
  reported : Option Nat
  bitRate : BitRate
deriving DecidableEq, Repr

/-- Statuses of a Frame Table entry (Table 1-5). -/
inductive EntryStatus | waiting | receiving | silent
deriving DecidableEq, Repr

/-- A reception timer: stopped, running with its expiry time, or held at its remaining time through CONFIGURING (R21). -/
inductive ReceptionTimer | stopped | running (expiry : Nat) | held (remaining : Nat)
deriving DecidableEq, Repr

/-- Frame Table entry run-time state (Table 1-5). -/
structure EntryRun where
  status : EntryStatus
  timer : ReceptionTimer
  received : Nat
  lengthErrors : Nat
  reported : Option Nat
deriving DecidableEq, Repr

/-- Frame Engine. -/
structure FrameEngine where
  ports : Tab 3 PortRun
  entries : Tab 128 EntryRun
deriving DecidableEq, Repr

/-- The run-time part of a signal record (Table 2-1). The own status is the written status, or BLOCKED while a substitution
entry blocks the signal (R41): it is computed, not stored twice. -/
structure SignalRun where
  own : Int
  written : OwnStatus
  qual : Bool
  eff : Effective
  held : Int
deriving DecidableEq, Repr

/-- Wire classes (Table 3-4). -/
inductive WireClass | groundShort | low | high | openWire
deriving DecidableEq, Repr

/-- Discrete channel run-time record (Table 3-3). `due` says that the re-report of R51 is to be made at the channel's next scan: since
CLEAR FAULTS, or since a re-initialization that ended a report under a former code (R59). -/
structure DiscreteRun where
  candidate : Option WireClass
  count : Nat
  taken : Option WireClass
  latch : Bool
  reported : Option Nat
  wakeRef : Option WireClass
  wakeCandidate : Option WireClass
  wakeCount : Nat
  due : Bool
deriving DecidableEq, Repr

/-- Analog channel run-time record (Table 3-7), history oldest first; `due` as for a discrete channel (R55). -/
structure AnalogRun where
  history : List Nat
  latch : Bool
  reported : Option Nat
  due : Bool
deriving DecidableEq, Repr

/-- Input Scanner. -/
structure Inputs where
  discretes : Tab 24 DiscreteRun
  analogs : Tab 8 AnalogRun
  scanTimer : Option Nat
  sleepTimer : Option Nat
deriving DecidableEq, Repr

/-- A door's view of a sensor (R62). -/
inductive View | asserted | notAsserted | invalid
deriving DecidableEq, Repr

/-- A door's views, one for each configured sensor role; a role without a sensor has no view (R62). -/
structure Views where
  closed : Option View
  opened : Option View
  edge : Option View
  handle : Option View
  release : Option View
deriving DecidableEq, Repr

/-- Door channel run-time record (Table 4-3), with the lamp request the door holds (R78). `due` says that the re-report of R74 is to
be made at the door's next evaluation event: since CLEAR FAULTS. -/
structure DoorRun where
  state : DoorState
  views : Views
  travel : Option Nat
  plausibility : Option Nat
  closingStart : Option Nat
  reachedOpen : Bool
  reported : Option Nat
  request : Lit
  due : Bool
deriving DecidableEq, Repr

/-- Door Supervisor: channels, the two summaries as last evaluated (R75, R76) and the interlock output, `true` while it is
asserted (R77). -/
structure Doors where
  doors : Tab 6 DoorRun
  allClosed : Bool
  openMoving : Bool
  interlock : Bool
deriving DecidableEq, Repr

/-- Gauge states (Table 5-3), in the order of their codes. -/
inductive GaugeState | unhomed | homing | settling | tracking | fallback | sweep | parking | parked
deriving DecidableEq, Repr

/-- Sweep phases. -/
inductive Phase | up | down
deriving DecidableEq, Repr

/-- Gauge channel run-time record (Table 5-2); `coils` is `true` while they are energized. -/
structure GaugeRun where
  state : GaugeState
  view : Effective
  target : Nat
  filter : Nat
  demand : Nat
  position : Nat
  phase : Phase
  sweepPending : Bool
  testSweep : Bool
  homing : Option Nat
  coils : Bool
deriving DecidableEq, Repr

/-- Gauge Engine. -/
structure Gauges where
  gauges : Tab 6 GaugeRun
  updateTimer : Option Nat
deriving DecidableEq, Repr

/-- Warning states (Table 6-2). -/
inductive WarningState | off | arming | on | releasing | latched
deriving DecidableEq, Repr

/-- Warning run-time record (Table 6-2). -/
structure WarningRun where
  state : WarningState
  primary : Bool
  condition : Bool
  delay : Option Nat
  acked : Bool
  stamp : Option Nat
  reported : Option Nat
deriving DecidableEq, Repr

/-- The Warning Engine's view of a signal (R103). -/
structure WarningView where
  eff : Effective
  delivered : Bool
deriving DecidableEq, Repr

/-- Presentation Stack entry (Table 6-6); shown time in ms. -/
structure StackEntry where
  warning : Fin 64
  level : Nat
  shown : Nat
  ackPending : Bool
  remaining : Nat
deriving DecidableEq, Repr

/-- Warning Engine. `stack` is top first, `waiting` in the order of R114. `moving` says that the moving mask is in force
(R115). `minTimer` and `autoTimer` are the two top timers (R119). -/
structure Warnings where
  recs : Tab 64 WarningRun
  views : Tab 256 WarningView
  stack : List StackEntry
  waiting : List (Fin 64)
  stampCounter : Nat
  moving : Bool
  minTimer : Option Nat
  autoTimer : Option Nat
  request : Option (Fin 8)
  requestNumber : Nat
deriving DecidableEq, Repr

/-- A warning's lamp request (R113). -/
structure LampRequest where
  warning : Fin 64
  level : Nat
  pattern : Fin 8
deriving DecidableEq, Repr

/-- Lamp run-time record (Table 7-2). -/
structure LampRun where
  requests : List LampRequest
  doorRequest : Lit
  view : Effective
  resolved : Lit
  output : Bool
  latch : Bool
  shortOff : Bool
  reported : Option Nat
deriving DecidableEq, Repr

/-- Lamp Unit. `duty0` and `duty1` are the duties held for BL0 and BL1 (R136). `buzzer` is the pattern the buzzer follows and
`buzzerTone` the frequency in Hz at which it sounds at this moment, none while it is silent (R137). -/
structure Lamps where
  lamps : Tab 24 LampRun
  step : Nat
  stepTimer : Option Nat
  bulbTimer : Option Nat
  duty0 : Nat
  duty1 : Nat
  buzzer : Lit
  buzzerTone : Option Nat
deriving DecidableEq, Repr

/-- Fault record (Table 8-2); `active` is the state ACTIVE. -/
structure FaultRecord where
  code : Nat
  source : FaultSource
  severity : Nat
  active : Bool
  occurrences : Nat
  firstSeen : Nat
  lastSeen : Nat
  heal : Nat
  raisedThisCycle : Bool
  slot : Option (Fin 8)
deriving DecidableEq, Repr

/-- Snapshot (Table 8-3). -/
structure Snapshot where
  code : Nat
  source : FaultSource
  number : Nat
  time : Nat
  entries : List (Fin 256 × Effective)
deriving DecidableEq, Repr

/-- The persistent items (Table 11-1, R155): what a persistence save writes. Oldest fault record first. -/
structure Persistent where
  records : List FaultRecord
  slots : Tab 8 (Option Snapshot)
  captures : Nat
  overflow : Bool
  attrValues : Tab 16 Nat
  seconds : Nat
deriving DecidableEq, Repr

/-- A fault report or wear event on its way to the Fault Unit. -/
inductive Report
  | raise (code : Nat) (source : FaultSource) (severity : Nat)
  | clear (code : Nat) (source : FaultSource)
  | wear (kind : WearKind) (index : Nat)
deriving DecidableEq, Repr

/-- Fault Unit: the persistent items in use, the changed flag of Table 11-1, whether the unit has started, the reports held
before its start (R146), and the attributes' reported flags. -/
structure FaultUnit where
  items : Persistent
  changed : Bool
  started : Bool
  held : List Report
  attrReported : Tab 16 (Option Nat)
deriving DecidableEq, Repr

/-- A frame as a port sends it. -/
structure WireFrame where
  kind : IdKind
  ident : BitVec 29
  data : List Byte
deriving DecidableEq, Repr

/-- A forward copy (R15), with the index of the matching entry. -/
structure ForwardCopy where
  frame : WireFrame
  urgent : Bool
  entry : Fin 128
deriving DecidableEq, Repr

/-- What a frame in flight is: a response segment (its bytes), a forward copy, or the frame of a schedule entry; `owed` says
that its completion still counts against the entry's backlog (R164: not after a re-initialization). -/
inductive FlightKind
  | response (segment : List Byte) | forward (copy : ForwardCopy) | own (e : Fin 16) (owed : Bool)
deriving DecidableEq, Repr

/-- The frame in flight. -/
structure Flight where
  kind : FlightKind
  frame : WireFrame
deriving DecidableEq, Repr

/-- The last pick of a port (section 9.3). -/
inductive LastPick | none | own | forward
deriving DecidableEq, Repr

/-- Transmit side of a port (sections 9.2, 9.3), queues oldest first. -/
structure OutPort where
  forward : List ForwardCopy
  response : List (List Byte)
  flight : Option Flight
  lastPick : LastPick
  catchUp : Bool
deriving DecidableEq, Repr

/-- Run-time part of a Transmit Schedule entry. The entry runs while its timer does (R157). -/
structure TransmitRun where
  backlog : Nat
  timer : Option Nat
deriving DecidableEq, Repr

/-- Outbound Unit. -/
structure Outbound where
  ports : Tab 3 OutPort
  schedule : Tab 16 TransmitRun
deriving DecidableEq, Repr

/-- A display record's run-time part (section 9.7): 12 content bytes each. -/
structure DisplayRecord where
  current : List Byte
  lastSent : List Byte
  dirty : Bool
deriving DecidableEq, Repr

/-- Link states (section 9.8). -/
inductive LinkState | running | stalled | idle
deriving DecidableEq, Repr

/-- A transfer in flight: record index, kind code sent with it, and the copy of the content. -/
structure Transfer where
  index : Fin 64
  kindCode : Nat
  copy : List Byte
deriving DecidableEq, Repr

/-- Display Link, with the level of the READY line and the reported flag of 0xF002. -/
structure Display where
  records : Tab 64 DisplayRecord
  link : LinkState
  refresh : Option Nat
  stall : Option Nat
  ready : Bool
  flight : Option Transfer
  reported : Bool
deriving DecidableEq, Repr

/-- Reassembly buffer of a port (section 10.1): `none` is EMPTY. -/
structure Assembly where
  count : Nat
  next : Nat
  bytes : List Byte
deriving DecidableEq, Repr

/-- Load staging record of a port (section 10.6): `none` is EMPTY. -/
structure Staging where
  table : Nat
  index : Nat
  count : Nat
  next : Nat
  bytes : List Byte
deriving DecidableEq, Repr

/-- The timed commands (section 10.5). -/
inductive TimedCommand | commit | select | outputTest
deriving DecidableEq, Repr

/-- What the Service Channel holds for one port. -/
structure ServicePort where
  assembly : Option Assembly
  gap : Option Nat
  staging : Option Staging
deriving DecidableEq, Repr

/-- Service Channel: `workshop` is the access level WORKSHOP, `slot` the timed-command slot (`none` is FREE), `endDue` that the
end of configuration is due when the timed command completes (R179). -/
structure Service where
  ports : Tab 3 ServicePort
  workshop : Bool
  slot : Option (TimedCommand × Port)
  testTimer : Option Nat
  endDue : Bool
deriving DecidableEq, Repr

/-- A profile slot in the store: the image, if one has been written, and whether the stored check agrees with the check
computed over it (log 9). -/
structure ProfileSlot where
  image : Option Image
  checkAgrees : Bool
deriving DecidableEq, Repr

/-- One copy of the persistent area in the store (R189): the items, the active slot record, the save number, and whether the
copy's check agrees (log 9). R189 gives the save number no width and nothing that follows a greatest value: DESIGN CHOICE, it counts
without bound (log 40). -/
structure AreaCopy where
  items : Persistent
  activeSlot : Fin 4
  number : Nat
  valid : Bool
deriving DecidableEq, Repr

/-- The steps of a commit before its save (R187). -/
inductive CommitStep | erase | write | check
deriving DecidableEq, Repr

/-- A waiting store operation (R186). -/
inductive StoreRequest | commit (n : Fin 4) | select (n : Fin 4) | save
deriving DecidableEq, Repr

/-- The running store operation. A commit is in one of its first three steps (R187), or in its fourth, which is a save. A save holds
the items, and where it is neither a commit's nor a select's the slot number, that it took when it began (R189); a select that has
read a good image is saving the slot number (R188). -/
inductive StoreOperation
  | commit (n : Fin 4) (step : CommitStep)
  | commitSave (n : Fin 4) (items : Persistent)
  | selectRead (n : Fin 4)
  | selectSave (n : Fin 4) (items : Persistent)
  | save (items : Persistent) (slot : Fin 4)
deriving DecidableEq, Repr

/-- Profile Store. `secondIsCurrent` says that copy B is the current copy, A otherwise. -/
structure Store where
  slots : Tab 4 ProfileSlot
  status : Tab 4 Bool
  copyA : AreaCopy
  copyB : AreaCopy
  secondIsCurrent : Bool
  operation : Option StoreOperation
  waiting : List StoreRequest
  failure : Bool
  reportedFallback : Bool
  reportedFailure : Bool
deriving DecidableEq, Repr

/-- Mode Controller (Table 11-1, R192); `remainder` is the millisecond remainder of the running time, `allClosed` the summary
last reported to it (R75), `faultCount` and `faultOverflow` what the Fault Unit last handed it for the MODE record (R149). -/
structure Controller where
  mode : Mode
  activeSlot : Fin 4
  fallback : Bool
  sleepTimer : Option Nat
  remainder : Nat
  allClosed : Bool
  faultCount : Nat
  faultOverflow : Bool
deriving DecidableEq, Repr

/-- A write of a signal by its source (R24): a value already clamped by the conversion, with its qualifier; a bare value; or a
status other than VALID. -/
inductive SignalWrite
  | converted (v : Int) (qual : Bool) | bare (v : Int) | status (st : OwnStatus)
deriving DecidableEq, Repr

/-- A notice one block sends another, waiting to be taken (section 0.1.3). -/
inductive Notice
  | update (i : Fin 256) (e : Effective)
  | write (i : Fin 256) (w : SignalWrite)
  | report (r : Report)
  | record (k : RecordKind) (content : List Byte)
  | mirror (r : Fin 64) (content : List Byte)
  | faultCount (records : Nat) (overflow : Bool)
  | forward (p : Port) (c : ForwardCopy)
  | respond (p : Port) (code : Nat) (r : Result) (data : List Byte)
  | lampGive (l : Fin 24) (r : LampRequest)
  | lampWithdraw (l : Fin 24) (w : Fin 64)
  | doorRequest (d : Fin 6) (pattern : Lit)
  | buzzer
  | repetition (number : Nat)
  | activity
  | allClosed (b : Bool)
  | wake
  | endConfiguration
  | testStart
  | testEnd
deriving DecidableEq, Repr

/-- Why the part stops. The manual gives no command at which the part stops, and the model adds none: there is no such
reason (log 30). -/
inductive Fault
deriving DecidableEq, Repr

/-- Why a command is not run. -/
inductive Refusal
  /-- The command has no meaning yet. Raised by a dispatch arm alone. Safe: the model stops where the part goes on. -/
  | notModelled (mnemonic : String)
deriving DecidableEq, Repr

/-- The part. `pending` is the queue of the outside's commands, `mail` the notices between blocks not yet taken (empty between
steps, log 6), `now` the model's clock in ms (log 1), `image` the working image and `running` the configuration the blocks took
from it at their last start or re-initialization. -/
structure State where
  pending : List Instr
  mail : List Notice
  now : Nat
  control : Controller
  image : Image
  running : Image
  frames : FrameEngine
  signals : Tab 256 SignalRun
  inputs : Inputs
  doors : Doors
  gauges : Gauges
  warnings : Warnings
  lamps : Lamps
  faults : FaultUnit
  outbound : Outbound
  display : Display
  service : Service
  store : Store
deriving DecidableEq, Repr

/-! ### Reset values -/

/-- The effective state held before any value: INVALID, NEVER_RECEIVED, 0. -/
def Effective.none : Effective := ⟨0, .invalid, some .neverReceived, false⟩

/-- An unused Frame Table entry. -/
def FrameEntry.blank : FrameEntry :=
  ⟨false, 0, .standard, 0, 0, 0, 0, 0, none, false, none, none⟩

/-- An empty extraction slot. -/
def Descriptor.blank : Descriptor := ⟨none, 0, 1, .little, false, false, 0, 0, 0⟩

/-- A signal without source, with the widest limits. -/
def SignalConfig.blank : SignalConfig := ⟨.none, -2147483648, 2147483647⟩

/-- A Substitution Table entry not in use. -/
def SubEntry.blank : SubEntry := ⟨false, 0, .none, false⟩

/-- A discrete channel with neither target nor wake. -/
def DiscreteConfig.blank : DiscreteConfig := ⟨true, false, 1, none, false, none⟩

/-- An analog channel without target. -/
def AnalogConfig.blank : AnalogConfig := ⟨1, 0, 4095, 0, 0, 0, none, none⟩

/-- A disabled door channel. -/
def DoorConfig.blank : DoorConfig :=
  ⟨false, 0, none, none, none, none, 5, 0, none, none, Tab.replicate 9 none⟩

/-- A gauge not in use. -/
def GaugeConfig.blank : GaugeConfig := ⟨false, 0, 100, [(0, 0), (1, 0)], 0, 0, 1, .hold, 0, false⟩

/-- A warning not in use. -/
def WarningConfig.blank : WarningConfig :=
  ⟨false, false, 0, .above, 0, 0, none, 0, 0, 0, false, 0, 0, 0, none, none, none⟩

/-- A lamp without owner. -/
def LampConfig.blank : LampConfig := ⟨.none, none, none, none, false, none⟩

/-- PT0: period 1, step 0 on (R127). -/
def Pattern.steady : Pattern := ⟨1, 1⟩

/-- A Transmit Schedule entry not in use. -/
def TransmitEntry.blank : TransmitEntry := ⟨false, 0, .standard, 0, 0, 1, false, Tab.replicate 8 none⟩

/-- An attribute not in use. -/
def AttrConfig.blank : AttrConfig := ⟨false, .doorCycle, none, 0, none⟩

/-- A port not in use. -/
def PortConfig.blank : PortConfig := ⟨false, .k125, 10, none, false, .standard, 0, 0⟩

/-- Factory general settings: scan period 5 ms (R45), step interval 125 ms, bulb check 2000 ms, tone 2800 Hz and backlight
characteristics (0, 200), (1000, 1000) (Table 7-3), heal limit 40 (section 8.3). The manual gives no others: DESIGN CHOICE
(log 5): every designation names signal 0, threshold 0, masks empty, no summary signals, sleep delay 60 s, no port in use. -/
def General.factory : General :=
  ⟨0, 0, 0, 0, 0, 0, 0, 0, 0, none, none, none, 5, 125, 2000, 28, 40, 60,
    [(0, 200), (1000, 1000)], [(0, 200), (1000, 1000)], Tab.replicate 3 PortConfig.blank⟩

/-- The factory image of slot 0: the settings the manual gives it, every table unused (DESIGN CHOICE, log 5). -/
def Image.factory : Image where
  frames := Tab.replicate 128 FrameEntry.blank
  extract := Tab.replicate 128 (Tab.replicate 8 Descriptor.blank)
  signals := Tab.replicate 256 SignalConfig.blank
  substitution := Tab.replicate 16 SubEntry.blank
  discretes := Tab.replicate 24 DiscreteConfig.blank
  analogs := Tab.replicate 8 AnalogConfig.blank
  doors := Tab.replicate 6 DoorConfig.blank
  gauges := Tab.replicate 6 GaugeConfig.blank
  warnings := Tab.replicate 64 WarningConfig.blank
  lamps := Tab.replicate 24 LampConfig.blank
  patterns := Tab.replicate 8 Pattern.steady
  transmit := Tab.replicate 16 TransmitEntry.blank
  display := Tab.replicate 64 .none
  attrs := Tab.replicate 16 AttrConfig.blank
  snapshotList := []
  general := General.factory

/-- The empty state of the persistent area (R146, R189). -/
def Persistent.empty : Persistent :=
  ⟨[], Tab.replicate 8 none, 0, false, Tab.replicate 16 0, 0⟩

/-- A port after reset (R1). -/
def PortRun.reset : PortRun := ⟨.offline, 0, 0, none, none, .k125⟩

/-- An entry after reset (R17). -/
def EntryRun.reset : EntryRun := ⟨.waiting, .stopped, 0, 0, none⟩

/-- A signal before STARTING has put an image in place (R44: no signal state is held). -/
def SignalRun.reset : SignalRun := ⟨0, .neverReceived, false, Effective.none, 0⟩

/-- A discrete channel after reset (R57, Table 3-9). Its wake candidate is none and its wake count 0: neither rule nor table gives
them a value (DESIGN CHOICE, log 47). -/
def DiscreteRun.reset : DiscreteRun := ⟨none, 0, none, false, none, none, none, 0, false⟩

/-- An analog channel after reset (R57). -/
def AnalogRun.reset : AnalogRun := ⟨[], false, none, false⟩

/-- No views. -/
def Views.none : Views := ⟨.none, .none, .none, .none, .none⟩

/-- A door after reset (R80). R80 gives the closing start no reset value: DESIGN CHOICE, none until the first entry to CLOSING
(log 8). -/
def DoorRun.reset : DoorRun := ⟨.unknown, Views.none, none, none, none, false, none, none, false⟩

/-- A gauge after reset (R84): its coils are off. -/
def GaugeRun.reset : GaugeRun := ⟨.unhomed, Effective.none, 0, 0, 0, 0, .up, false, false, none, false⟩

/-- A warning after reset (R124). -/
def WarningRun.reset : WarningRun := ⟨.off, false, false, none, false, none, none⟩

/-- A view before it is set up. -/
def WarningView.reset : WarningView := ⟨Effective.none, false⟩

/-- A lamp after reset (R139). -/
def LampRun.reset : LampRun := ⟨[], none, Effective.none, none, false, false, false, none⟩

/-- Transmit side of a port after reset (R164). -/
def OutPort.reset : OutPort := ⟨[], [], none, .none, false⟩

/-- The empty content of a display record (section 10.8). -/
def DisplayRecord.emptyContent : List Byte := List.replicate 12 0

/-- A display record after reset (R166). -/
def DisplayRecord.reset : DisplayRecord := ⟨DisplayRecord.emptyContent, DisplayRecord.emptyContent, false⟩

/-- Frame Engine after reset (R1, R17). -/
def FrameEngine.reset : FrameEngine := ⟨Tab.replicate 3 PortRun.reset, Tab.replicate 128 EntryRun.reset⟩

/-- Input Scanner after reset (R45, R57). -/
def Inputs.reset : Inputs := ⟨Tab.replicate 24 DiscreteRun.reset, Tab.replicate 8 AnalogRun.reset, none, none⟩

/-- Door Supervisor after reset (R77, R80): summary 0, interlock asserted. -/
def Doors.reset : Doors := ⟨Tab.replicate 6 DoorRun.reset, false, false, true⟩

/-- Gauge Engine after reset (R84). -/
def Gauges.reset : Gauges := ⟨Tab.replicate 6 GaugeRun.reset, none⟩

/-- Warning Engine after reset (R124). -/
def Warnings.reset : Warnings :=
  ⟨Tab.replicate 64 WarningRun.reset, Tab.replicate 256 WarningView.reset, [], [], 0, false, none, none, none, 0⟩

/-- Lamp Unit after reset (R139). -/
def Lamps.reset : Lamps := ⟨Tab.replicate 24 LampRun.reset, 0, none, none, 0, 0, none, none⟩

/-- Fault Unit after reset: it holds nothing until its start (R146). -/
def FaultUnit.reset : FaultUnit := ⟨Persistent.empty, false, false, [], Tab.replicate 16 none⟩

/-- Outbound Unit after reset (R164). -/
def Outbound.reset : Outbound := ⟨Tab.replicate 3 OutPort.reset, Tab.replicate 16 ⟨0, none⟩⟩

/-- Display Link after reset (R166, R171) with the READY line at the level given. -/
def Display.reset (ready : Bool) : Display :=
  ⟨Tab.replicate 64 DisplayRecord.reset, .running, none, none, ready, none, false⟩

/-- Service Channel after reset (R173, R180, R182). -/
def Service.reset : Service := ⟨Tab.replicate 3 ⟨none, none, none⟩, false, none, none, false⟩

/-- The store of a part fresh from manufacture (log 5): the factory image in slot 0, the other slots erased, neither copy of
the persistent area valid. -/
def Store.factory : Store :=
  ⟨(Tab.replicate 4 ⟨none, false⟩).set 0 ⟨some Image.factory, true⟩, Tab.replicate 4 false,
    ⟨Persistent.empty, 0, 0, false⟩, ⟨Persistent.empty, 0, 0, false⟩, true, none, [], false, false, false⟩

/-- Mode Controller after reset (R191, R75); the Fault Unit holds nothing yet (R146), so nothing has been handed. -/
def Controller.reset : Controller := ⟨.starting, 0, false, none, 0, false, 0, false⟩

/-- The part right after reset, around the store and the READY line given (neither is reset with the part), with the model's
queue and clock. The working image is volatile and not yet in place: it stands at the unused image (log 8). -/
def State.resetWith (store : Store) (ready : Bool) (pending : List Instr) (now : Nat) : State where
  pending := pending
  mail := []
  now := now
  control := Controller.reset
  image := Image.factory
  running := Image.factory
  frames := FrameEngine.reset
  signals := Tab.replicate 256 SignalRun.reset
  inputs := Inputs.reset
  doors := Doors.reset
  gauges := Gauges.reset
  warnings := Warnings.reset
  lamps := Lamps.reset
  faults := FaultUnit.reset
  outbound := Outbound.reset
  display := Display.reset ready
  service := Service.reset
  store := store

/-- The part right after its first reset: a fresh store, READY deasserted (log 12), nothing waiting. -/
def State.reset : State := State.resetWith Store.factory false [] 0

end Sys2Proof.Machine
end

