-- ==== Sys2Proof/Machine/Ops.lean ====
section
/-! DEFINITION. Ops: what every block uses: how a block takes an event (`Acc`, the lifts `State.run…`), timers, exact
arithmetic, and the questions a block asks of the others. -/

namespace Sys2Proof.Machine

/-! ### Taking an event -/

/-- A block's state while it takes an event, with the notices it has sent so far, oldest first. -/
structure Acc (β : Type) where
  st : β
  out : List Notice

namespace Acc
variable {β : Type}

/-- Sends one notice. -/
def say (n : Notice) (a : Acc β) : Acc β := ⟨a.st, a.out ++ [n]⟩

/-- Sends notices. -/
def sayAll (l : List Notice) (a : Acc β) : Acc β := ⟨a.st, a.out ++ l⟩

/-- Sends a notice when `b` holds. -/
def sayIf (b : Bool) (n : Notice) (a : Acc β) : Acc β := if b then a.say n else a

/-- Changes the block's state. -/
def upd (f : β → β) (a : Acc β) : Acc β := ⟨f a.st, a.out⟩

/-- `f` when `b` holds. -/
def when (b : Bool) (f : Acc β → Acc β) (a : Acc β) : Acc β := if b then f a else a

/-- `f` at every row number below `n`, in increasing order. -/
def each (n : Nat) (f : Fin n → Acc β → Acc β) (a : Acc β) : Acc β :=
  (List.finRange n).foldl (fun a i => f i a) a

/-- `f` at every item of a list, in order. -/
def eachOf {α : Type} (l : List α) (f : α → Acc β → Acc β) (a : Acc β) : Acc β :=
  l.foldl (fun a x => f x a) a

end Acc

/-- A row with the notices its event sends. -/
abbrev Told (α : Type) := α × List Notice

/-- Row `i` of a table takes an event. -/
def tellRow {n : Nat} {α : Type} (t : Tab n α) (i : Fin n) (f : α → Told α) : Told (Tab n α) :=
  let r := f (t.get i)
  (t.set i r.1, r.2)

/-- Every row of a table takes an event, in order. -/
def tellRows {n : Nat} {α : Type} (t : Tab n α) (f : Fin n → α → Told α) : Told (Tab n α) :=
  let rows := t.mapIdx f
  (rows.map (·.1), rows.list.flatMap (·.2))

/-! Each lift runs a block's function on that block alone and puts its notices at the end of the mail: nothing else of the
part changes. The function reads the rest of the part as it stands in the state it is given. -/

/-- Frame Engine. -/
def State.runFrames (f : State → Acc FrameEngine → Acc FrameEngine) (s : State) : State :=
  let a := f s ⟨s.frames, []⟩
  { s with frames := a.st, mail := s.mail ++ a.out }

/-- Signal Store. -/
def State.runSignals (f : State → Acc (Tab 256 SignalRun) → Acc (Tab 256 SignalRun)) (s : State) : State :=
  let a := f s ⟨s.signals, []⟩
  { s with signals := a.st, mail := s.mail ++ a.out }

/-- Input Scanner. -/
def State.runInputs (f : State → Acc Inputs → Acc Inputs) (s : State) : State :=
  let a := f s ⟨s.inputs, []⟩
  { s with inputs := a.st, mail := s.mail ++ a.out }

/-- Door Supervisor. -/
def State.runDoors (f : State → Acc Doors → Acc Doors) (s : State) : State :=
  let a := f s ⟨s.doors, []⟩
  { s with doors := a.st, mail := s.mail ++ a.out }

/-- Gauge Engine. -/
def State.runGauges (f : State → Acc Gauges → Acc Gauges) (s : State) : State :=
  let a := f s ⟨s.gauges, []⟩
  { s with gauges := a.st, mail := s.mail ++ a.out }

/-- Warning Engine. -/
def State.runWarnings (f : State → Acc Warnings → Acc Warnings) (s : State) : State :=
  let a := f s ⟨s.warnings, []⟩
  { s with warnings := a.st, mail := s.mail ++ a.out }

/-- Lamp Unit. -/
def State.runLamps (f : State → Acc Lamps → Acc Lamps) (s : State) : State :=
  let a := f s ⟨s.lamps, []⟩
  { s with lamps := a.st, mail := s.mail ++ a.out }

/-- Fault Unit. -/
def State.runFaults (f : State → Acc FaultUnit → Acc FaultUnit) (s : State) : State :=
  let a := f s ⟨s.faults, []⟩
  { s with faults := a.st, mail := s.mail ++ a.out }

/-- Outbound Unit. -/
def State.runOutbound (f : State → Acc Outbound → Acc Outbound) (s : State) : State :=
  let a := f s ⟨s.outbound, []⟩
  { s with outbound := a.st, mail := s.mail ++ a.out }

/-- Display Link. -/
def State.runDisplay (f : State → Acc Display → Acc Display) (s : State) : State :=
  let a := f s ⟨s.display, []⟩
  { s with display := a.st, mail := s.mail ++ a.out }

/-- Service Channel. -/
def State.runService (f : State → Acc Service → Acc Service) (s : State) : State :=
  let a := f s ⟨s.service, []⟩
  { s with service := a.st, mail := s.mail ++ a.out }

/-- Profile Store. -/
def State.runStore (f : State → Acc Store → Acc Store) (s : State) : State :=
  let a := f s ⟨s.store, []⟩
  { s with store := a.st, mail := s.mail ++ a.out }

/-- Mode Controller. -/
def State.runControl (f : State → Acc Controller → Acc Controller) (s : State) : State :=
  let a := f s ⟨s.control, []⟩
  { s with control := a.st, mail := s.mail ++ a.out }

/-- Puts a notice at the end of the mail. -/
def State.send (n : Notice) (s : State) : State := { s with mail := s.mail ++ [n] }

/-! ### Time -/

/-- Lets `dt` milliseconds pass: the clock, the running time's remainder in ACTIVE (R192) and the shown time of the top entry
(R119) advance. -/
def State.advance (dt : Nat) (s : State) : State :=
  { s with
    now := s.now + dt
    control := if s.control.mode = .active then { s.control with remainder := s.control.remainder + dt } else s.control
    warnings :=
      match s.warnings.stack with
      | [] => s.warnings
      | top :: rest => { s.warnings with stack := { top with shown := top.shown + dt } :: rest } }

/-- Moves the clock to the time `t`, or leaves it where it is already later (log 1). -/
def State.advanceTo (t : Nat) (s : State) : State := s.advance (t - s.now)

/-! ### Arithmetic -/

/-- `v` cut to the limits `lo` to `hi` (R30). -/
def clamp (lo hi v : Int) : Int := if v < lo then lo else if hi < v then hi else v

/-- Steps 5 (R29): `v` times gain, divided by 2 to the shift with rounding toward minus infinity, plus offset. -/
def scale (gain : Int) (shift : Nat) (offset v : Int) : Int := (v * gain) / (2 : Int) ^ shift + offset

/-- Stage 1 of the gauge arithmetic (R87): a piecewise-linear characteristic at `v`, the correction truncated toward zero. -/
def interpolate : List (Int × Nat) → Int → Nat
  | [], _ => 0
  | [(_, p)], _ => p
  | (x₀, p₀) :: (x₁, p₁) :: rest, v =>
    if v ≤ x₀ then p₀
    else if v < x₁ then (p₀ + ((v - x₀) * ((p₁ : Int) - p₀)).tdiv (x₁ - x₀)).toNat
    else interpolate ((x₁, p₁) :: rest) v

/-- `n` plus 1, saturating at `top`. -/
def satSucc (top n : Nat) : Nat := if n < top then n + 1 else n

/-- `v` as `n` bytes, the least significant first (0.4, Byte order). -/
def leBytes : Nat → Nat → List Byte
  | 0, _ => []
  | n + 1, v => BitVec.ofNat 8 v :: leBytes n (v / 256)

/-- A signed value as `n` bytes, two's complement, the least significant first. -/
def leSigned (n : Nat) (v : Int) : List Byte := leBytes n (v % (256 : Int) ^ n).toNat

/-- The number that bytes hold, the least significant first. -/
def leNat : List Byte → Nat
  | [] => 0
  | b :: rest => b.toNat + 256 * leNat rest

/-- The signed number of `bits` bits that the unsigned `v` holds. -/
def toSigned (bits v : Nat) : Int := if v < 2 ^ (bits - 1) then v else (v : Int) - 2 ^ bits

/-- A yes-or-no as a byte. -/
def flagByte (b : Bool) : Byte := if b then 1 else 0

/-- A small number as a byte. -/
def byte (n : Nat) : Byte := BitVec.ofNat 8 n

/-- An optional index as a byte, 0xFF for absent (section 10.8). -/
def optByte (o : Option Nat) : Byte := match o with | some n => byte n | none => 0xFF

/-- `l` filled with zero bytes to 12 (Table 10-11). -/
def content12 (l : List Byte) : List Byte := l ++ List.replicate (12 - l.length) 0

/-! ### Codes (section 10.8) -/

def Mode.code : Mode → Nat
  | .starting => 0 | .active => 1 | .configuring => 2 | .standby => 3 | .sleep => 4

def OwnStatus.code : OwnStatus → Nat
  | .neverReceived => 0 | .valid => 1 | .timeout => 2 | .notAvailable => 3 | .senderError => 4 | .wireFault => 5
  | .blocked => 6

def EffStatus.code : EffStatus → Nat
  | .valid => 0 | .substituted => 1 | .invalid => 2

def DoorState.code : DoorState → Nat
  | .unknown => 0 | .closed => 1 | .released => 2 | .opening => 3 | .opened => 4 | .closing => 5 | .reversing => 6
  | .emergency => 7 | .fault => 8

def GaugeState.code : GaugeState → Nat
  | .unhomed => 0 | .homing => 1 | .settling => 2 | .tracking => 3 | .fallback => 4 | .sweep => 5 | .parking => 6
  | .parked => 7

def WearKind.code : WearKind → Nat
  | .doorCycle => 0 | .doorSlowClose => 1 | .doorFault => 2 | .inputWireFault => 3 | .lampFault => 4 | .portBusOff => 5
  | .forwardDrop => 6 | .frameTimeout => 7 | .gaugeHoming => 8 | .ignitionCycle => 9

/-- Wear event kinds in code order. -/
def WearKind.all : List WearKind :=
  [.doorCycle, .doorSlowClose, .doorFault, .inputWireFault, .lampFault, .portBusOff, .forwardDrop, .frameTimeout,
    .gaugeHoming, .ignitionCycle]

/-- Kind code of a fault source (Table 8-1 order). -/
def FaultSource.kindCode : FaultSource → Nat
  | .port _ => 0 | .entry _ => 1 | .discrete _ => 2 | .analog _ => 3 | .door _ => 4 | .warning _ => 5 | .lamp _ => 6
  | .displayLink => 7 | .attr _ => 8 | .profileStore => 9

/-- Index of a fault source within its kind. -/
def FaultSource.index : FaultSource → Nat
  | .port p => p.val | .entry e => e.val | .discrete n => n.val | .analog n => n.val | .door d => d.val
  | .warning w => w.val | .lamp l => l.val | .displayLink => 0 | .attr a => a.val | .profileStore => 0

def RecordKind.code : RecordKind → Nat
  | .none => 0 | .gauge _ => 1 | .value _ => 2 | .present => 3 | .doors => 4 | .lamps => 5 | .raw => 6 | .mode => 7

def Result.code : Result → Nat
  | .done => 0 | .pending => 1 | .busy => 2 | .denied => 3 | .wrongMode => 4 | .badIndex => 5 | .badValue => 6
  | .conflict => 7 | .storeFailed => 8 | .unknownCommand => 9

/-- Command codes of the timed commands (Table 10-5). -/
def TimedCommand.code : TimedCommand → Nat
  | .commit => 0x23 | .select => 0x24 | .outputTest => 0x30

/-! ### Questions -/

/-- The effective state of signal `i` as it stands. -/
def State.eff (s : State) (i : Fin 256) : Effective := (s.signals.get i).eff

/-- The status is VALID or SUBSTITUTED. -/
def Effective.good (e : Effective) : Bool := e.status != .invalid

/-- A signal is asserted when it is VALID or SUBSTITUTED and non-zero (R37). -/
def Effective.asserted (e : Effective) : Bool := e.good && e.value != 0

/-- The moving condition on the speed signal's effective state (R38). -/
def Effective.moving (e : Effective) (threshold : Int) : Bool := !e.good || decide (threshold < e.value)

/-- The moving condition by the running designation and threshold (R37, R38). -/
def State.moving (s : State) : Bool :=
  (s.eff s.running.general.speed).moving s.running.general.movingThreshold

/-- The ignition as it stands is asserted. -/
def State.ignition (s : State) : Bool := (s.eff s.running.general.ignition).asserted

/-- An output test runs: it holds the timed-command slot (R180, R184). -/
def State.testRuns (s : State) : Bool :=
  match s.service.slot with
  | some (.outputTest, _) => true
  | _ => false

/-- The running record kinds define a record as `k` (R165). -/
def Image.defines (img : Image) (k : RecordKind) : Bool := img.display.list.any (· == k)

end Sys2Proof.Machine
end

