-- ==== Sys2Proof/Machine/Flags.lean ====
section
/-! DEFINITION. Flags: reported flags with their reported codes, which every reporter of Table 8-1 keeps, and the comparisons
whose outcomes are kept as truths (R104, R105). -/

namespace Sys2Proof.Machine

/-- A reporter's raise: only while its reported flag is clear, and only with a fault code; the raise sets the flag and records
the code (R20, R50, R74, R112, R134, R152). -/
def raiseFlag (reported : Option Nat) (fault : Option FaultCode) (source : FaultSource) : Option Nat × List Notice :=
  match reported, fault with
  | none, some f => (some f.code, [.report (.raise f.code source f.severity)])
  | r, _ => (r, [])

/-- A reporter's clear: while its flag is set, under the recorded code; then the flag is clear (R20, R49, R74, R112, R134). -/
def clearFlag (reported : Option Nat) (source : FaultSource) : Option Nat × List Notice :=
  match reported with
  | some code => (none, [.report (.clear code source)])
  | none => (none, [])

/-- A change of configuration under a set flag: a different code, or none, ends the report (R59, R135, R154). -/
def recodeFlag (reported : Option Nat) (fault : Option FaultCode) (source : FaultSource) : Option Nat × List Notice :=
  if reported.isSome && reported != fault.map (·.code) then clearFlag reported source else (reported, [])

/-- `a` stands in the operator to `b` (R105). -/
def Operator.holds (op : Operator) (a b : Int) : Bool :=
  match op with
  | .above => decide (b < a)
  | .below => decide (a < b)
  | .equal => decide (a = b)
  | .notEqual => decide (a ≠ b)

/-- The primary truth after a comparison of `v` (Table 6-3), from the present truth. -/
def Operator.truth (op : Operator) (threshold hysteresis : Int) (present : Bool) (v : Int) : Bool :=
  match op, present with
  | .above, false => decide (threshold < v)
  | .above, true => decide (threshold - hysteresis < v)
  | .below, false => decide (v < threshold)
  | .below, true => decide (v < threshold + hysteresis)
  | .equal, _ => decide (v = threshold)
  | .notEqual, _ => decide (v ≠ threshold)

end Sys2Proof.Machine
end

