-- ==== Sys2Proof/Machine/Doors.lean ====
section
/-! DEFINITION. Doors: the Door Supervisor (R60 to R82). Doors run with the configuration taken at the last start or
re-initialization; fault codes are the working image's (R74). -/

namespace Sys2Proof.Machine

/-! ### Views and pictures (section 4.3) -/

/-- A door's view of a sensor's effective state (R62). -/
def View.of (e : Effective) : View :=
  if !e.good then .invalid else if e.value = 0 then .notAsserted else .asserted

/-- The views of every role the configuration names (R62). -/
def Views.of (cfg : DoorConfig) (eff : Fin 256 → Effective) : Views where
  closed := some (.of (eff cfg.closed))
  opened := cfg.opened.map fun i => .of (eff i)
  edge := cfg.edge.map fun i => .of (eff i)
  handle := cfg.handle.map fun i => .of (eff i)
  release := cfg.release.map fun i => .of (eff i)

/-- The door's configuration names signal `i` as a sensor. -/
def DoorConfig.names (cfg : DoorConfig) (i : Fin 256) : Bool :=
  cfg.closed == i || cfg.opened == some i || cfg.edge == some i || cfg.handle == some i || cfg.release == some i

/-- The views after an update event of signal `i` (R62). -/
def Views.update (cfg : DoorConfig) (i : Fin 256) (e : Effective) (v : Views) : Views where
  closed := if cfg.closed = i then some (.of e) else v.closed
  opened := if cfg.opened = some i then some (.of e) else v.opened
  edge := if cfg.edge = some i then some (.of e) else v.edge
  handle := if cfg.handle = some i then some (.of e) else v.handle
  release := if cfg.release = some i then some (.of e) else v.release

/-- A required sensor's view is INVALID (R62, R65). -/
def requiredInvalid (cfg : DoorConfig) (v : Views) : Bool :=
  v.closed == some .invalid || (if cfg.opened.isSome then v.opened == some .invalid else v.release == some .invalid)

/-- A sensor conflict (R66). -/
def conflict (cfg : DoorConfig) (v : Views) : Bool :=
  cfg.opened.isSome && v.closed == some .asserted && v.opened == some .asserted

/-- The open indication (section 4.3). -/
def openIndication (cfg : DoorConfig) (v : Views) : Bool :=
  if cfg.opened.isSome then v.opened == some .asserted
  else v.closed == some .notAsserted && v.release == some .asserted

/-- The sensor picture. -/
inductive Picture | closed | opened | midway
deriving DecidableEq, Repr

def picture (cfg : DoorConfig) (v : Views) : Picture :=
  if openIndication cfg v then .opened else if v.closed == some .asserted then .closed else .midway

/-- "CLOSED or RELEASED" (R67). -/
def closedOrReleased (v : Views) : DoorState := if v.release == some .asserted then .released else .closed

/-- "CLOSING, edge" (R69). -/
def closingEdge (v : Views) : DoorState := if v.edge == some .asserted then .reversing else .closing

/-- Table 4-4 with the changes of R68 for a door without an open sensor. -/
def doorTable (cfg : DoorConfig) (v : Views) (present : DoorState) : DoorState :=
  match picture cfg v, present with
  | .closed, _ => closedOrReleased v
  | .opened, .emergency => .emergency
  | .opened, _ => .opened
  | .midway, .closed | .midway, .released => if cfg.opened.isSome then .opening else closingEdge v
  | .midway, .opening => .opening
  | .midway, .emergency => .emergency
  | .midway, .fault => .fault
  | .midway, _ => closingEdge v

/-! ### State changes (sections 4.4 to 4.6) -/

/-- OPENING, CLOSING and REVERSING. -/
def DoorState.transit : DoorState → Bool
  | .opening | .closing | .reversing => true
  | _ => false

/-- A write of a derived signal, made only while its source record names the producer (R82). -/
def derivedWrite (img : Image) (target : Option (Fin 256)) (p : Producer) (v : Int) : List Notice :=
  match target with
  | some i => if (img.signals.get i).source == .derived p then [.write i (.bare v)] else []
  | none => []

/-- The lamp map entry of a state (R78). -/
def DoorConfig.lampFor (cfg : DoorConfig) (st : DoorState) : Lit := (cfg.lampMap.list[st.code]?).getD none

/-- Wear events of a state change (R73). -/
def doorWear (d : Fin 6) (cfg : DoorConfig) (now : Nat) (r : DoorRun) (st : DoorState) : List Notice :=
  let completed := (r.state == .closing || r.state == .reversing) && (st == .closed || st == .released)
  let slow := match r.closingStart with
    | some t => cfg.slow != 0 && decide (cfg.slow * 100 < now - t)
    | none => false
  (if completed && r.reachedOpen then [.report (.wear .doorCycle d.val)] else [])
    ++ (if completed && slow then [.report (.wear .doorSlowClose d.val)] else [])
    ++ (if st == .fault then [.report (.wear .doorFault d.val)] else [])

/-- A door goes to the state `st`, with the effects of R70 to R74 when that is a state change. -/
def enterDoor (img : Image) (d : Fin 6) (cfg : DoorConfig) (now : Nat) (st : DoorState) (r : DoorRun) : Told DoorRun :=
  if st = r.state then (r, [])
  else
    let report :=
      if st == .fault then raiseFlag r.reported (img.doors.get d).fault (.door d)
      else if r.state == .fault then clearFlag r.reported (.door d)
      else (r.reported, [])
    ({ r with
        state := st
        travel := if st.transit then some (now + cfg.travel * 100) else none
        plausibility := none
        closingStart := if st == .closing then some now else r.closingStart
        reachedOpen :=
          match st with
          | .opened => true
          | .closed | .released | .unknown => false
          | _ => r.reachedOpen
        reported := report.1
        request := cfg.lampFor st },
      derivedWrite img cfg.stateSignal (.door d) st.code ++ [.doorRequest d (cfg.lampFor st), .activity]
        ++ doorWear d cfg now r st ++ report.2)

/-- The re-report of a door at an evaluation event (R74): only at the first one after CLEAR FAULTS, and only in FAULT. -/
def doorRereport (img : Image) (d : Fin 6) (r : DoorRun) : Option Nat × List Notice :=
  if r.due && r.state == .fault then raiseFlag r.reported (img.doors.get d).fault (.door d) else (r.reported, [])

/-- One evaluation of an enabled door (R63 to R69), after the re-report of R74. -/
def evaluateDoor (img : Image) (d : Fin 6) (cfg : DoorConfig) (now : Nat) (r : DoorRun) : Told DoorRun :=
  let again := doorRereport img d r
  let r := { r with reported := again.1, due := false }
  let t :=
    if r.views.handle == some .asserted then enterDoor img d cfg now .emergency { r with plausibility := none }
    else if requiredInvalid cfg r.views then
      if r.state == .emergency || r.state == .fault then ({ r with plausibility := none }, [])
      else enterDoor img d cfg now .unknown { r with plausibility := none }
    else if conflict cfg r.views then
      if r.state != .fault && r.plausibility.isNone then
        ({ r with plausibility := some (now + Config.plausibilityMs) }, [])
      else (r, [])
    else enterDoor img d cfg now (doorTable cfg r.views r.state) { r with plausibility := none }
  (t.1, again.2 ++ t.2)

/-! ### Summaries, interlock, DOORS records (section 4.7, R79) -/

/-- The all-closed summary (R75). -/
def allDoorsClosed (cfg : Tab 6 DoorConfig) (doors : Tab 6 DoorRun) : Bool :=
  (List.finRange 6).all fun d => !(cfg.get d).enabled || (doors.get d).state == .closed

/-- An enabled door is in a state other than CLOSED and RELEASED (R76). -/
def anyDoorOpen (cfg : Tab 6 DoorConfig) (doors : Tab 6 DoorRun) : Bool :=
  (List.finRange 6).any fun d =>
    (cfg.get d).enabled && (doors.get d).state != .closed && (doors.get d).state != .released

/-- The interlock output: released in ACTIVE or STANDBY while the summary is 1, asserted otherwise (R77). -/
def interlockAsserted (mode : Mode) (allClosed : Bool) : Bool :=
  !((mode == .active || mode == .standby) && allClosed)

/-- Content of a DOORS record (R79, Table 10-11). -/
def doorsContent (doors : Tab 6 DoorRun) (allClosed : Bool) : List Byte :=
  content12 (doors.list.map (fun r => byte r.state.code) ++ [flagByte allClosed])

/-- Both summaries are evaluated, with the writes and reports of a change, or of any outcome at a start or re-initialization
(`always`); the interlock and the DOORS records follow (R75 to R77, R79). -/
def summarize (always : Bool) (s : State) (a : Acc Doors) : Acc Doors :=
  let closed := allDoorsClosed s.running.doors a.st.doors
  let moving := s.moving && anyDoorOpen s.running.doors a.st.doors
  let changed := always || closed != a.st.allClosed
  let closedNotices := if changed then
    derivedWrite s.image s.running.general.allClosed .allClosed (if closed then 1 else 0) ++ [.allClosed closed] else []
  let movingNotices := if always || moving != a.st.openMoving then
    derivedWrite s.image s.running.general.openMoving .openMoving (if moving then 1 else 0) else []
  (a.upd fun d =>
      { d with allClosed := closed, openMoving := moving, interlock := interlockAsserted s.control.mode closed })
    |>.sayAll (closedNotices ++ movingNotices ++ [.record .doors (doorsContent a.st.doors closed)])

/-- A door takes an event of its own; the summaries follow a state change (R72). -/
def Doors.onDoor (d : Fin 6) (f : DoorRun → Told DoorRun) (s : State) (a : Acc Doors) : Acc Doors :=
  let r := tellRow a.st.doors d f
  let before := (a.st.doors.get d).state
  let a : Acc Doors := ⟨{ a.st with doors := r.1 }, a.out ++ r.2⟩
  if (r.1.get d).state = before then a else summarize false s a

/-! ### Events -/

/-- An update event of signal `i` at the Door Supervisor (R62, R63, R76); the doors, which need no order, go by increasing number, each
with its summaries (log 41). -/
def doorUpdate (i : Fin 256) (e : Effective) (s : State) (a : Acc Doors) : Acc Doors :=
  let a := a.each 6 fun d a =>
    let cfg := s.running.doors.get d
    if cfg.enabled && cfg.names i then
      Doors.onDoor d (fun r => evaluateDoor s.image d cfg s.now { r with views := r.views.update cfg i e }) s a
    else a
  if s.running.general.speed = i then summarize false s a else a

/-- The travel timer or the plausibility timer of door `d` expires: FAULT (R66, R70, R71). The expiry is an evaluation event (R63),
after which no re-report is due (R74). -/
def doorExpiry (d : Fin 6) (s : State) (a : Acc Doors) : Acc Doors :=
  Doors.onDoor d (fun r =>
    enterDoor s.image d (s.running.doors.get d) s.now .fault
      { r with travel := none, plausibility := none, due := false }) s a

/-- CLEAR FAULTS resets the flags; doors re-report at their next evaluation (R74). -/
def resetDoorFlags (a : Acc Doors) : Acc Doors :=
  a.upd fun ds => { ds with doors := ds.doors.map fun r => { r with reported := none, due := true } }

/-- What a door reports before it is set to UNKNOWN: the re-report of R74, where the configuration just taken enables it and the
re-initialization is an evaluation event of the door at all (R63), and the clear of R81. -/
def doorFarewell (img : Image) (d : Fin 6) (enabled : Bool) (r : DoorRun) : List Notice :=
  let again := if enabled then doorRereport img d r else (r.reported, [])
  again.2 ++ (clearFlag again.1 (.door d)).2 ++ (if r.state == .unknown then [] else [.activity])

/-- A door at the Door Supervisor's start and at each re-initialization (R80, R81): UNKNOWN, then evaluated from fresh views; an
enabled door writes its state signal whatever state it finds. R81 does not say whether the passage through UNKNOWN is handed on by
itself before the outcome of the evaluation: only its door activity is, and lamp request and state signal go out once, on the
outcome (DESIGN CHOICE, log 44). -/
def freshDoor (s : State) (d : Fin 6) (r : DoorRun) : Told DoorRun :=
  let cfg := s.running.doors.get d
  let idle : DoorRun :=
    { r with state := .unknown, views := Views.none, travel := none, plausibility := none, reachedOpen := false
             reported := none, request := none, due := false }
  let farewell := doorFarewell s.image d cfg.enabled r
  if cfg.enabled then
    let t := evaluateDoor s.image d cfg s.now
      { idle with views := Views.of cfg s.eff, request := cfg.lampFor .unknown }
    let own := if t.1.state == .unknown then
      derivedWrite s.image cfg.stateSignal (.door d) 0 ++ [.doorRequest d (cfg.lampFor .unknown)] else []
    (t.1, farewell ++ own ++ t.2)
  else (idle, farewell ++ [.doorRequest d none])

/-- The Door Supervisor's start and each re-initialization (R80, R81). The summaries and the DOORS records are evaluated and written
once, on the outcome of every door's evaluation, and not for the passage through UNKNOWN before it (DESIGN CHOICE, log 44: R81 does
not say whether that passage is handed on by itself). -/
def reinitDoors (s : State) (a : Acc Doors) : Acc Doors :=
  let r := tellRows a.st.doors (freshDoor s)
  summarize true s ⟨{ a.st with doors := r.1 }, a.out ++ r.2⟩

/-- The Door Supervisor takes a change of mode, which the Mode Controller has made (R77, R82). -/
def doorMode (new : Mode) (s : State) (a : Acc Doors) : Acc Doors :=
  a.upd fun ds =>
    { ds with
      doors := if new = .sleep then ds.doors.map fun r => { r with plausibility := none } else ds.doors
      interlock := interlockAsserted s.control.mode ds.allClosed }

end Sys2Proof.Machine
end

