-- ==== Sys2Proof/Machine/Display.lean ====
section
/-! DEFINITION. Display: the Display Link and the Display Record Set (R165 to R171), by the record kinds taken at the last start
or re-initialization. -/

namespace Sys2Proof.Machine

/-- The modes in which the link sends. -/
def Mode.sends : Mode → Bool
  | .active | .configuring => true
  | _ => false

/-- A record is dirty (R170); one of kind NONE that has kept its flag counts as any other (log 39). -/
def anyDirty (d : Display) : Bool := d.records.list.any (·.dirty)

/-- The stall timer follows its conditions (R170). -/
def restall (s : State) (a : Acc Display) : Acc Display :=
  a.upd fun d =>
    if d.link == .running && s.control.mode.sends && !d.ready && anyDirty d then
      match d.stall with
      | some _ => d
      | none => { d with stall := some (s.now + Config.stallMs) }
    else { d with stall := none }

/-- Every record is changed by its kind. -/
def Display.mapRecords (s : State) (f : Fin 64 → RecordKind → DisplayRecord → DisplayRecord) (a : Acc Display) :
    Acc Display :=
  restall s (a.upd fun d => { d with records := d.records.mapIdx fun i r => f i (s.running.display.get i) r })

/-- An owner's write of a record (R166). -/
def writeRecord (content : List Byte) (r : DisplayRecord) : DisplayRecord :=
  if content = r.current then r else { r with current := content, dirty := true }

/-- An owner's write of every record of kind `k` (R166); a record of kind NONE is never written (R165). -/
def writeKind (k : RecordKind) (content : List Byte) (s : State) : Acc Display → Acc Display :=
  Display.mapRecords s fun _ kind r => if kind = k ∧ k ≠ .none then writeRecord content r else r

/-- A mirror written into record `i`, if it is RAW (R16). -/
def writeMirror (i : Fin 64) (content : List Byte) (s : State) : Acc Display → Acc Display :=
  Display.mapRecords s fun j kind r => if j = i ∧ kind = .raw then writeRecord content r else r

/-- Every defined record is marked dirty. -/
def markAll (s : State) : Acc Display → Acc Display :=
  Display.mapRecords s fun _ kind r => if kind = .none then r else { r with dirty := true }

/-! ### Sending (section 9.8) -/

/-- Place of a kind in the sending order (R167). -/
def RecordKind.rank : RecordKind → Nat
  | .present => 0 | .doors => 1 | .gauge _ => 2 | .lamps => 3 | .value _ => 4 | .raw => 5 | .mode => 6 | .none => 7

/-- The record sent next: of the dirty records of a defined kind the first in kind order, then in index (R167). -/
def nextRecord (kinds : Tab 64 RecordKind) (records : Tab 64 DisplayRecord) : Option (Fin 64) :=
  (List.finRange 64).foldl (fun best i =>
    if (records.get i).dirty && kinds.get i != .none then
      match best with
      | none => some i
      | some j => if (kinds.get i).rank < (kinds.get j).rank then some i else best
    else best) none

/-- A transfer starts when it may (R167). -/
def startTransfer (s : State) (a : Acc Display) : Acc Display :=
  let d := a.st
  if d.link == .running && s.control.mode.sends && d.ready && d.flight.isNone then
    match nextRecord s.running.display d.records with
    | some i =>
      a.upd fun d =>
        { d with flight := some ⟨i, (s.running.display.get i).code, (d.records.get i).current⟩ }
    | none => a
  else a

/-- The record, of kind `kind` by now, after a completed transfer that the display processor has taken (R168). The last-sent content
of a record that has become NONE since the transfer started stays empty (R165; log 24). -/
def sentRecord (kind : RecordKind) (copy : List Byte) (r : DisplayRecord) : DisplayRecord :=
  { r with lastSent := if kind = .none then r.lastSent else copy, dirty := r.current != copy }

/-- The write of the display-fault signal named in the general settings, while its source record names the Display Link. -/
def displayFaultWrite (img : Image) (w : SignalWrite) : List Notice :=
  match img.general.displayFault with
  | some i => if (img.signals.get i).source == .derived .displayFault then [.write i w] else []
  | none => []

/-- A transfer completes with a status byte (R168): bit 0 alive, bit 1 refresh request, bit 2 display fault. Where the completion
clears the last dirty flag and its refresh request marks the records dirty again, the conditions of R170 end and hold anew, with
READY deasserted: the stall timer stops and starts again, to expire 500 ms from now (DESIGN CHOICE, log 45: R168 and R170 do not say
whether they end in between). -/
def completeTransfer (status : Byte) (s : State) (a : Acc Display) : Acc Display :=
  match a.st.flight with
  | none => a
  | some t =>
    let a := a.upd fun d => { d with flight := none }
    if status.getLsbD 0 then
      let a := Display.mapRecords s (fun i kind r =>
        if i = t.index then sentRecord kind t.copy r else r) a
      let a := if status.getLsbD 1 then markAll s a else a
      a.sayAll (displayFaultWrite s.image (.bare (if status.getLsbD 2 then 1 else 0)))
    else restall s a

/-- The refresh timer expires (R169). -/
def takeRefresh (s : State) (a : Acc Display) : Acc Display :=
  markAll s (a.upd fun d => { d with refresh := some (s.now + Config.refreshMs) })

/-- The clear of 0xF002 (R170, R171). -/
def clearStall (a : Acc Display) : Acc Display :=
  (a.sayIf a.st.reported (.report (.clear Config.stallCode .displayLink))).upd fun d => { d with reported := false }

/-- The raise of 0xF002 with severity 1 (R170). -/
def raiseStall (a : Acc Display) : Acc Display :=
  (a.sayIf (!a.st.reported) (.report (.raise Config.stallCode .displayLink 1))).upd fun d => { d with reported := true }

/-- The stall timer expires (R170). -/
def takeStall (s : State) (a : Acc Display) : Acc Display :=
  (raiseStall (a.upd fun d => { d with link := .stalled, stall := none })).sayAll
    (displayFaultWrite s.image (.status .timeout))

/-- READY is asserted (R167, R170). -/
def readyOn (s : State) (a : Acc Display) : Acc Display :=
  let a := a.upd fun d => { d with ready := true }
  if a.st.link = .stalled then markAll s (clearStall (a.upd fun d => { d with link := .running }))
  else restall s a

/-- READY is deasserted (R167, R170). -/
def readyOff (s : State) (a : Acc Display) : Acc Display := restall s (a.upd fun d => { d with ready := false })

/-! ### Modes, CLEAR FAULTS, re-initialization -/

/-- The Display Link takes a change of mode (R171). -/
def displayMode (old new : Mode) (s : State) (a : Acc Display) : Acc Display :=
  match new with
  | .active | .configuring =>
    if a.st.link = .idle then
      markAll s (a.upd fun d => { d with link := .running, refresh := some (s.now + Config.refreshMs) })
    else if old = .starting then restall s (a.upd fun d => { d with refresh := some (s.now + Config.refreshMs) })
    else restall s a
  | .standby | .sleep => (clearStall a).upd fun d => { d with link := .idle, refresh := none, stall := none }
  | .starting => a

/-- CLEAR FAULTS: the flag is reset; a STALLED link raises again (R170). -/
def rereportDisplay (a : Acc Display) : Acc Display :=
  let a := a.upd fun d => { d with reported := false }
  if a.st.link = .stalled then raiseStall a else a

/-- One record, of kind `kind` from now on, when the kinds are taken: its contents are emptied if the kind has changed, and it is
marked dirty if it is defined (R165). The flag of a record that becomes NONE stays as it was: a completion alone clears it (R166). -/
def takeKind (changed : Bool) (kind : RecordKind) (r : DisplayRecord) : DisplayRecord :=
  { current := if changed then DisplayRecord.emptyContent else r.current
    lastSent := if changed then DisplayRecord.emptyContent else r.lastSent
    dirty := kind != .none || r.dirty }

/-- The Display Link takes the record kinds, `old` those it ran with (R165, R171). -/
def takeKinds (old : Image) (s : State) : Acc Display → Acc Display :=
  Display.mapRecords s fun i kind => takeKind (old.display.get i != kind) kind

end Sys2Proof.Machine
end

