-- ==== Sys2Proof/Machine/Faults.lean ====
section
/-! DEFINITION. Faults: the Fault Unit (R140 to R155): Fault Memory, healing, Snapshot Ring, wear attributes. Heal limit,
snapshot list and attribute configurations are those taken at the last start or re-initialization. -/

namespace Sys2Proof.Machine

/-- The record count and the overflow indicator are handed to the Mode Controller where either is no longer what it was in the items
`before` (R149). -/
def handCount (before : Persistent) (a : Acc FaultUnit) : Acc FaultUnit :=
  let items := a.st.items
  a.sayIf (items.records.length != before.records.length || items.overflow != before.overflow)
    (.faultCount items.records.length items.overflow)

/-- A change of the persistent items: it marks the changed flag (R155), and a change of the record count or of the overflow
indicator is handed to the Mode Controller (R149). -/
def edit (f : Persistent → Persistent) (a : Acc FaultUnit) : Acc FaultUnit :=
  let before := a.st.items
  handCount before (a.upd fun u => { u with items := f before, changed := u.changed || f before != before })

/-! ### Fault Memory and Snapshot Ring (sections 8.2 to 8.4) -/

/-- The record of a code and source. -/
def FaultRecord.isFor (code : Nat) (source : FaultSource) (r : FaultRecord) : Bool := r.code == code && r.source == source

/-- A snapshot slot is emptied (R148). -/
def emptySlot (k : Option (Fin 8)) (slots : Tab 8 (Option Snapshot)) : Tab 8 (Option Snapshot) :=
  match k with
  | some k => slots.set k none
  | none => slots

/-- The record at index `i` leaves the list; its snapshot slot is emptied (R142, R148). -/
def dropRecord (i : Nat) (p : Persistent) : Persistent :=
  { p with records := p.records.eraseIdx i, slots := emptySlot (p.records[i]?.bind (·.slot)) p.slots }

/-- Of the records that satisfy `q`, the index of the one of lowest severity, the oldest among equals (R142). -/
def lowest (q : FaultRecord → Bool) (records : List FaultRecord) : Option Nat :=
  (records.zipIdx.foldl (fun best r =>
    if q r.1 then
      match best with
      | none => some (r.1.severity, r.2)
      | some (sev, i) => if r.1.severity < sev then some (r.1.severity, r.2) else some (sev, i)
    else best) none).map (·.2)

/-- The record a raise of the severity displaces from a full memory (R142). -/
def displaced (severity : Nat) (records : List FaultRecord) : Option Nat :=
  match lowest (fun r => !r.active) records with
  | some i => some i
  | none => lowest (fun r => r.active && decide (r.severity < severity)) records

/-- The slot of a new capture (R148): the lowest-numbered empty slot, otherwise the one with the smallest capture number. -/
def captureSlot (slots : Tab 8 (Option Snapshot)) : Fin 8 :=
  match slots.findIdx fun _ x => x.isNone with
  | some k => k
  | none =>
    let number := fun k : Fin 8 => match slots.get k with | some x => x.number | none => 0
    (List.finRange 8).foldl (fun best k => if number k < number best then k else best) 0

/-- The slots renumbered 0, 1, 2 and so on in their order of age (R147). -/
def renumber (slots : Tab 8 (Option Snapshot)) : Tab 8 (Option Snapshot) :=
  let numbers := slots.list.filterMap fun x => x.map (·.number)
  slots.map fun x => x.map fun x => { x with number := (numbers.filter (· < x.number)).length }

/-- A new record joins the end of the list, with its snapshot when the snapshot list names signals (R141, R147, R148). -/
def createRecord (code : Nat) (source : FaultSource) (severity : Nat) (list : List (Fin 256)) (eff : Fin 256 → Effective)
    (p : Persistent) : Persistent :=
  let record : FaultRecord := ⟨code, source, severity, true, 1, p.seconds, p.seconds, 0, true, none⟩
  if list.isEmpty then { p with records := p.records ++ [record] }
  else
    let k := captureSlot p.slots
    let others := p.records.map fun r => if r.slot = some k then { r with slot := none } else r
    let slots := p.slots.set k (some ⟨code, source, p.captures, p.seconds, list.map fun i => (i, eff i)⟩)
    let wrapped := decide (Config.max32 ≤ p.captures)
    { p with
      records := others ++ [{ record with slot := some k }]
      slots := if wrapped then renumber slots else slots
      captures := if wrapped then (slots.list.filter (·.isSome)).length else p.captures + 1 }

/-- A raise (R140 to R142). -/
def raiseItem (code : Nat) (source : FaultSource) (severity : Nat) (list : List (Fin 256)) (eff : Fin 256 → Effective)
    (p : Persistent) : Persistent :=
  if p.records.any (·.isFor code source) then
    { p with records := p.records.map fun r =>
        if r.isFor code source then
          { r with severity := severity, active := true, occurrences := satSucc 255 r.occurrences
                   lastSeen := p.seconds, heal := 0, raisedThisCycle := true }
        else r }
  else if p.records.length < 32 then createRecord code source severity list eff p
  else
    match displaced severity p.records with
    | some i => createRecord code source severity list eff (dropRecord i p)
    | none => { p with overflow := true }

/-- A clear (R143). -/
def clearItem (code : Nat) (source : FaultSource) (p : Persistent) : Persistent :=
  { p with records := p.records.map fun r => if r.isFor code source then { r with active := false } else r }

/-- A raise at the Fault Unit. -/
def takeRaise (code : Nat) (source : FaultSource) (severity : Nat) (s : State) : Acc FaultUnit → Acc FaultUnit :=
  edit (raiseItem code source severity s.running.snapshotList s.eff)

/-- A clear at the Fault Unit. -/
def takeClear (code : Nat) (source : FaultSource) : Acc FaultUnit → Acc FaultUnit := edit (clearItem code source)

/-- One record in a heal pass (R144): none when it heals away. -/
def healRecord (limit : Nat) (r : FaultRecord) : Option FaultRecord :=
  if !r.active && !r.raisedThisCycle then
    if limit ≤ r.heal + 1 then none else some { r with heal := r.heal + 1 }
  else some { r with raisedThisCycle := false }

/-- The heal pass (R144). -/
def healItems (limit : Nat) (p : Persistent) : Persistent :=
  let gone := p.records.filter fun r => (healRecord limit r).isNone
  { p with
    records := p.records.filterMap (healRecord limit)
    slots := gone.foldl (fun slots r => emptySlot r.slot slots) p.slots }

/-! ### Wear attributes (section 8.7) -/

/-- An attribute at or above its threshold raises its fault while its flag is clear (R152, R154). -/
def checkAttribute (t : Fin 16) (s : State) (a : Acc FaultUnit) : Acc FaultUnit :=
  let cfg := s.running.attrs.get t
  let value := a.st.items.attrValues.get t
  match cfg.fault, a.st.attrReported.get t with
  | some f, none =>
    if cfg.inUse && cfg.threshold != 0 && decide (cfg.threshold ≤ value) then
      takeRaise f.code (.attr t) f.severity s
        (a.upd fun u => { u with attrReported := u.attrReported.set t (some f.code) })
    else a
  | _, _ => a

/-- An attribute whose flag is set reports its fault cleared (R153, R154). -/
def clearAttribute (t : Fin 16) (a : Acc FaultUnit) : Acc FaultUnit :=
  match a.st.attrReported.get t with
  | some code => takeClear code (.attr t) (a.upd fun u => { u with attrReported := u.attrReported.set t none })
  | none => a

/-- The value of an attribute is set. -/
def setAttribute (t : Fin 16) (v : Nat) : Acc FaultUnit → Acc FaultUnit :=
  edit fun p => { p with attrValues := p.attrValues.set t v }

/-- A wear event is counted by every attribute that matches (R152), in increasing index, each with its raise before the next (DESIGN
CHOICE, log 38). -/
def takeWear (kind : WearKind) (index : Nat) (s : State) (a : Acc FaultUnit) : Acc FaultUnit :=
  a.each 16 fun t a =>
    let cfg := s.running.attrs.get t
    if cfg.inUse && cfg.kind == kind && (cfg.source == none || cfg.source == some index) then
      checkAttribute t s (setAttribute t (satSucc Config.max32 (a.st.items.attrValues.get t)) a)
    else a

/-- A report or wear event that reaches the Fault Unit; before its start it is held (R146). -/
def takeReport (r : Report) (s : State) (a : Acc FaultUnit) : Acc FaultUnit :=
  if !a.st.started then a.upd fun u => { u with held := u.held ++ [r] }
  else
    match r with
    | .raise code source severity => takeRaise code source severity s a
    | .clear code source => takeClear code source a
    | .wear kind index => takeWear kind index s a

/-- An ignition cycle begins: the heal pass (R144). -/
def ignitionCycle (s : State) : Acc FaultUnit → Acc FaultUnit := edit (healItems s.running.general.healLimit)

/-- RESET ATTRIBUTE (R153). -/
def resetAttr (t : Fin 16) (a : Acc FaultUnit) : Acc FaultUnit := clearAttribute t (setAttribute t 0 a)

/-! ### Start, re-initialization, CLEAR FAULTS -/

/-- The Fault Unit starts on the restored items and hands their count and indicator on (R146, R149, R154): ACTIVE records become
PASSIVE, the reports held are taken in order, then the attributes are checked (DESIGN CHOICE, log 38: R146 does not order the two).
-/
def startFaults (items : Persistent) (changed : Bool) (s : State) (a : Acc FaultUnit) : Acc FaultUnit :=
  let held := a.st.held
  let a := handCount a.st.items (a.upd fun _ => ⟨items, changed, true, [], Tab.replicate 16 none⟩)
  let a := edit (fun p => { p with records := p.records.map fun r => { r with active := false } }) a
  let a := a.eachOf held fun r a => takeReport r s a
  a.each 16 fun t a => checkAttribute t s a

/-- One attribute at a re-initialization, `old` the configuration it ran with (R154). -/
def reinitAttribute (old : Image) (s : State) (t : Fin 16) (a : Acc FaultUnit) : Acc FaultUnit :=
  let cfg := s.running.attrs.get t
  let was := old.attrs.get t
  let a := if cfg.kind != was.kind || cfg.source != was.source then setAttribute t 0 a else a
  let ends := !cfg.inUse || cfg.threshold == 0 || decide (a.st.items.attrValues.get t < cfg.threshold)
    || a.st.attrReported.get t != cfg.fault.map (·.code)
  checkAttribute t s (if ends then clearAttribute t a else a)

/-- The Fault Unit's re-initialization (R154): the attributes in increasing index, each with its clear and raise before the next
(DESIGN CHOICE, log 38). -/
def reinitFaults (old : Image) (s : State) (a : Acc FaultUnit) : Acc FaultUnit :=
  a.each 16 (reinitAttribute old s)

/-- CLEAR FAULTS at the Fault Unit: records, slots, overflow and its own flags (R150). -/
def emptyMemory (a : Acc FaultUnit) : Acc FaultUnit :=
  (edit (fun p => { p with records := [], slots := Tab.replicate 8 none, overflow := false }) a).upd fun u =>
    { u with attrReported := Tab.replicate 16 none }

/-- The attributes' raises after CLEAR FAULTS (R150, R154), in increasing index (DESIGN CHOICE, log 38). -/
def rereportAttributes (s : State) (a : Acc FaultUnit) : Acc FaultUnit := a.each 16 fun t a => checkAttribute t s a

end Sys2Proof.Machine
end

