-- ==== Sys2Proof/Machine/Operands.lean ====
section
/-! DEFINITION. Operands: the fields of CAN payloads, extracted (R25 to R30) and packed (R162), and the fields of requests and
load contents, read in order (section 10.8). -/

namespace Sys2Proof.Machine

/-! ### Payload fields -/

/-- The data bytes with zero bytes beyond the data length (R25). -/
def eightBytes (data : List Byte) : List Byte := (data ++ List.replicate (8 - data.length) 0).take 8

/-- The payload number of a frame (R25). -/
def payload (order : ByteOrder) (data : List Byte) : Nat :=
  match order with
  | .little => leNat (eightBytes data)
  | .big => leNat (eightBytes data).reverse

/-- Steps 1 and 2 of the conversion: the bits `s` to `s + ℓ - 1` of the payload (R27). -/
def field (order : ByteOrder) (s ℓ : Nat) (data : List Byte) : Nat := payload order data / 2 ^ s % 2 ^ ℓ

/-- A field fits the length `m`: it lies within bits 0 to 63 and every byte it occupies has an index below `m` (R26). -/
def fits (order : ByteOrder) (s ℓ m : Nat) : Bool :=
  decide (s + ℓ ≤ 64) &&
    match order with
    | .little => decide ((s + ℓ - 1) / 8 < m)
    | .big => decide (7 - s / 8 < m)

/-- Step 6: a converted value as a write, cut to the limits with its qualifier (R30). -/
def converted (cfg : SignalConfig) (v : Int) : SignalWrite :=
  .converted (clamp cfg.min cfg.max v) (decide (clamp cfg.min cfg.max v ≠ v))

/-- The six steps of the conversion (R27 to R30): what descriptor `d` writes into a signal with the limits of `cfg`. -/
def convert (d : Descriptor) (cfg : SignalConfig) (data : List Byte) : SignalWrite :=
  let raw := field d.order d.start d.length data
  if d.invalidCodes && raw == 2 ^ d.length - 1 then .status .notAvailable
  else if d.invalidCodes && raw == 2 ^ d.length - 2 then .status .senderError
  else
    let r : Int := if d.signed then toSigned d.length raw else raw
    converted cfg (scale d.gain d.shift d.offset r)

/-- The greatest field value a good signal packs to (R162). -/
def packTop (slot : PackSlot) : Nat := if slot.invalidCodes then 2 ^ slot.length - 3 else 2 ^ slot.length - 1

/-- The field value of a packing slot (R162). -/
def packValue (slot : PackSlot) (e : Effective) : Nat :=
  if !e.good && slot.invalidCodes then 2 ^ slot.length - 1
  else (clamp 0 (packTop slot) ((e.value - slot.offset) / (2 : Int) ^ slot.shift)).toNat

/-- A field value in its place among the eight bytes, all other bits 0 (R162, R25). -/
def placeField (order : ByteOrder) (s v : Nat) : List Byte :=
  match order with
  | .little => leBytes 8 (v * 2 ^ s)
  | .big => (leBytes 8 (v * 2 ^ s)).reverse

/-- The data bytes of an own frame (R162): each slot's field in its place, 0 elsewhere. -/
def packFrame (eff : Fin 256 → Effective) (e : TransmitEntry) : List Byte :=
  let fields := e.slots.list.filterMap fun slot =>
    slot.map fun p => placeField p.order p.start (packValue p (eff p.signal))
  (fields.foldl (fun bytes f => List.zipWith (· ||| ·) bytes f) (List.replicate 8 0)).take e.length

/-- The bits of the eight data bytes a field takes, numbered 8 times the byte plus the bit: what two packing fields may not
share (R156). -/
def bitsOf (order : ByteOrder) (s ℓ : Nat) : List Nat :=
  (List.range ℓ).map fun k =>
    match order with
    | .little => s + k
    | .big => (7 - (s + k) / 8) * 8 + (s + k) % 8

/-! ### Reading contents -/

/-- A reader of a content: it takes bytes from the front and answers a value, or refuses with a result. -/
abbrev Reader := StateT (List Byte) (Except Result)

namespace Reader

/-- The next `n` bytes. -/
def bytes (n : Nat) : Reader (List Byte) := fun l => .ok (l.take n, l.drop n)

/-- An unsigned field of `n` bytes. -/
def nat (n : Nat) : Reader Nat := do return leNat (← bytes n)

/-- A signed field of `n` bytes. -/
def int (n : Nat) : Reader Int := do return toSigned (8 * n) (← nat n)

/-- Refuses with `r` unless `b`. -/
def check (b : Bool) (r : Result) : Reader Unit := if b then pure () else throw r

/-- A field of yes-or-no: 0 or 1, BAD_VALUE otherwise (R183). -/
def flag : Reader Bool := do
  let v ← nat 1
  check (v ≤ 1) .badValue
  return v == 1

/-- An enumeration: the code is the place in the list, BAD_VALUE outside it (R183). -/
def enum {α : Type} (l : List α) : Reader α := do
  match l[(← nat 1)]? with
  | some a => return a
  | none => throw .badValue

/-- An optional field of `n` bytes, all ones for absent. -/
def opt (n : Nat) : Reader (Option Nat) := do
  let v ← nat n
  return if v == 256 ^ n - 1 then none else some v

/-- A fault field: code and severity as they stand, absent when the severity is 0xFF. -/
def fault : Reader (Option FaultCode) := do
  let code ← nat 2
  let severity ← nat 1
  return if severity == 0xFF then none else some ⟨code, severity⟩

/-- `k` as a row number below `n`, or a refusal with `r`. -/
def row (n k : Nat) (r : Result) : Reader (Fin n) :=
  match toFin? n k with
  | some i => pure i
  | none => throw r

/-- An optional row number. -/
def optRow (n : Nat) (k : Option Nat) (r : Result) : Reader (Option (Fin n)) :=
  match k with
  | none => pure none
  | some k => do return some (← row n k r)

/-- `m` times the reader `r`. -/
def times {α : Type} (m : Nat) (r : Reader α) : Reader (List α) :=
  match m with
  | 0 => return []
  | m + 1 => do
    let a ← r
    return a :: (← times m r)

/-- A reader on a whole content. -/
def on {α : Type} (r : Reader α) (content : List Byte) : Except Result α :=
  match r content with
  | .ok (a, _) => .ok a
  | .error e => .error e

end Reader

/-- A fault field's severity is 0 to 3. -/
def severityOk (f : Option FaultCode) : Bool :=
  match f with
  | none => true
  | some c => decide (c.severity ≤ 3)

/-- Abscissae strictly increase. -/
def increasing : List (Int × Nat) → Bool
  | [] => true
  | [_] => true
  | (x₀, _) :: (x₁, p₁) :: rest => decide (x₀ < x₁) && increasing ((x₁, p₁) :: rest)

/-- An identifier fits the width of its kind. -/
def identFits (kind : IdKind) (v : Nat) : Bool :=
  match kind with
  | .standard => decide (v < 2 ^ 11)
  | .extended => decide (v < 2 ^ 29)

/-- The bytes of a fault field: its code and severity, or the free code bytes and 0xFF for absent (section 10.8, log 4). -/
def faultBytes (f : Option FaultCode) : List Byte :=
  match f with
  | some c => leBytes 2 c.code ++ [byte c.severity]
  | none => leBytes 2 Config.absentFaultCode.toNat ++ [0xFF]

end Sys2Proof.Machine
end

