-- ==== Sys2Proof/Machine/Frames.lean ====
section
/-! DEFINITION. Frames: the Frame Engine: port error states, frame matching, reception timers, forwarding and mirroring
(R1 to R21). Its table and the port settings are read from the working image each time (R1, R9). -/

namespace Sys2Proof.Machine

/-- One port takes an event. -/
def FrameEngine.onPort (p : Port) (f : PortRun → Told PortRun) (a : Acc FrameEngine) : Acc FrameEngine :=
  let r := tellRow a.st.ports p f
  ⟨{ a.st with ports := r.1 }, a.out ++ r.2⟩

/-- Every port takes an event. -/
def FrameEngine.onPorts (f : Port → PortRun → Told PortRun) (a : Acc FrameEngine) : Acc FrameEngine :=
  let r := tellRows a.st.ports f
  ⟨{ a.st with ports := r.1 }, a.out ++ r.2⟩

/-- One entry takes an event. -/
def FrameEngine.onEntry (e : Fin 128) (f : EntryRun → Told EntryRun) (a : Acc FrameEngine) : Acc FrameEngine :=
  let r := tellRow a.st.entries e f
  ⟨{ a.st with entries := r.1 }, a.out ++ r.2⟩

/-- Every entry takes an event. -/
def FrameEngine.onEntries (f : Fin 128 → EntryRun → Told EntryRun) (a : Acc FrameEngine) : Acc FrameEngine :=
  let r := tellRows a.st.entries f
  ⟨{ a.st with entries := r.1 }, a.out ++ r.2⟩

/-! ### Ports -/

/-- The port takes part in the bus: ERROR_ACTIVE or ERROR_PASSIVE. -/
def PortState.sends : PortState → Bool
  | .errorActive | .errorPassive => true
  | _ => false

/-- The port receives (Table 1-2). -/
def PortState.receives : PortState → Bool
  | .errorActive | .errorPassive | .listen => true
  | _ => false

/-- ERROR_PASSIVE with either counter at 128 or above, else ERROR_ACTIVE (R3, R6). -/
def errorState (transmitErrors receiveErrors : Nat) : PortState :=
  if 128 ≤ transmitErrors ∨ 128 ≤ receiveErrors then .errorPassive else .errorActive

/-- Re-evaluation of the port state after a change of a counter, with the entry to BUS_OFF (R3, R4). -/
def reevaluatePort (p : Port) (cfg : PortConfig) (now : Nat) (r : PortRun) : Told PortRun :=
  if !r.state.sends then (r, [])
  else if 255 < r.transmitErrors then
    let raised := raiseFlag r.reported cfg.fault (.port p)
    ({ r with state := .busOff, recovery := some (now + cfg.recovery * 10), reported := raised.1 },
      .report (.wear .portBusOff p.val) :: raised.2)
  else ({ r with state := errorState r.transmitErrors r.receiveErrors }, [])

/-- A received frame lowers the receive error counter of a port that takes part in the bus (R2). -/
def countReceived (p : Port) (s : State) : Acc FrameEngine → Acc FrameEngine :=
  FrameEngine.onPort p fun r =>
    if r.state.sends then
      reevaluatePort p (s.image.general.ports.get p) s.now { r with receiveErrors := r.receiveErrors - 1 }
    else (r, [])

/-- A receive error raises it, saturating at 255 (R2). -/
def countReceiveError (p : Port) (s : State) : Acc FrameEngine → Acc FrameEngine :=
  FrameEngine.onPort p fun r =>
    if r.state.sends then
      reevaluatePort p (s.image.general.ports.get p) s.now { r with receiveErrors := satSucc 255 r.receiveErrors }
    else (r, [])

/-- A transmit error adds 8 to the transmit error counter, which goes to 256 at most (R3, Table 1-2, log 17). -/
def countTransmitError (p : Port) (s : State) : Acc FrameEngine → Acc FrameEngine :=
  FrameEngine.onPort p fun r =>
    reevaluatePort p (s.image.general.ports.get p) s.now { r with transmitErrors := min 256 (r.transmitErrors + 8) }

/-- A completed transmission lowers the transmit error counter (R3). -/
def countTransmission (p : Port) (s : State) : Acc FrameEngine → Acc FrameEngine :=
  FrameEngine.onPort p fun r =>
    reevaluatePort p (s.image.general.ports.get p) s.now { r with transmitErrors := r.transmitErrors - 1 }

/-- The recovery timer of a BUS_OFF port expires (R5). -/
def recoverPort (p : Port) (s : State) : Acc FrameEngine → Acc FrameEngine :=
  FrameEngine.onPort p fun r =>
    let cleared := clearFlag r.reported (.port p)
    ({ r with
        state := if s.control.mode = .sleep then .listen else .errorActive
        transmitErrors := 0, receiveErrors := 0, recovery := none, reported := cleared.1 },
      cleared.2)

/-! ### Frames -/

/-- A frame's identifier agrees with the entry's wherever the mask is 1, on the entry's port and kind (R10). -/
def FrameEntry.takes (e : FrameEntry) (p : Port) (f : Frame) : Bool :=
  e.enabled && e.port == p && e.kind == f.kind && (f.ident &&& e.mask) == (e.ident &&& e.mask)

/-- The matching entry: the lowest index that takes the frame (R10). -/
def matching (img : Image) (p : Port) (f : Frame) : Option (Fin 128) :=
  img.frames.findIdx fun _ e => e.takes p f

/-- The expiry of a reception timer of `cfg` started now; with timeout 0 no timer runs (R14, R17). -/
def receptionTimer (cfg : FrameEntry) (now : Nat) : ReceptionTimer :=
  if cfg.timeout = 0 then .stopped else .running (now + cfg.timeout * 10)

/-- Forward copies of a matched frame (R15), by increasing port (DESIGN CHOICE, log 41): a copy for an OFFLINE port is discarded when
it is made. -/
def forwardCopies (ports : Tab 3 PortRun) (e : Fin 128) (cfg : FrameEntry) (f : Frame) : List Notice :=
  (List.finRange 3).filterMap fun q =>
    if cfg.forward.getLsbD q.val && (ports.get q).state != .offline then
      some (.forward q ⟨⟨f.kind, cfg.replacement.getD f.ident, f.data⟩, cfg.urgent, e⟩)
    else none

/-- The writes of the entry's descriptors (R14 step 3), in slot order (DESIGN CHOICE, log 41: R14 orders no two of them). -/
def extractions (img : Image) (e : Fin 128) (f : Frame) : List Notice :=
  (img.extract.get e).list.filterMap fun d =>
    d.target.map fun i => .write i (convert d (img.signals.get i) f.data)

/-- The mirror of a sufficient frame, when the record is RAW by the running record kinds (R16). -/
def mirrorWrite (kinds : Tab 64 RecordKind) (cfg : FrameEntry) (f : Frame) : List Notice :=
  match cfg.mirror with
  | some r => if kinds.get r == .raw then [.mirror r (content12 (byte f.data.length :: f.data))] else []
  | none => []

/-- A matched frame is taken by its entry (R12 to R16). -/
def takeMatched (e : Fin 128) (f : Frame) (s : State) (a : Acc FrameEngine) : Acc FrameEngine :=
  let cfg := s.image.frames.get e
  let copies := forwardCopies a.st.ports e cfg f
  FrameEngine.onEntry e (fun r =>
    if f.data.length < cfg.minLen then
      ({ r with lengthErrors := satSucc 255 r.lengthErrors }, copies)
    else
      let cleared := if r.status == .silent then clearFlag r.reported (.entry e) else (r.reported, [])
      ({ r with
          status := .receiving, timer := receptionTimer cfg s.now, received := satSucc 65535 r.received
          reported := cleared.1 },
        cleared.2 ++ extractions s.image e f ++ copies ++ mirrorWrite s.running.display cfg f)) a

/-- A received frame that reaches the sixth case of R8. -/
def takeFrame (p : Port) (f : Frame) (s : State) (a : Acc FrameEngine) : Acc FrameEngine :=
  match matching s.image p f with
  | some e => takeMatched e f s a
  | none => a

/-- The reception timer of entry `e` expires (R18, R20); the targets become TIMEOUT in slot order (DESIGN CHOICE, log 41). -/
def silence (e : Fin 128) (s : State) : Acc FrameEngine → Acc FrameEngine :=
  FrameEngine.onEntry e fun r =>
    let raised := raiseFlag r.reported (s.image.frames.get e).fault (.entry e)
    ({ r with status := .silent, timer := .stopped, reported := raised.1 },
      (s.image.extract.get e).list.filterMap (fun d => d.target.map fun i => .write i (.status .timeout))
        ++ .report (.wear .frameTimeout e.val) :: raised.2)

/-! ### Modes and re-initialization -/

/-- The receive side resets its reported flags and raises again what stands (R20, after CLEAR FAULTS). -/
def rereportFrames (s : State) (a : Acc FrameEngine) : Acc FrameEngine :=
  let a := FrameEngine.onEntries (fun e r =>
    if r.status == .silent then
      let raised := raiseFlag none (s.image.frames.get e).fault (.entry e)
      ({ r with reported := raised.1 }, raised.2)
    else ({ r with reported := none }, [])) a
  FrameEngine.onPorts (fun p r =>
    if r.state == .busOff then
      let raised := raiseFlag none (s.image.general.ports.get p).fault (.port p)
      ({ r with reported := raised.1 }, raised.2)
    else ({ r with reported := none }, [])) a

/-- An entry's state when the part leaves STARTING and at each re-initialization (R17, R21). -/
def freshEntry (cfg : FrameEntry) (now : Nat) : EntryRun :=
  ⟨.waiting, if cfg.enabled then receptionTimer cfg now else .stopped, 0, 0, none⟩

/-- Re-initialization (R21): reports of silent entries cleared, every entry fresh; the ports are not touched. -/
def reinitFrames (s : State) : Acc FrameEngine → Acc FrameEngine :=
  FrameEngine.onEntries fun e r => (freshEntry (s.image.frames.get e) s.now, (clearFlag r.reported (.entry e)).2)

/-- The ports in use start when the part leaves STARTING, with the bit rate of the working image (R1). -/
def startPorts (s : State) : Acc FrameEngine → Acc FrameEngine :=
  FrameEngine.onPorts fun p r =>
    let cfg := s.image.general.ports.get p
    (if cfg.inUse then { r with state := .errorActive, transmitErrors := 0, receiveErrors := 0, bitRate := cfg.bitRate }
      else r, [])

/-- The Frame Engine takes a change of mode (R6, R21). -/
def frameMode (old new : Mode) (s : State) (a : Acc FrameEngine) : Acc FrameEngine :=
  let a := match new with
    | .configuring =>
      FrameEngine.onEntries (fun _ r =>
        (match r.timer with
          | .running t => { r with timer := .held (t - s.now) }
          | _ => r, [])) a
    | .sleep => FrameEngine.onEntries (fun _ r => ({ r with timer := .stopped }, [])) a
    | _ => a
  if new == .sleep then
    FrameEngine.onPorts (fun _ r => (if r.state.sends then { r with state := .listen } else r, [])) a
  else if old == .sleep then
    FrameEngine.onPorts (fun _ r =>
      (if r.state == .listen then { r with state := errorState r.transmitErrors r.receiveErrors } else r, [])) a
  else a

end Sys2Proof.Machine
end

