-- ==== Sys2Proof/Machine/Gauges.lean ====
section
/-! DEFINITION. Gauges: the Gauge Engine (R83 to R101), with the configuration taken at the last start or re-initialization. -/

namespace Sys2Proof.Machine

/-- Content of a GAUGE record (R101, Table 10-11). -/
def gaugeContent (g : Fin 6) (r : GaugeRun) : List Byte :=
  content12 (leBytes 2 r.position ++ leBytes 2 r.demand ++ [byte r.state.code, byte g.val])

/-- An event at a gauge with the write of its GAUGE records when position, demand or state changed (R101). -/
def showGauge (g : Fin 6) (f : GaugeRun → Told GaugeRun) (r : GaugeRun) : Told GaugeRun :=
  let t := f r
  if t.1.position = r.position ∧ t.1.demand = r.demand ∧ t.1.state = r.state then t
  else (t.1, t.2 ++ [.record (.gauge g) (gaugeContent g t.1)])

/-- Every gauge takes an event. -/
def Gauges.onGauges (f : Fin 6 → GaugeRun → Told GaugeRun) (a : Acc Gauges) : Acc Gauges :=
  let r := tellRows a.st.gauges fun g => showGauge g (f g)
  ⟨{ a.st with gauges := r.1 }, a.out ++ r.2⟩

/-- Every in-use gauge takes an event. -/
def Gauges.onInUse (s : State) (f : Fin 6 → GaugeConfig → GaugeRun → Told GaugeRun) : Acc Gauges → Acc Gauges :=
  Gauges.onGauges fun g r =>
    let cfg := s.running.gauges.get g
    if cfg.inUse then f g cfg r else (r, [])

/-- The coils are energized in the state (Table 5-3). -/
def GaugeState.energized : GaugeState → Bool
  | .unhomed | .parked => false
  | .homing | .settling | .tracking | .fallback | .sweep | .parking => true

/-- The gauge goes to a state; its coils follow (Table 5-3, R92, R97 to R99). -/
def GaugeRun.enter (st : GaugeState) (r : GaugeRun) : GaugeRun := { r with state := st, coils := st.energized }

/-! ### Arithmetic (section 5.4) -/

/-- Stage 2, the damping filter: the filter state after one update toward the target `t` (R88). -/
def damp (k t f : Nat) : Nat :=
  if k = 0 then 16 * t
  else
    let d : Int := 16 * t - f
    let step := d.tdiv (2 ^ k)
    let step := if step = 0 ∧ d ≠ 0 then (if 0 < d then 1 else -1) else step
    (f + step).toNat

/-- Stage 3, the demand (R89). -/
def demandOf (fs f : Nat) : Nat := min fs ((f + 8) / 16)

/-- Stage 4, the motor: a position moved toward `d` by at most `slew` (R89). -/
def toward (slew d p : Nat) : Nat := if p ≤ d then min d (p + slew) else max d (p - slew)

/-- The motor stage of a state whose target and demand are `d`. -/
def moveTo (cfg : GaugeConfig) (d : Nat) (r : GaugeRun) : GaugeRun :=
  { r with target := d, demand := d, position := toward cfg.slew d r.position }

/-- The gauge enters TRACKING or FALLBACK by its source view, with the filter reseeded from the position (R90). -/
def trackOrFallback (r : GaugeRun) : GaugeRun :=
  { r.enter (if r.view.good then .tracking else .fallback) with filter := 16 * r.position }

/-- A sweep begins in phase UP; a pending sweep is thereby begun (R95). -/
def beginSweep (r : GaugeRun) : GaugeRun := { r.enter .sweep with phase := .up, sweepPending := false }

/-! ### Events -/

/-- One gauge at an update (R85 to R97). -/
def updateGauge (cfg : GaugeConfig) (r : GaugeRun) : GaugeRun :=
  match r.state with
  | .tracking =>
    let t := interpolate cfg.points r.view.value
    let f := damp cfg.damping t r.filter
    let d := demandOf cfg.fs f
    { r with target := t, filter := f, demand := d, position := toward cfg.slew d r.position }
  | .fallback =>
    match cfg.fallback with
    | .hold => { r with position := toward cfg.slew r.demand r.position }
    | .rest => moveTo cfg cfg.rest r
    | .position v => moveTo cfg v r
  | .settling =>
    let r := moveTo cfg cfg.rest r
    if r.position = cfg.rest then (if r.sweepPending then beginSweep r else trackOrFallback r) else r
  | .sweep =>
    match r.phase with
    | .up =>
      let r := moveTo cfg cfg.fs r
      if r.position = cfg.fs then { r with phase := .down } else r
    | .down =>
      let r := moveTo cfg cfg.rest r
      if r.position = cfg.rest then trackOrFallback r else r
  | .parking =>
    let r := moveTo cfg cfg.rest r
    if r.position = cfg.rest then r.enter .parked else r
  | .unhomed | .homing | .parked => r

/-- The update timer expires: every in-use gauge is handled, and the next period starts (R84, R85). -/
def takeGaugeUpdate (s : State) (a : Acc Gauges) : Acc Gauges :=
  (Gauges.onInUse s (fun _ cfg r => (updateGauge cfg r, [])) a).upd fun g =>
    { g with updateTimer := some (s.now + Config.gaugeUpdateMs) }

/-- An update event of signal `i` (R86). -/
def gaugeSignal (i : Fin 256) (e : Effective) (s : State) : Acc Gauges → Acc Gauges :=
  Gauges.onInUse s fun _ cfg r =>
    if cfg.source = i then
      let r := { r with view := e }
      match r.state with
      | .tracking => (if e.good then r else r.enter .fallback, [])
      | .fallback => (if e.good then trackOrFallback r else r, [])
      | _ => (r, [])
    else (r, [])

/-- The homing timer of gauge `g` expires (R93). -/
def homed (g : Fin 6) (s : State) : Acc Gauges → Acc Gauges :=
  Gauges.onInUse s fun h _ r =>
    if h = g then
      let r := { r with position := 0, filter := 0, demand := 0, target := 0, homing := none }
      match s.control.mode with
      | .active => (if r.sweepPending then beginSweep r else r.enter .settling, [])
      | _ => (r.enter .parking, [])
    else (r, [])

/-- The output test starts (R96). -/
def gaugeTestStart (s : State) : Acc Gauges → Acc Gauges :=
  Gauges.onInUse s fun _ _ r =>
    match r.state with
    | .tracking | .fallback | .sweep => ({ beginSweep r with testSweep := true }, [])
    | .settling | .homing => ({ r with sweepPending := true, testSweep := true }, [])
    | _ => (r, [])

/-- The output test ends (R96). -/
def gaugeTestEnd (s : State) : Acc Gauges → Acc Gauges :=
  Gauges.onInUse s fun _ _ r =>
    if r.testSweep then
      let r := { r with testSweep := false, sweepPending := false }
      (if r.state = .sweep then trackOrFallback r else r, [])
    else (r, [])

/-- An ignition sweep is due at an entry to ACTIVE from `old` (R95). -/
def sweepDue (cfg : GaugeConfig) (old : Mode) : Bool := cfg.sweep && old != .configuring

/-- One gauge at an entry to ACTIVE from `old` (R92, R95, R98). -/
def gaugeActive (g : Fin 6) (cfg : GaugeConfig) (old : Mode) (now : Nat) (r : GaugeRun) : Told GaugeRun :=
  match r.state with
  | .unhomed =>
    ({ r.enter .homing with
        homing := some (now + cfg.fs + cfg.overrun)
        sweepPending := r.sweepPending || sweepDue cfg old },
      [.report (.wear .gaugeHoming g.val)])
  | .homing => ({ r with sweepPending := r.sweepPending || sweepDue cfg old }, [])
  | .parked | .parking => (if sweepDue cfg old then beginSweep r else trackOrFallback r, [])
  | _ => (r, [])

/-- One gauge at an entry to STANDBY, CONFIGURING or SLEEP (R95, R97, R99). -/
def gaugeRest (new : Mode) (r : GaugeRun) : GaugeRun :=
  let r := { r with sweepPending := false }
  match r.state with
  | .tracking | .fallback | .settling | .sweep => if new = .sleep then r else r.enter .parking
  | .homing => if new = .standby then r else { r.enter .unhomed with homing := none }
  | .parking => if new = .sleep then r.enter .unhomed else r
  | _ => r

/-- The Gauge Engine takes a change of mode (R92, R95, R97 to R99). -/
def gaugeMode (old new : Mode) (s : State) (a : Acc Gauges) : Acc Gauges :=
  match new with
  | .active => Gauges.onInUse s (fun g cfg r => gaugeActive g cfg old s.now r) a
  | .starting => a
  | .sleep =>
    (Gauges.onInUse s (fun _ _ r => (gaugeRest new r, [])) a).upd fun g => { g with updateTimer := none }
  | _ => Gauges.onInUse s (fun _ _ r => (gaugeRest new r, [])) a

/-- The Gauge Engine's start and each re-initialization, `old` the configuration it ran with (R84, R100). -/
def reinitGauges (old : Image) (s : State) (a : Acc Gauges) : Acc Gauges :=
  let r := tellRows a.st.gauges fun g r =>
    let cfg := s.running.gauges.get g
    let r := if old.gauges.get g = cfg then r else { GaugeRun.reset with view := r.view, phase := r.phase }
    let r := if cfg.inUse then { r with view := s.eff cfg.source } else r
    (r, [.record (.gauge g) (gaugeContent g r)])
  ⟨{ a.st with gauges := r.1, updateTimer := some (s.now + Config.gaugeUpdateMs) }, a.out ++ r.2⟩

end Sys2Proof.Machine
end

