-- ==== Sys2Proof/Machine/Inputs.lean ====
section
/-! DEFINITION. Inputs: the Input Scanner (R45 to R59). Channels run with the configuration taken at the last start or
re-initialization (`State.running`); re-reports after CLEAR FAULTS use the working image's code (R51). -/

namespace Sys2Proof.Machine

/-- Every discrete channel takes an event. -/
def Inputs.onDiscretes (f : Fin 24 → DiscreteRun → Told DiscreteRun) (a : Acc Inputs) : Acc Inputs :=
  let r := tellRows a.st.discretes f
  ⟨{ a.st with discretes := r.1 }, a.out ++ r.2⟩

/-- Every analog channel takes an event. -/
def Inputs.onAnalogs (f : Fin 8 → AnalogRun → Told AnalogRun) (a : Acc Inputs) : Acc Inputs :=
  let r := tellRows a.st.analogs f
  ⟨{ a.st with analogs := r.1 }, a.out ++ r.2⟩

/-- The class of a sample (Table 3-4). -/
def classify (supervised : Bool) (level : Nat) : WireClass :=
  if supervised then
    if level < 100 then .groundShort else if level < 450 then .low else if level < 850 then .high else .openWire
  else if level < 500 then .low else .high

/-- One step of the debounce rule (R48): candidate and repeat count after a sample of class `c`. -/
def debounce (limit : Nat) (c : WireClass) (candidate : Option WireClass) (count : Nat) : Option WireClass × Nat :=
  if candidate = some c then (candidate, min limit (count + 1)) else (some c, 1)

/-- A write of the channel's target, made only while the target's source record names the channel (R58). -/
def channelWrite (img : Image) (target : Option (Fin 256)) (channel : Source) (w : SignalWrite) : List Notice :=
  match target with
  | some i => if (img.signals.get i).source == channel then [.write i w] else []
  | none => []

/-- The re-report of a channel at a scan (R51, R55), made once, at the first scan after the cause that made it due. -/
def rereport (due latch : Bool) (reported : Option Nat) (fault : Option FaultCode) (source : FaultSource) :
    Option Nat × List Notice :=
  if due && latch then raiseFlag reported fault source else (reported, [])

/-- A class is taken (R49, R50). -/
def takeClass (img : Image) (n : Fin 24) (cfg : DiscreteConfig) (c : WireClass) (r : DiscreteRun) : Told DiscreteRun :=
  let r := { r with taken := some c }
  match c with
  | .low | .high =>
    let asserted := (c == .high) == cfg.activeHigh
    let cleared := clearFlag r.reported (.discrete n)
    ({ r with latch := false, reported := cleared.1 },
      channelWrite img cfg.target (.discrete n) (.bare (if asserted then 1 else 0)) ++ cleared.2)
  | .groundShort | .openWire =>
    let raised := raiseFlag r.reported cfg.fault (.discrete n)
    ({ r with latch := true, reported := raised.1 },
      channelWrite img cfg.target (.discrete n) (.status .wireFault)
        ++ (if r.latch then [] else [.report (.wear .inputWireFault n.val)]) ++ raised.2)

/-- One discrete channel is sampled (R47, R48, R51). -/
def sampleDiscrete (img : Image) (n : Fin 24) (cfg : DiscreteConfig) (level : Nat) (r : DiscreteRun) : Told DiscreteRun :=
  let again := rereport r.due r.latch r.reported (img.discretes.get n).fault (.discrete n)
  let c := classify cfg.supervised level
  let d := debounce cfg.debounce c r.candidate r.count
  let r := { r with reported := again.1, due := false, candidate := d.1, count := d.2 }
  if d.2 = cfg.debounce ∧ r.taken ≠ some c then
    let t := takeClass img n cfg c r
    (t.1, again.2 ++ t.2)
  else (r, again.2)

/-- One analog channel is sampled (R53, R54, R55). -/
def sampleAnalog (img : Image) (n : Fin 8) (cfg : AnalogConfig) (target : Fin 256) (sample : Nat) (r : AnalogRun) :
    Told AnalogRun :=
  let again := rereport r.due r.latch r.reported (img.analogs.get n).fault (.analog n)
  let history := (r.history ++ [sample]).drop (r.history.length + 1 - cfg.averaging)
  let r := { r with reported := again.1, due := false, history := history }
  if history.length < cfg.averaging then (r, again.2)
  else
    let mean := history.sum / cfg.averaging
    if cfg.low ≤ mean ∧ mean ≤ cfg.high then
      let cleared := if r.latch then clearFlag r.reported (.analog n) else (r.reported, [])
      ({ r with latch := false, reported := cleared.1 },
        again.2 ++ channelWrite img cfg.target (.analog n)
          (converted (img.signals.get target) (scale cfg.gain cfg.shift cfg.offset mean)) ++ cleared.2)
    else
      let raised := raiseFlag r.reported cfg.fault (.analog n)
      ({ r with latch := true, reported := raised.1 },
        again.2 ++ channelWrite img cfg.target (.analog n) (.status .wireFault)
          ++ (if r.latch then [] else [.report (.wear .inputWireFault (24 + n.val))]) ++ raised.2)

/-- A scan outside SLEEP: every channel that it covers (Table 3-1), and the next period (R45). The channels, which need no order, go by
increasing number, discrete before analog (log 41). -/
def takeScan (levels : Tab 24 Nat) (samples : Tab 8 Nat) (s : State) (a : Acc Inputs) : Acc Inputs :=
  let a := Inputs.onDiscretes (fun n r =>
    let cfg := s.running.discretes.get n
    if cfg.target.isSome || cfg.wake then sampleDiscrete s.image n cfg (levels.get n) r else (r, [])) a
  let a := Inputs.onAnalogs (fun n r =>
    let cfg := s.running.analogs.get n
    match cfg.target with
    | some i => sampleAnalog s.image n cfg i (samples.get n) r
    | none => (r, [])) a
  a.upd fun i => { i with scanTimer := some (s.now + s.running.general.scanPeriod) }

/-- One wake-capable channel is sampled in SLEEP (R56). -/
def sampleWake (cfg : DiscreteConfig) (level : Nat) (r : DiscreteRun) : Told DiscreteRun :=
  let c := classify cfg.supervised level
  let d := debounce cfg.debounce c r.wakeCandidate r.wakeCount
  let r := { r with wakeCandidate := d.1, wakeCount := d.2 }
  if d.2 = cfg.debounce then
    match r.wakeRef with
    | none => ({ r with wakeRef := some c }, [])
    | some ref => if ref = c then (r, []) else ({ r with wakeRef := some c }, [.wake])
  else (r, [])

/-- A scan in SLEEP (R56). -/
def takeSleepScan (levels : Tab 24 Nat) (s : State) (a : Acc Inputs) : Acc Inputs :=
  let a := Inputs.onDiscretes (fun n r =>
    let cfg := s.running.discretes.get n
    if cfg.wake then sampleWake cfg (levels.get n) r else (r, [])) a
  a.upd fun i => { i with sleepTimer := some (s.now + Config.sleepScanMs) }

/-- CLEAR FAULTS resets the flags; the channels re-report at their next scan (R51, R55). -/
def resetInputFlags (a : Acc Inputs) : Acc Inputs :=
  let a := Inputs.onDiscretes (fun _ r => ({ r with reported := none, due := true }, [])) a
  Inputs.onAnalogs (fun _ r => ({ r with reported := none, due := true }, [])) a

/-- The report of a channel at a re-initialization (R59): ended for a channel no longer sampled (`off`) and under a code that is no
longer the configuration's; and whether a re-report is due at the next scan, because CLEAR FAULTS had made it due or a report under
another code has ended and a code is now present. -/
def reinitReport (off : Bool) (due : Bool) (reported : Option Nat) (fault : Option FaultCode) (source : FaultSource) :
    Option Nat × List Notice × Bool :=
  let ended := if off then clearFlag reported source else recodeFlag reported fault source
  (ended.1, ended.2, due || (!off && reported.isSome && ended.1.isNone && fault.isSome))

/-- The Input Scanner's start and each re-initialization (R45, R59). The wake reference becomes none (R59); so does the wake candidate,
and the wake count becomes 0, of which R59 says nothing (DESIGN CHOICE, log 47). -/
def reinitInputs (s : State) (a : Acc Inputs) : Acc Inputs :=
  let a := Inputs.onDiscretes (fun n r =>
    let cfg := s.running.discretes.get n
    let off := cfg.target.isNone && !cfg.wake
    let report := reinitReport off r.due r.reported cfg.fault (.discrete n)
    (⟨none, 0, none, r.latch && !(off && r.reported.isSome), report.1, none, none, 0, report.2.2⟩, report.2.1)) a
  let a := Inputs.onAnalogs (fun n r =>
    let cfg := s.running.analogs.get n
    let off := cfg.target.isNone
    let report := reinitReport off r.due r.reported cfg.fault (.analog n)
    (⟨[], r.latch && !(off && r.reported.isSome), report.1, report.2.2⟩, report.2.1)) a
  a.upd fun i => { i with scanTimer := some (s.now + s.running.general.scanPeriod), sleepTimer := none }

/-- The Input Scanner takes a change of mode (R56). -/
def inputMode (new : Mode) (s : State) (a : Acc Inputs) : Acc Inputs :=
  if new == .sleep then
    let a := Inputs.onDiscretes (fun n r =>
      (if (s.running.discretes.get n).wake then { r with wakeRef := r.taken, wakeCandidate := none, wakeCount := 0 }
        else r, [])) a
    a.upd fun i => { i with scanTimer := none, sleepTimer := some (s.now + Config.sleepScanMs) }
  else a

end Sys2Proof.Machine
end

