-- ==== Sys2Proof/Machine/Lamps.lean ====
section
/-! DEFINITION. Lamps: the Lamp Unit (R126 to R139): lamp resolution, the Pattern Sequencer, bulb check, lamp faults, dimming
and the buzzer, with the configurations taken at the last start or re-initialization. -/

namespace Sys2Proof.Machine

/-! ### Resolution (sections 7.2, 7.3, 7.7) -/

/-- A pattern's step row: PT0 is fixed in the device (R127). -/
def patternOf (img : Image) (p : Fin 8) : Pattern := if p = 0 then Pattern.steady else img.patterns.get p

/-- The step value of a pattern at the sequencer's position (R128). -/
def patternOn (img : Image) (step : Nat) (p : Fin 8) : Bool :=
  (patternOf img p).steps.getLsbD (step % (patternOf img p).period)

/-- The owner pattern (R129, R130); the requests stand in the order level, then warning index. -/
def ownerPattern (cfg : LampConfig) (r : LampRun) : Lit :=
  match cfg.owner with
  | .none => none
  | .warnings => r.requests.head?.map (·.pattern)
  | .signal => if r.view.asserted then cfg.pattern else none
  | .door => r.doorRequest

/-- Table 7-4. -/
def resolvedPattern (mode : Mode) (test bulb : Bool) (cfg : LampConfig) (r : LampRun) : Lit :=
  if r.shortOff then none
  else if cfg.owner = .none then none
  else
    match mode with
    | .active => if test || bulb then some 0 else ownerPattern cfg r
    | .standby => if cfg.standby || cfg.owner == .door then ownerPattern cfg r else none
    | _ => none

/-- A pattern, or none, is on at the sequencer's position. -/
def litOn (img : Image) (step : Nat) (p : Lit) : Bool :=
  match p with
  | some p => patternOn img step p
  | none => false

/-- The buzzer's pattern (R137). -/
def buzzerPattern (s : State) : Lit :=
  if s.control.mode = .active then (if s.testRuns then some 0 else s.warnings.request) else none

/-- What the buzzer output gives for a pattern at the sequencer's position: the running buzzer tone in Hz while the pattern's step
is on, silence otherwise (R137, Table 7-3). -/
def toneOf (img : Image) (step : Nat) (p : Lit) : Option Nat :=
  if litOn img step p then some (100 * img.general.tone) else none

/-- Content of a LAMPS record (R138, Table 10-11). -/
def lampsContent (lamps : Tab 24 LampRun) : List Byte :=
  content12 (leBytes 3 (lamps.rows.foldl (fun n r => if r.2.resolved.isSome then n + 2 ^ r.1.val else n) 0))

/-- Every lamp and the buzzer are resolved again and their outputs set (R131, R137); a change of the lit states is written into
the LAMPS records (R138). -/
def relight (s : State) (a : Acc Lamps) : Acc Lamps :=
  let u := a.st
  let lamps := u.lamps.mapIdx fun l r =>
    let p := resolvedPattern s.control.mode s.testRuns u.bulbTimer.isSome (s.running.lamps.get l) r
    { r with resolved := p, output := litOn s.running u.step p }
  let sound := buzzerPattern s
  (a.upd fun u => { u with lamps := lamps, buzzer := sound, buzzerTone := toneOf s.running u.step sound })
    |>.sayIf (lampsContent lamps != lampsContent u.lamps) (.record .lamps (lampsContent lamps))

/-- Every lamp takes an event; then all are resolved again. -/
def Lamps.onLamps (s : State) (f : Fin 24 → LampConfig → LampRun → Told LampRun) (a : Acc Lamps) : Acc Lamps :=
  let r := tellRows a.st.lamps fun l => f l (s.running.lamps.get l)
  relight s ⟨{ a.st with lamps := r.1 }, a.out ++ r.2⟩

/-! ### Requests and signals -/

/-- The requests with one more, in the order level, then warning index (R129). -/
def addRequest (q : LampRequest) : List LampRequest → List LampRequest
  | [] => [q]
  | r :: rest =>
    if q.level < r.level ∨ (q.level = r.level ∧ q.warning < r.warning) then q :: r :: rest else r :: addRequest q rest

/-- A warning gives a lamp request (R113, R129). -/
def giveLamp (l : Fin 24) (q : LampRequest) (s : State) : Acc Lamps → Acc Lamps :=
  Lamps.onLamps s fun k _ r =>
    (if k = l then { r with requests := addRequest q (r.requests.filter (·.warning != q.warning)) } else r, [])

/-- A warning withdraws its lamp request (R113, R129). -/
def withdrawLamp (l : Fin 24) (w : Fin 64) (s : State) : Acc Lamps → Acc Lamps :=
  Lamps.onLamps s fun k _ r =>
    (if k = l then { r with requests := r.requests.filter (·.warning != w) } else r, [])

/-- A door hands its lamp request (R78, R130). -/
def doorLamps (d : Fin 6) (p : Lit) (s : State) : Acc Lamps → Acc Lamps :=
  Lamps.onLamps s fun _ cfg r =>
    (if cfg.owner = .door ∧ cfg.door = some d then { r with doorRequest := p } else r, [])

/-- The duty of a backlight channel (R136). -/
def dutyOf (points : List (Int × Nat)) (e : Effective) : Nat := if e.good then interpolate points e.value else 1000

/-- Both duties from the dimmer's effective state (R136). -/
def setDuties (e : Effective) (s : State) (a : Acc Lamps) : Acc Lamps :=
  a.upd fun u => { u with duty0 := dutyOf s.running.general.bl0 e, duty1 := dutyOf s.running.general.bl1 e }

/-- An update event of signal `i` (R130, R136). -/
def lampSignal (i : Fin 256) (e : Effective) (s : State) (a : Acc Lamps) : Acc Lamps :=
  let a := if s.running.general.dimmer = i then setDuties e s a else a
  Lamps.onLamps s (fun _ cfg r =>
    (if cfg.owner = .signal ∧ cfg.signal = some i then { r with view := e } else r, [])) a

/-! ### Sequencer, bulb check, sensing -/

/-- The step timer expires (R128), with the repetition end of R137. -/
def takeStep (s : State) (a : Acc Lamps) : Acc Lamps :=
  let a := relight s (a.upd fun u =>
    { u with step := (u.step + 1) % 65536, stepTimer := some (s.now + s.running.general.stepInterval) })
  match s.control.mode, s.testRuns, s.warnings.request with
  | .active, false, some p =>
    a.sayIf (a.st.step % (patternOf s.running p).period == 0) (.repetition s.warnings.requestNumber)
  | _, _, _ => a

/-- The bulb check timer expires (R132). -/
def bulbCheckEnds (s : State) (a : Acc Lamps) : Acc Lamps := relight s (a.upd fun u => { u with bulbTimer := none })

/-- One lamp takes a sensing result (R134). -/
def senseLamp (l : Fin 24) (cfg : LampConfig) (q : Sensing) (r : LampRun) : Told LampRun :=
  let wear : List Notice := if r.latch then [] else [.report (.wear .lampFault l.val)]
  match q with
  | .openLoad =>
    let raised := raiseFlag r.reported cfg.fault (.lamp l)
    ({ r with latch := true, reported := raised.1 }, wear ++ raised.2)
  | .short =>
    let raised := if r.latch then (r.reported, []) else raiseFlag r.reported cfg.fault (.lamp l)
    ({ r with latch := true, shortOff := true, reported := raised.1 }, wear ++ raised.2)
  | .loadPresent =>
    let cleared := clearFlag r.reported (.lamp l)
    ({ r with latch := false, reported := cleared.1 }, cleared.2)

/-- Lamp `l` takes a sensing result (R134). -/
def takeSensing (l : Fin 24) (q : Sensing) (s : State) : Acc Lamps → Acc Lamps :=
  Lamps.onLamps s fun k cfg r => if k = l then senseLamp l cfg q r else (r, [])

/-- A driver gives sensing results while it conducts: its output is on at a duty above 0 (R134, R136). -/
def conducts (u : Lamps) (l : Fin 24) : Bool := (u.lamps.get l).output && u.duty1 != 0

/-- The levels of the outputs BL0 and BL1 (R136). -/
def backlight (s : State) : Nat × Nat :=
  if s.control.mode = .active ∨ s.control.mode = .configuring then (s.lamps.duty0, s.lamps.duty1) else (0, 0)

/-! ### Modes, CLEAR FAULTS, re-initialization -/

/-- The Lamp Unit takes a change of mode (R128, R131, R132). The step timer of a passage between ACTIVE and STANDBY runs on
(log 21). -/
def lampMode (new : Mode) (s : State) (a : Acc Lamps) : Acc Lamps :=
  let g := s.running.general
  let step := match new with
    | .active | .standby =>
      match a.st.stepTimer with
      | some t => some t
      | none => some (s.now + g.stepInterval)
    | _ => none
  let bulb := if new = .active ∧ g.bulbCheck ≠ 0 then some (s.now + g.bulbCheck) else none
  Lamps.onLamps s (fun _ _ r => (if new = .active then { r with shortOff := false } else r, []))
    (a.upd fun u => { u with stepTimer := step, bulbTimer := bulb })

/-- CLEAR FAULTS: flags reset, standing faults raised again (R135). -/
def rereportLamps (s : State) : Acc Lamps → Acc Lamps :=
  Lamps.onLamps s fun l cfg r =>
    if r.latch then
      let raised := raiseFlag none cfg.fault (.lamp l)
      ({ r with reported := raised.1 }, raised.2)
    else ({ r with reported := none }, [])

/-- One lamp at a start or re-initialization (R135, R139). A latched lamp raises under its new code only where its flag was set until
this moment: whether R135 means a lamp whose flag was clear too, it does not say (DESIGN CHOICE, log 37). -/
def freshLamp (l : Fin 24) (cfg : LampConfig) (s : State) (r : LampRun) : Told LampRun :=
  let ended := recodeFlag r.reported cfg.fault (.lamp l)
  let raised := if r.reported.isSome && ended.1.isNone && r.latch then raiseFlag none cfg.fault (.lamp l)
    else (ended.1, [])
  let view := match cfg.signal with
    | some i => s.eff i
    | none => Effective.none
  ({ r with view := view, reported := raised.1 }, ended.2 ++ raised.2)

/-- The Lamp Unit's start and each re-initialization (R139). -/
def reinitLamps (s : State) (a : Acc Lamps) : Acc Lamps :=
  let a := setDuties (s.eff s.running.general.dimmer) s a
  let a := a.upd fun u =>
    { u with stepTimer := u.stepTimer.map fun _ => s.now + s.running.general.stepInterval }
  let a := Lamps.onLamps s (fun l cfg r => freshLamp l cfg s r) a
  a.say (.record .lamps (lampsContent a.st.lamps))

end Sys2Proof.Machine
end

