-- ==== Sys2Proof/Machine/Outbound.lean ====
section
/-! DEFINITION. Outbound: the Outbound Unit (R156 to R164), with the Transmit Schedule taken at the last start or
re-initialization. -/

namespace Sys2Proof.Machine

/-- One port takes an event. -/
def Outbound.onPort (p : Port) (f : OutPort → Told OutPort) (a : Acc Outbound) : Acc Outbound :=
  let r := tellRow a.st.ports p f
  ⟨{ a.st with ports := r.1 }, a.out ++ r.2⟩

/-- Every port is changed. -/
def Outbound.mapPorts (f : OutPort → OutPort) (a : Acc Outbound) : Acc Outbound :=
  a.upd fun o => { o with ports := o.ports.map f }

/-! ### Schedule and queues (sections 9.1, 9.2) -/

/-- An entry runs (R157). -/
def entryRuns (s : State) (cfg : TransmitEntry) : Bool :=
  cfg.inUse && (s.frames.ports.get cfg.port).state != .offline
    && (s.control.mode == .active || (s.control.mode == .standby && cfg.standby))

/-- An entry that starts to run starts its timer, one that stops loses timer and backlog (R157). -/
def retimeEntry (s : State) (e : Fin 16) (r : TransmitRun) : TransmitRun :=
  let cfg := s.running.transmit.get e
  if entryRuns s cfg then
    match r.timer with
    | some _ => r
    | none => { r with timer := some (s.now + cfg.period * 10) }
  else ⟨0, none⟩

/-- Every entry starts or stops as it runs or not (R157). -/
def retime (s : State) (a : Acc Outbound) : Acc Outbound :=
  a.upd fun o => { o with schedule := o.schedule.mapIdx (retimeEntry s) }

/-- The period timer of entry `e` expires (R157). -/
def takePeriod (e : Fin 16) (s : State) (a : Acc Outbound) : Acc Outbound :=
  let due := some (s.now + (s.running.transmit.get e).period * 10)
  a.upd fun o => { o with schedule := o.schedule.modify e fun r => ⟨satSucc 15 r.backlog, due⟩ }

/-- A forward copy joins the tail, or is dropped with its wear event when it finds the queue full (R158). -/
def joinForward (p : Port) (c : ForwardCopy) : Acc Outbound → Acc Outbound :=
  Outbound.onPort p fun q =>
    if q.forward.length < 16 then ({ q with forward := q.forward ++ [c] }, [])
    else (q, [.report (.wear .forwardDrop p.val)])

/-- Response segments of a port that count against its 8 places (R159). -/
def OutPort.responseLoad (q : OutPort) : Nat :=
  q.response.length +
    match q.flight with
    | some ⟨.response _, _⟩ => 1
    | _ => 0

/-- A response is queued whole, or discarded whole when it does not fit (R159). -/
def joinResponse (p : Port) (segments : List (List Byte)) : Acc Outbound → Acc Outbound :=
  Outbound.onPort p fun q =>
    (if q.responseLoad + segments.length ≤ 8 then { q with response := q.response ++ segments } else q, [])

/-! ### Picks (section 9.3) -/

/-- The running entry of port `p` with the highest backlog, ties to the lowest index, with its backlog (R160). -/
def mostOwed (p : Port) (s : State) (schedule : Tab 16 TransmitRun) : Option (Fin 16 × Nat) :=
  (List.finRange 16).foldl (fun best e =>
    let cfg := s.running.transmit.get e
    if cfg.port = p && entryRuns s cfg then
      let n := (schedule.get e).backlog
      match best with
      | none => some (e, n)
      | some (_, m) => if m < n then some (e, n) else best
    else best) none

/-- The choice of Table 9-2. -/
inductive Choice | nothing | forward | own
deriving DecidableEq, Repr

/-- Table 9-2: the choice at backlog `u`, and whether it sets the catch-up flag. -/
def chooseFrame (u : Nat) (head : Option ForwardCopy) (last : LastPick) (catchUp : Bool) : Choice × Bool :=
  match head with
  | none => (if u = 0 then .nothing else .own, catchUp)
  | some c =>
    if u ≤ 3 then (.forward, catchUp)
    else if u ≤ 7 then (if last = .own then .forward else .own, catchUp)
    else if u ≤ 11 then (if c.urgent && !catchUp then .forward else .own, catchUp)
    else (.own, true)

/-- One pick of port `p` (R160, R162). -/
def pickFrame (p : Port) (s : State) (schedule : Tab 16 TransmitRun) (q : OutPort) : OutPort :=
  match q.response with
  | seg :: rest =>
    let cfg := s.image.general.ports.get p
    { q with response := rest, flight := some ⟨.response seg, ⟨cfg.serviceKind, cfg.response, seg⟩⟩ }
  | [] =>
    let e := mostOwed p s schedule
    let u := match e with | some (_, n) => n | none => 0
    if u = 0 ∧ q.forward = [] then q
    else
      let catchUp := q.catchUp && decide (7 < u)
      let choice := chooseFrame u q.forward.head? q.lastPick catchUp
      let q := { q with catchUp := choice.2 }
      match choice.1, e, q.forward with
      | .forward, _, c :: rest =>
        { q with forward := rest, lastPick := .forward, flight := some ⟨.forward c, c.frame⟩ }
      | .own, some (e, _), _ =>
        let cfg := s.running.transmit.get e
        { q with lastPick := .own, flight := some ⟨.own e true, ⟨cfg.kind, cfg.ident, packFrame s.eff cfg⟩⟩ }
      | _, _, _ => q

/-- Every port that is free to send makes its pick (R160). -/
def pickAll (s : State) (a : Acc Outbound) : Acc Outbound :=
  let pick := fun (p : Port) (q : OutPort) =>
    if (s.frames.ports.get p).state.sends && q.flight.isNone then pickFrame p s a.st.schedule q else q
  a.upd fun o => { o with ports := o.ports.mapIdx pick }

/-! ### Completion and abandonment -/

/-- The frame in flight of port `p` completes (R161). -/
def completeFrame (p : Port) (a : Acc Outbound) : Acc Outbound :=
  let flight := (a.st.ports.get p).flight
  let a := Outbound.onPort p (fun q => ({ q with flight := none }, [])) a
  match flight with
  | some ⟨.own e true, _⟩ =>
    a.upd fun o => { o with schedule := o.schedule.modify e fun r => { r with backlog := r.backlog - 1 } }
  | _ => a

/-- The frame in flight of a port that has entered BUS_OFF is abandoned (R163). -/
def abandonFrame (p : Port) : Acc Outbound → Acc Outbound :=
  Outbound.onPort p fun q =>
    match q.flight with
    | none => (q, [])
    | some ⟨.own _ _, _⟩ => ({ q with flight := none }, [])
    | some ⟨.forward _, _⟩ => ({ q with flight := none }, [.report (.wear .forwardDrop p.val)])
    | some ⟨.response seg, _⟩ => ({ q with flight := none, response := seg :: q.response }, [])

/-! ### Modes and re-initialization (section 9.6) -/

/-- The Outbound Unit takes a change of mode (R157, R164). -/
def outboundMode (new : Mode) (s : State) (a : Acc Outbound) : Acc Outbound :=
  let a := match new with
    | .configuring => Outbound.mapPorts (fun q => { q with forward := [] }) a
    | .sleep => Outbound.mapPorts (fun q => { q with forward := [], response := [], flight := none }) a
    | _ => a
  retime s a

/-- A frame in flight no longer counts against its entry (R164). -/
def disown (f : Flight) : Flight :=
  match f.kind with
  | .own e _ => { f with kind := .own e false }
  | _ => f

/-- The Outbound Unit's re-initialization (R164). -/
def reinitOutbound (a : Acc Outbound) : Acc Outbound :=
  let a := Outbound.mapPorts (fun q =>
    { q with forward := [], flight := q.flight.map disown, lastPick := .none, catchUp := false }) a
  a.upd fun o => { o with schedule := Tab.replicate 16 ⟨0, none⟩ }

end Sys2Proof.Machine
end

