-- ==== Sys2Proof/Machine/Service.lean ====
section
/-! DEFINITION. Service: what the Service Channel holds (R172, R173, R175, R179, R180, R185): reassembly, access, the
timed-command slot, the output test, and the form of responses. The commands themselves are in Machine/Requests.lean and
Machine/Loads.lean. -/

namespace Sys2Proof.Machine

/-- What one port of the Service Channel holds is changed. -/
def setServicePort (p : Port) (f : ServicePort → ServicePort) (a : Acc Service) : Acc Service :=
  a.upd fun v => { v with ports := v.ports.modify p f }

/-- What every port holds is changed. -/
def mapServicePorts (f : ServicePort → ServicePort) (a : Acc Service) : Acc Service :=
  a.upd fun v => { v with ports := v.ports.map f }

/-! ### Messages (section 10.1) -/

/-- The segments of a message (section 10.1, Table 10-2). -/
def segmentsOf (message : List Byte) : List (List Byte) :=
  let n := (message.length + 6) / 7
  (List.range n).map fun i => byte (16 * i + n) :: (message.drop (7 * i)).take 7

/-- A response message (Table 10-3): data with DONE alone. -/
def responseMessage (code : Nat) (r : Result) (data : List Byte) : List Byte :=
  byte code :: byte r.code :: (if r = .done then data else [])

/-- The buffer of a port after one segment frame, and the message it completes (R172, R173). A last segment without a message byte is
discarded with its partial message: R172 states no consequence of it (DESIGN CHOICE, log 42). -/
def takeSegment (now : Nat) (data : List Byte) (q : ServicePort) : ServicePort × Option (List Byte) :=
  let empty := { q with assembly := none, gap := none }
  match data with
  | [] => (q, none)
  | header :: bytes =>
    let number := header.toNat / 16
    let count := header.toNat % 16
    let begun : Option (List Byte) :=
      if number = 0 then some []
      else
        match q.assembly with
        | some a => if a.next = number ∧ a.count = count then some a.bytes else none
        | none => none
    if count = 0 ∨ 8 < count ∨ count ≤ number then (empty, none)
    else
      match begun with
      | none => (empty, none)
      | some earlier =>
        if number + 1 < count then
          if bytes.length = 7 then
            ({ q with assembly := some ⟨count, number + 1, earlier ++ bytes⟩, gap := some (now + Config.gapMs) }, none)
          else (empty, none)
        else if bytes = [] then (empty, none)
        else (empty, some (earlier ++ bytes))

/-- The gap timer expires: the partial message is discarded (R173). -/
def gapExpires (p : Port) : Acc Service → Acc Service :=
  setServicePort p fun q => { q with assembly := none, gap := none }

/-! ### Access and output test (sections 10.3, 10.7) -/

/-- Access by the signals as they stand (R175). -/
def accessNow (s : State) : Bool :=
  let g := s.running.general
  (s.eff g.serviceEnable).asserted && (s.eff g.brake).asserted && !s.moving

/-- A running output test ends with a result (R185). -/
def endTest (r : Result) (a : Acc Service) : Acc Service :=
  match a.st.slot with
  | some (.outputTest, p) =>
    (a.upd fun v => { v with slot := none, testTimer := none }).sayAll
      [.respond p TimedCommand.outputTest.code r [], .testEnd]
  | _ => a

/-- Access is evaluated, with what its loss brings about (R175, R179, R185). -/
def evaluateAccess (s : State) (a : Acc Service) : Acc Service :=
  let now := accessNow s
  let lost := a.st.workshop && !now
  let a := a.upd fun v => { v with workshop := now }
  if lost then
    if s.control.mode = .configuring then
      match a.st.slot with
      | none => a.say .endConfiguration
      | some _ => a.upd fun v => { v with endDue := true }
    else endTest (if s.moving then .wrongMode else .denied) a
  else a

/-- An update event of signal `i` (R175). -/
def serviceUpdate (i : Fin 256) (s : State) (a : Acc Service) : Acc Service :=
  let g := s.running.general
  if g.serviceEnable = i ∨ g.brake = i ∨ g.speed = i then evaluateAccess s a else a

/-- The timed command in the slot completes: its final result is queued on the port recorded, the slot becomes FREE, and an end
of configuration that is due follows (R179, R180). -/
def completeTimed (r : Result) (a : Acc Service) : Acc Service :=
  match a.st.slot with
  | some (c, p) =>
    ((a.upd fun v => { v with slot := none, endDue := false }).say (.respond p c.code r [])).sayIf
      a.st.endDue .endConfiguration
  | none => a

/-- The Service Channel takes a change of mode (R173, R182, R185). -/
def serviceMode (old new : Mode) (a : Acc Service) : Acc Service :=
  let a := if old = .active then endTest .wrongMode a else a
  let a := if old = .configuring ∨ new = .configuring ∨ new = .sleep then
    mapServicePorts (fun q => { q with staging := none }) a else a
  if new = .sleep then mapServicePorts (fun q => { q with assembly := none, gap := none }) a else a

/-- The Service Channel's start and each re-initialization: access is evaluated (R175). -/
def reinitService (s : State) (a : Acc Service) : Acc Service := a.upd fun v => { v with workshop := accessNow s }

end Sys2Proof.Machine
end

