-- ==== Sys2Proof/Machine/Signals.lean ====
section
/-! DEFINITION. Signals: the Signal Store: writes, resolution, update events, re-initialization (R24, R31 to R36, R41 to R44). -/

namespace Sys2Proof.Machine

/-- The in-use Substitution Table entry that names signal `i`: there is at most one (R40). -/
def Image.subIndex (img : Image) (i : Fin 256) : Option (Fin 16) :=
  img.substitution.findIdx fun _ e => e.inUse && e.signal == i

/-- That entry. -/
def Image.subOf (img : Image) (i : Fin 256) : Option SubEntry :=
  (img.subIndex i).map img.substitution.get

/-- A signal is blocked while an in-use FORCED entry with alternate kind NONE names it (R41). -/
def Image.blocks (img : Image) (i : Fin 256) : Bool :=
  match img.subOf i with
  | some e => e.forced && e.alternate == .none
  | none => false

/-- The own status: the written status, or BLOCKED (R24, R41). -/
def ownStatus (img : Image) (i : Fin 256) (r : SignalRun) : OwnStatus :=
  if img.blocks i then .blocked else r.written

/-- What the alternate of an entry gives: the constant, or the own value of a signal whose own status is VALID (R31). -/
def alternateValue (img : Image) (t : Tab 256 SignalRun) (e : SubEntry) : Option Int :=
  match e.alternate with
  | .none => none
  | .constant v => some v
  | .signal j => if ownStatus img j (t.get j) == .valid then some (t.get j).own else none

/-- Resolution (Table 2-4) with its effect on the held value (R32): the record of signal `i` resolved anew. -/
def resolved (img : Image) (t : Tab 256 SignalRun) (i : Fin 256) : SignalRun :=
  let r := t.get i
  let cfg := img.signals.get i
  let own := ownStatus img i r
  let entry := img.subOf i
  if !(entry.any (·.forced)) && own == .valid then
    { r with eff := ⟨r.own, .valid, none, r.qual⟩, held := r.own }
  else
    match entry.bind (alternateValue img t) with
    | some v =>
      let c := clamp cfg.min cfg.max v
      { r with eff := ⟨c, .substituted, none, decide (c ≠ v)⟩, held := c }
    | none =>
      { r with eff := ⟨r.held, .invalid, some (if own == .valid then .blocked else own), false⟩ }

/-- Resolves signal `i` and sends its update event if the effective state changed (R34). -/
def resolve (img : Image) (i : Fin 256) (a : Acc (Tab 256 SignalRun)) : Acc (Tab 256 SignalRun) :=
  let r := resolved img a.st i
  (a.upd (·.set i r)).sayIf (r.eff != (a.st.get i).eff) (.update i r.eff)

/-- Resolves signal `i` and every signal whose in-use entry names it as alternate (R33): `i` first, then by increasing entry (DESIGN
CHOICE, log 41). -/
def resolveWithDependents (img : Image) (i : Fin 256) (a : Acc (Tab 256 SignalRun)) : Acc (Tab 256 SignalRun) :=
  (resolve img i a).eachOf img.substitution.list fun e a =>
    if e.inUse && e.alternate == .signal i then resolve img e.signal a else a

/-- The record of a signal after its source's write (R24). -/
def written (cfg : SignalConfig) (w : SignalWrite) (r : SignalRun) : SignalRun :=
  match w with
  | .converted v q => { r with own := v, written := .valid, qual := q }
  | .bare v =>
    let c := clamp cfg.min cfg.max v
    { r with own := c, written := .valid, qual := decide (c ≠ v) }
  | .status st => { r with written := st }

/-- A source's write of signal `i` (R24): resolution follows if it changed own value, own status or qualifier. -/
def takeWrite (i : Fin 256) (w : SignalWrite) (s : State) (a : Acc (Tab 256 SignalRun)) : Acc (Tab 256 SignalRun) :=
  let r := a.st.get i
  let r' := written (s.image.signals.get i) w r
  let a := a.upd (·.set i r')
  if r'.own != r.own || ownStatus s.image i r' != ownStatus s.image i r || r'.qual != r.qual then
    resolveWithDependents s.image i a
  else a

/-- The run-time side of a SIGNAL load of signal `i` with the limits and source already in the working image (R23). -/
def takeSignalLoad (i : Fin 256) (constant : Option Int) (s : State) (a : Acc (Tab 256 SignalRun)) :
    Acc (Tab 256 SignalRun) :=
  let cfg := s.image.signals.get i
  let r := a.st.get i
  let r := match constant with
    | some v => { r with own := v, written := .valid, qual := false }
    | none => r
  let c := clamp cfg.min cfg.max r.own
  let r := { r with own := c, qual := r.qual || decide (c ≠ r.own), held := clamp cfg.min cfg.max r.held }
  resolveWithDependents s.image i (a.upd (·.set i r))

/-- The run-time side of a write of a Substitution Table entry, the new entry already in the working image: the signal it names
and then the signal the old entry named are resolved (R41, R42; their order: DESIGN CHOICE, log 41). -/
def takeSubstitution (old new : SubEntry) (s : State) (a : Acc (Tab 256 SignalRun)) : Acc (Tab 256 SignalRun) :=
  let a := if new.inUse then resolveWithDependents s.image new.signal a else a
  if old.inUse && !(new.inUse && new.signal == old.signal) then resolveWithDependents s.image old.signal a else a

/-- The starting value of a signal (R32). -/
def startingValue (cfg : SignalConfig) : Int := clamp cfg.min cfg.max 0

/-- The record of a signal at re-initialization, before it is resolved (R44); the effective state is still the former. -/
def freshSignal (cfg : SignalConfig) (r : SignalRun) : SignalRun :=
  match cfg.source with
  | .constant v => { r with own := v, written := .valid, qual := false, held := startingValue cfg }
  | _ => { r with own := startingValue cfg, written := .neverReceived, qual := false, held := startingValue cfg }

/-- Content of a VALUE record (R35, Table 10-11). -/
def valueContent (i : Fin 256) (e : Effective) : List Byte :=
  content12 (leSigned 4 e.value ++ [byte e.status.code, optByte (e.reason.map (·.code)), flagByte e.qual, byte i.val])

/-- Writes of every VALUE record (R35), by increasing record (DESIGN CHOICE, log 41). -/
def valueWrites (kinds : Tab 64 RecordKind) (t : Tab 256 SignalRun) : List Notice :=
  kinds.list.filterMap fun k =>
    match k with
    | .value i => some (.record k (valueContent i (t.get i).eff))
    | _ => none

/-- Re-initialization of the Signal Store (R44): starting values, every signal resolved, the VALUE records written, and update
events for the signals whose effective state differs from before, unless this is the start after reset. The events go by increasing
signal, after the records (DESIGN CHOICE, log 41). -/
def reinitSignals (starting : Bool) (s : State) (a : Acc (Tab 256 SignalRun)) : Acc (Tab 256 SignalRun) :=
  let fresh := a.st.mapIdx fun i r => freshSignal (s.image.signals.get i) r
  let t := fresh.mapIdx fun i _ => resolved s.image fresh i
  let events := if starting then [] else
    (List.finRange 256).filterMap fun i =>
      if (t.get i).eff != (a.st.get i).eff then some (.update i (t.get i).eff) else none
  (a.upd fun _ => t).sayAll (valueWrites s.running.display t ++ events)

end Sys2Proof.Machine
end

