-- ==== Sys2Proof/Machine/Store.lean ====
section
/-! DEFINITION. Store: the Profile Store: slots, persistent area, waiting and running operations, its two faults (R186 to R190). The check
of an image or of a copy is held as its verdict (log 9). -/

namespace Sys2Proof.Machine

/-! ### The persistent area (R189) -/

/-- The copy written last. -/
def Store.current (t : Store) : AreaCopy := if t.secondIsCurrent then t.copyB else t.copyA

/-- The copy a save writes is replaced. -/
def Store.setOther (t : Store) (c : AreaCopy) : Store :=
  if t.secondIsCurrent then { t with copyA := c } else { t with copyB := c }

/-- The copy a save writes. -/
def Store.other (t : Store) : AreaCopy := if t.secondIsCurrent then t.copyA else t.copyB

/-- A save has begun, or failed: the copy it writes is invalid (R189). -/
def Store.spoil (t : Store) : Store := t.setOther { t.other with valid := false }

/-- A save completes: items and slot number, then a save number one above the other copy's, then the check; that copy is now
the current one (R187, R189). -/
def Store.saved (t : Store) (items : Persistent) (slot : Fin 4) : Store :=
  { t.setOther ⟨items, slot, t.current.number + 1, true⟩ with secondIsCurrent := !t.secondIsCurrent }

/-- The copy STARTING restores from: the valid one with the higher save number (R189, log 25). -/
def Store.restored (t : Store) : Option (AreaCopy × Bool) :=
  match t.copyA.valid, t.copyB.valid with
  | true, true => if t.copyA.number < t.copyB.number then some (t.copyB, true) else some (t.copyA, false)
  | true, false => some (t.copyA, false)
  | false, true => some (t.copyB, true)
  | false, false => none

/-! ### Operations (R186) -/

/-- The active slot record that a save carries: the running active slot (R189). After a fallback it is the record that STARTING
found, which is not rewritten until a commit or select names a slot (R191, log 36). -/
def State.slotRecord (s : State) : Fin 4 :=
  if s.control.fallback then s.store.current.activeSlot else s.control.activeSlot

/-- The next waiting operation begins when none runs: a commit erases its slot (R187 step 1, log 10), a save takes the items as they
stand, clears the changed flag and spoils the copy it writes (R189). -/
def State.beginOperation (s : State) : State :=
  match s.store.operation, s.store.waiting with
  | none, .commit n :: rest =>
    { s with store := { s.store with
        slots := s.store.slots.set n ⟨none, false⟩, status := s.store.status.set n false
        operation := some (.commit n .erase), waiting := rest } }
  | none, .select n :: rest =>
    { s with store := { s.store with operation := some (.selectRead n), waiting := rest } }
  | none, .save :: rest =>
    { s with
      store := { s.store.spoil with
        operation := some (.save s.faults.items s.slotRecord), waiting := rest }
      faults := { s.faults with changed := false } }
  | _, _ => s

/-- The next step of a running commit begins, the one before it done (R187): the image is written; its check is written; the check done,
the profile status flag is set and the save begins, which takes the items as they stand, clears the changed flag and spoils the copy it
writes (R189). -/
def State.commitTick (s : State) : State :=
  match s.store.operation with
  | some (.commit n .erase) => { s with store := { s.store with operation := some (.commit n .write) } }
  | some (.commit n .write) =>
    { s with store := { s.store with
        slots := s.store.slots.set n ⟨some s.image, false⟩, operation := some (.commit n .check) } }
  | some (.commit n .check) =>
    { s with
      store := { s.store.spoil with
        slots := s.store.slots.set n ⟨some s.image, true⟩, status := s.store.status.set n true
        operation := some (.commitSave n s.faults.items) }
      faults := { s.faults with changed := false } }
  | _ => s

/-- The number of a commit's step, from 0. -/
def stepRank : StoreStep → Nat
  | .erase => 0 | .write => 1 | .check => 2 | .save => 3

/-- The number of the step the running operation is in; nothing but a commit has a step before its save. -/
def Store.rank (t : Store) : Nat :=
  match t.operation with
  | some (.commit _ .erase) => 0
  | some (.commit _ .write) => 1
  | some (.commit _ .check) => 2
  | _ => 3

/-- The state in which a running commit has reached the step, or a later one if it stands there already (log 10). -/
def State.commitAt (reached : StoreStep) (s : State) : State := Nat.repeat State.commitTick (stepRank reached - s.store.rank) s

/-- An operation is requested; a save joins a waiting save (R186). -/
def State.requestOperation (r : StoreRequest) (s : State) : State :=
  if r = StoreRequest.save ∧ StoreRequest.save ∈ s.store.waiting then s
  else { s with store := { s.store with waiting := s.store.waiting ++ [r] } }.beginOperation

/-- An operation ends without a write failure: the store-failure flag and 0xF003 are cleared (R190). -/
def completedWell (a : Acc Store) : Acc Store :=
  (a.sayIf a.st.reportedFailure (.report (.clear Config.storeFailCode .profileStore))).upd fun t =>
    { t with operation := none, failure := false, reportedFailure := false }

/-- An operation ends with a write failure: the flag is set and 0xF003 raised (R190). -/
def completedBadly (a : Acc Store) : Acc Store :=
  (a.sayIf (!a.st.reportedFailure) (.report (.raise Config.storeFailCode .profileStore 2))).upd fun t =>
    { t with operation := none, failure := true, reportedFailure := true }

/-- A completed commit or select clears the fallback flag, and with it 0xF001 (R187, R188, R190). -/
def clearFallback (a : Acc Store) : Acc Store :=
  (a.sayIf a.st.reportedFallback (.report (.clear Config.fallbackCode .profileStore))).upd fun t =>
    { t with reportedFallback := false }

/-- CLEAR FAULTS: flags reset, what stands raised again (R190). Where both conditions stand, 0xF001 is raised before 0xF003 (DESIGN
CHOICE, log 38: R190 does not order the two). -/
def rereportStore (s : State) (a : Acc Store) : Acc Store :=
  ((a.sayIf s.control.fallback (.report (.raise Config.fallbackCode .profileStore 2))).sayIf a.st.failure
      (.report (.raise Config.storeFailCode .profileStore 2))).upd fun t =>
    { t with reportedFallback := s.control.fallback, reportedFailure := t.failure }

/-- A commit ends in its first three steps: its slot has no valid image, and its flag is clear (R187). -/
def Store.broken (n : Fin 4) (t : Store) : Store :=
  { t with slots := t.slots.modify n fun slot => { slot with checkAgrees := false }, status := t.status.set n false }

/-- The store after a reset that interrupts it (R186 to R189): what the running operation had written is kept, operations that
wait are discarded. A save that runs has spoiled its copy when it began. -/
def Store.afterReset (t : Store) : Store :=
  let t := match t.operation with
    | some (.commit n _) => t.broken n
    | _ => t
  { t with
    status := Tab.replicate 4 false, operation := none, waiting := [], failure := false, reportedFallback := false
    reportedFailure := false }

/-- Every slot is read and verified (R186). -/
def Store.verified (t : Store) : Store :=
  { t with status := t.slots.map fun slot => slot.image.isSome && slot.checkAgrees }

/-- The image of a slot whose status flag is set. -/
def Store.goodImage (t : Store) (n : Fin 4) : Option Image := if t.status.get n then (t.slots.get n).image else none

end Sys2Proof.Machine
end

