-- ==== Sys2Proof/Machine/Warnings.lean ====
section
/-! DEFINITION. Warnings: the Warning Engine (R102 to R125): conditions, warning states, Presentation Stack and Waiting List,
acknowledgement and the buzzer request. Definitions, masks and designations are those taken at the last start or
re-initialization. -/

namespace Sys2Proof.Machine

/-! ### Records and contents -/

/-- The record of warning `w` is changed. -/
def setWarning (w : Fin 64) (f : WarningRun → WarningRun) (a : Acc Warnings) : Acc Warnings :=
  a.upd fun v => { v with recs := v.recs.modify w f }

/-- Content of a PRESENT record (R123, Table 10-11). -/
def presentContent (s : State) (v : Warnings) : List Byte :=
  let head := match v.stack with
    | [] => leBytes 2 0 ++ [0xFF]
    | top :: _ => leBytes 2 (s.running.warnings.get top.warning).message ++ [byte top.level]
  content12 (head ++ [byte v.stack.length, byte v.waiting.length, flagByte v.request.isSome])

/-- Writes the PRESENT records (R123). -/
def showPresent (s : State) (a : Acc Warnings) : Acc Warnings := a.say (.record .present (presentContent s a.st))

/-- A warning is presentable (section 6.4). -/
def WarningRun.presentable (r : WarningRun) : Bool :=
  (r.state == .on || r.state == .releasing || r.state == .latched) && !r.acked

/-- A level is masked: it belongs to the mask in force (R115). -/
def masked (s : State) (v : Warnings) (level : Nat) : Bool :=
  (if v.moving then s.running.general.movingMask else s.running.general.stationaryMask).getLsbD level

/-- The level of a warning's running definition. -/
def levelOf (s : State) (w : Fin 64) : Nat := (s.running.warnings.get w).level

/-- The first warning of the Waiting List whose level is unmasked (R114). -/
def bestUnmasked (s : State) (v : Warnings) : Option (Fin 64) :=
  v.waiting.find? fun w => !masked s v (levelOf s w)

/-! ### Presentation Stack and Waiting List (section 6.6) -/

/-- The entry's minimum display time in ms. -/
def minimumMs (s : State) (w : Fin 64) : Nat := (s.running.warnings.get w).minimum * 100

/-- The entry's auto-dismiss time in ms. -/
def autoMs (s : State) (w : Fin 64) : Nat := (s.running.warnings.get w).autoDismiss * 1000

/-- What follows a change of the top entry: its two top timers, each for what its shown time is short of its limit, so that one at or
past its limit has none (R119, log 43), its buzzer request (R122) and the PRESENT records. -/
def topChanged (s : State) (a : Acc Warnings) : Acc Warnings :=
  let a := a.upd fun v =>
    match v.stack with
    | [] => { v with minTimer := none, autoTimer := none, request := none }
    | top :: _ =>
      let needed := minimumMs s top.warning
      let auto := autoMs s top.warning
      let v := { v with
        minTimer := if top.ackPending ∧ top.shown < needed then some (s.now + (needed - top.shown)) else none
        autoTimer := if auto ≠ 0 ∧ top.shown < auto then some (s.now + (auto - top.shown)) else none }
      match (s.running.warnings.get top.warning).buzzer with
      | some (pattern, _) =>
        if 0 < top.remaining then { v with request := some pattern, requestNumber := (v.requestNumber + 1) % 256 }
        else { v with request := none }
      | none => { v with request := none }
  showPresent s (a.say .buzzer)

/-- A new top entry for warning `w` (R116). -/
def push (w : Fin 64) (s : State) (a : Acc Warnings) : Acc Warnings :=
  let cfg := s.running.warnings.get w
  topChanged s (a.upd fun v =>
    { v with stack := ⟨w, cfg.level, 0, false, (cfg.buzzer.map (·.2)).getD 0⟩ :: v.stack })

/-- The level `n` may be pushed: the stack is empty or its top has a higher level number (R116). -/
def above (n : Nat) (stack : List StackEntry) : Bool :=
  match stack with
  | [] => true
  | top :: _ => decide (n < top.level)

/-- The Waiting List with `w` at the place its level and stamp give it (R114). -/
def enqueue (s : State) (recs : Tab 64 WarningRun) (w : Fin 64) : List (Fin 64) → List (Fin 64)
  | [] => [w]
  | v :: rest =>
    let key := fun x : Fin 64 => (levelOf s x, (recs.get x).stamp.getD 0)
    if (key w).1 < (key v).1 ∨ ((key w).1 = (key v).1 ∧ (key w).2 < (key v).2) then w :: v :: rest
    else v :: enqueue s recs w rest

/-- The next activation stamp is given to `w`; at the counter's end the stamps are renumbered (R110). -/
def giveStamp (w : Fin 64) (v : Warnings) : Warnings :=
  let recs := v.recs.modify w fun r => { r with stamp := some v.stampCounter }
  if v.stampCounter + 1 < Config.max32 then { v with recs := recs, stampCounter := v.stampCounter + 1 }
  else
    let stamps := recs.list.filterMap (·.stamp)
    { v with
      recs := recs.map fun r => { r with stamp := r.stamp.map fun n => (stamps.filter (· < n)).length }
      stampCounter := stamps.length }

/-- A warning that becomes presentable arrives (R110, R116). -/
def arrive (w : Fin 64) (s : State) (a : Acc Warnings) : Acc Warnings :=
  let a := a.upd (giveStamp w)
  if !masked s a.st (levelOf s w) && above (levelOf s w) a.st.stack then push w s a
  else showPresent s (a.upd fun v => { v with waiting := enqueue s v.recs w v.waiting })

/-- The promotion check (R117, R118): the best unmasked waiting warning is pushed if it may be; `otherwise` applies if none
is. -/
def promote (s : State) (otherwise : Acc Warnings → Acc Warnings) (a : Acc Warnings) : Acc Warnings :=
  match bestUnmasked s a.st with
  | some w =>
    if above (levelOf s w) a.st.stack then push w s (a.upd fun v => { v with waiting := v.waiting.erase w })
    else otherwise a
  | none => otherwise a

/-- A warning that stops being presentable is removed from wherever it stands (R117). -/
def withdraw (w : Fin 64) (s : State) (a : Acc Warnings) : Acc Warnings :=
  let a := setWarning w (fun r => { r with stamp := none }) a
  match a.st.stack with
  | [] => showPresent s (a.upd fun v => { v with waiting := v.waiting.erase w })
  | top :: rest =>
    if top.warning = w then promote s (topChanged s) (a.upd fun v => { v with stack := rest })
    else showPresent s (a.upd fun v =>
      { v with stack := top :: rest.filter (·.warning != w), waiting := v.waiting.erase w })

/-! ### Warning states (section 6.4, 6.5) -/

/-- Entry to ON (R110 to R113): from OFF or ARMING the warning becomes presentable and arrives; from RELEASING or LATCHED it
keeps its place. -/
def enterOn (w : Fin 64) (s : State) (a : Acc Warnings) : Acc Warnings :=
  let cfg := s.running.warnings.get w
  let r := a.st.recs.get w
  let new := r.state == .off || r.state == .arming
  let raised := raiseFlag r.reported cfg.fault (.warning w)
  let a := setWarning w (fun r =>
    { r with state := .on, delay := none, acked := if new then false else r.acked, reported := raised.1 }) a
  let a := a.sayAll raised.2
  if new then
    let a := match cfg.lamp with
      | some (l, p) => a.say (.lampGive l ⟨w, cfg.level, p⟩)
      | none => a
    arrive w s a
  else a

/-- Entry to OFF (R110 to R113). -/
def enterOff (w : Fin 64) (s : State) (a : Acc Warnings) : Acc Warnings :=
  let r := a.st.recs.get w
  let cleared := clearFlag r.reported (.warning w)
  let a := setWarning w (fun r =>
    { r with state := .off, delay := none, acked := false, reported := cleared.1 }) a
  let a := a.sayAll cleared.2
  let a := match r.state, (s.running.warnings.get w).lamp with
    | .off, _ | .arming, _ | _, none => a
    | _, some (l, _) => a.say (.lampWithdraw l w)
  if r.presentable then withdraw w s a else a

/-- The end of the off-delay: OFF, or LATCHED when latching and unacknowledged (R108). -/
def release (w : Fin 64) (s : State) (a : Acc Warnings) : Acc Warnings :=
  if (s.running.warnings.get w).latching && !(a.st.recs.get w).acked then
    setWarning w (fun r => { r with state := .latched, delay := none }) a
  else enterOff w s a

/-- The primary truth by the views (R104, R105). -/
def primaryTruth (cfg : WarningConfig) (views : Tab 256 WarningView) (present : Bool) : Bool :=
  let v := views.get cfg.primary
  if cfg.watch then !v.eff.good
  else if !v.eff.good && v.eff.reason == some .neverReceived && !v.delivered then false
  else cfg.op.truth cfg.threshold cfg.hysteresis present v.eff.value

/-- The qualifier holds, or there is none, or its view is INVALID (R105). -/
def qualifierHolds (cfg : WarningConfig) (views : Tab 256 WarningView) : Bool :=
  match cfg.qualifier with
  | none => true
  | some q =>
    let e := (views.get q.signal).eff
    !e.good || q.op.holds e.value q.threshold

/-- One evaluation of an in-use warning (R106 to R109). -/
def evaluateWarning (w : Fin 64) (s : State) (a : Acc Warnings) : Acc Warnings :=
  let cfg := s.running.warnings.get w
  let r := a.st.recs.get w
  let primary := primaryTruth cfg a.st.views r.primary
  let condition := primary && qualifierHolds cfg a.st.views
  let a := setWarning w (fun r => { r with primary := primary, condition := condition }) a
  if condition = r.condition then a
  else
    match condition, r.state with
    | true, .off =>
      if cfg.onDelay = 0 then enterOn w s a
      else setWarning w (fun r => { r with state := .arming, delay := some (s.now + cfg.onDelay * 100) }) a
    | true, .releasing | true, .latched => enterOn w s a
    | false, .arming => enterOff w s a
    | false, .on =>
      if cfg.offDelay = 0 then release w s a
      else setWarning w (fun r => { r with state := .releasing, delay := some (s.now + cfg.offDelay * 100) }) a
    | _, _ => a

/-! ### Acknowledgement (section 6.7) and the buzzer request (section 6.8) -/

/-- Warning `w`, carried by the top entry, is acknowledged (R109, R110). -/
def acknowledged (w : Fin 64) (s : State) (a : Acc Warnings) : Acc Warnings :=
  if (a.st.recs.get w).state = .latched then enterOff w s a
  else withdraw w s (setWarning w (fun r => { r with acked := true }) a)

/-- An acknowledgement in ACTIVE acts on the top entry (R120). -/
def acknowledgeTop (s : State) (a : Acc Warnings) : Acc Warnings :=
  match a.st.stack with
  | [] => a
  | top :: rest =>
    if top.ackPending then a
    else if minimumMs s top.warning ≤ top.shown then acknowledged top.warning s a
    else a.upd fun v =>
      { v with
        stack := { top with ackPending := true } :: rest
        minTimer := some (s.now + (minimumMs s top.warning - top.shown)) }

/-- The minimum timer expires (R120). -/
def minimumReached (s : State) (a : Acc Warnings) : Acc Warnings :=
  let a := a.upd fun v => { v with minTimer := none }
  match a.st.stack with
  | [] => a
  | top :: _ => acknowledged top.warning s a

/-- The auto-dismiss timer expires (R121). -/
def autoDismissed (s : State) (a : Acc Warnings) : Acc Warnings :=
  acknowledgeTop s (a.upd fun v => { v with autoTimer := none })

/-- A repetition end report with a request number (R122). -/
def repetitionEnd (number : Nat) (s : State) (a : Acc Warnings) : Acc Warnings :=
  match a.st.request, a.st.stack with
  | some _, top :: rest =>
    if number = a.st.requestNumber ∧ top.remaining ≠ 255 then
      let top := { top with remaining := top.remaining - 1 }
      let a := a.upd fun v => { v with stack := top :: rest }
      if top.remaining = 0 then showPresent s ((a.upd fun v => { v with request := none }).say .buzzer) else a
    else a
  | _, _ => a

/-! ### Update events, modes, re-initialization -/

/-- The mask in force follows the speed view; in ACTIVE its change applies the promotion check (R115, R118). -/
def remask (promoting : Bool) (s : State) (a : Acc Warnings) : Acc Warnings :=
  let g := s.running.general
  let moving := (a.st.views.get g.speed).eff.moving g.movingThreshold
  let before := if a.st.moving then g.movingMask else g.stationaryMask
  let after := if moving then g.movingMask else g.stationaryMask
  let a := a.upd fun v => { v with moving := moving }
  if promoting && before != after then promote s id a else a

/-- An update event of signal `i` (R103, R106, R115, R120), applied to the acknowledge key, the speed and then the warnings in
increasing index (log 19). -/
def warningUpdate (i : Fin 256) (e : Effective) (s : State) (a : Acc Warnings) : Acc Warnings :=
  let g := s.running.general
  let old := a.st.views.get i
  let a := a.upd fun v => { v with views := v.views.set i ⟨e, old.delivered || e.good⟩ }
  let active := s.control.mode == .active
  let edge := active && g.ackKey == i && e.asserted && old.eff.good && old.eff.value == 0
  let a := if edge then acknowledgeTop s a else a
  let a := if g.speed = i then remask active s a else a
  a.each 64 fun w a =>
    let cfg := s.running.warnings.get w
    if active && cfg.inUse && (cfg.primary == i || cfg.qualifier.any (·.signal == i)) then evaluateWarning w s a else a

/-- Entry to ACTIVE (R124). -/
def warningsActive (s : State) (a : Acc Warnings) : Acc Warnings :=
  let a := remask false s (a.upd fun v => { v with stampCounter := 0 })
  showPresent s (a.each 64 fun w a => if (s.running.warnings.get w).inUse then evaluateWarning w s a else a)

/-- A warning at a departure from ACTIVE: its notices (R125). -/
def warningEnds (s : State) (w : Fin 64) (r : WarningRun) : List Notice :=
  (clearFlag r.reported (.warning w)).2 ++
    match r.state, (s.running.warnings.get w).lamp with
    | .off, _ | .arming, _ | _, none => []
    | _, some (l, _) => [.lampWithdraw l w]

/-- Departure from ACTIVE (R125), the warnings by increasing index (DESIGN CHOICE, log 41): every warning OFF, the presentation
emptied, the buzzer request withdrawn. -/
def warningsDepart (s : State) (a : Acc Warnings) : Acc Warnings :=
  let r := tellRows a.st.recs fun w r => (WarningRun.reset, warningEnds s w r)
  let a : Acc Warnings :=
    ⟨{ a.st with recs := r.1, stack := [], waiting := [], minTimer := none, autoTimer := none, request := none },
      a.out ++ r.2⟩
  showPresent s (a.say .buzzer)

/-- The Warning Engine takes a change of mode (R124, R125). -/
def warningMode (old new : Mode) (s : State) (a : Acc Warnings) : Acc Warnings :=
  if new == .active then warningsActive s a
  else if old == .active then warningsDepart s a
  else a

/-- CLEAR FAULTS: flags reset, standing faults raised again (R112). -/
def rereportWarnings (s : State) (a : Acc Warnings) : Acc Warnings :=
  let r := tellRows a.st.recs fun w r =>
    match r.state with
    | .on | .releasing | .latched =>
      let raised := raiseFlag none (s.running.warnings.get w).fault (.warning w)
      ({ r with reported := raised.1 }, raised.2)
    | _ => ({ r with reported := none }, [])
  ⟨{ a.st with recs := r.1 }, a.out ++ r.2⟩

/-- The Warning Engine's start and each re-initialization: views set up, moving condition and mask in force evaluated from them, PRESENT
records written (R38, R103, R115, R124). -/
def reinitWarnings (s : State) (a : Acc Warnings) : Acc Warnings :=
  showPresent s (remask false s (a.upd fun v => { v with views := s.signals.map fun r => ⟨r.eff, r.eff.good⟩ }))

end Sys2Proof.Machine
end

