-- ==== Sys2Proof/Machine/Modes.lean ====
section
/-! DEFINITION. Modes: the Mode Controller: entry to a mode, re-initialization, the ends of CONFIGURING and SLEEP, the start
(R191 to R193), and the delivery of notices between blocks (0.1.3). The manual gives the blocks no order among themselves; the
model's is written here once (log 6, log 7). -/

namespace Sys2Proof.Machine

/-- The sleep timer starts anew, by the general settings at that moment (R192). -/
def State.restartSleep (s : State) : State :=
  { s with control := { s.control with sleepTimer := some (s.now + s.image.general.sleepDelay * 1000) } }

/-- Content of a MODE record (R192, Table 10-11): the mode and the active slot, the count and the indicator last handed (R149). -/
def modeContent (c : Controller) : List Byte :=
  content12 [byte c.mode.code, byte c.activeSlot.val, byte c.faultCount, flagByte c.faultOverflow]

/-- The Mode Controller writes the MODE record, at each change of what it shows (R192) and when the blocks have started (R191). -/
def State.writeMode (s : State) : State := s.runDisplay (writeKind .mode (modeContent s.control))

/-- The Mode Controller takes the count and the indicator that the Fault Unit hands it (R149, R192). -/
def State.takeCount (records : Nat) (overflow : Bool) (s : State) : State :=
  { s with control := { s.control with faultCount := records, faultOverflow := overflow } }.writeMode

/-- The Mode Controller's own part of an entry to `new` (R192): the mode and the sleep timer. -/
def State.setMode (new : Mode) (s : State) : State :=
  let s := { s with control := { s.control with mode := new, sleepTimer := none } }
  if new = .standby then s.restartSleep else s

/-- A persistence save is requested at an entry to STANDBY, and at an entry to SLEEP if the changed flag is set (R189, R192). -/
def State.savePoint (new : Mode) (s : State) : State :=
  if new = .standby ∨ (new = .sleep ∧ s.faults.changed) then s.requestOperation .save else s

/-- Every block takes the change of mode (R192, log 7). -/
def State.tellMode (old new : Mode) (s : State) : State :=
  s.runFrames (frameMode old new)
    |>.runInputs (inputMode new)
    |>.runDoors (doorMode new)
    |>.runGauges (gaugeMode old new)
    |>.runWarnings (warningMode old new)
    |>.runService (fun _ => serviceMode old new)
    |>.runLamps (lampMode new)
    |>.runOutbound (outboundMode new)
    |>.runDisplay (displayMode old new)

/-- An ignition cycle begins at each entry to ACTIVE: the wear event, then the heal pass (R144, R192). -/
def State.beginCycle (new : Mode) (s : State) : State :=
  if new = .active then s.runFaults (takeReport (.wear .ignitionCycle 0)) |>.runFaults ignitionCycle else s

/-- The part enters the mode `new` (R192). What the blocks send while they take the mode, their reports to the Fault Unit too, waits in
the mail: a save that begins here does not carry it, and at an entry to SLEEP it comes after the test of the changed flag (DESIGN
CHOICE, log 7: R155 and R189 give no order). -/
def State.enterMode (new : Mode) (s : State) : State :=
  let old := s.control.mode
  s.setMode new |>.beginCycle new |>.tellMode old new |>.savePoint new |>.writeMode

/-- The re-initialization (R193): the Display Link takes the kinds, the Signal Store follows, then each other block
(log 7). `starting` is the start after reset. -/
def State.reinit (starting : Bool) (s : State) : State :=
  let old := s.running
  { s with running := s.image }
    |>.runDisplay (takeKinds old)
    |>.runSignals (reinitSignals starting)
    |>.runFrames reinitFrames
    |>.runInputs reinitInputs
    |>.runDoors reinitDoors
    |>.runGauges (reinitGauges old)
    |>.runWarnings reinitWarnings
    |>.runLamps reinitLamps
    |>.runOutbound (fun _ => reinitOutbound)
    |>.runService reinitService

/-- The mode that the ignition decides (R191, R193). -/
def modeFor (ignition : Bool) : Mode := if ignition then .active else .standby

/-- CONFIGURING ends (R179, R193): the ignition as it stood just before the re-initialization decides the mode. The clears and raises
that the blocks send at the re-initialization wait in the mail: they are taken after the attribute check and after the heal pass of an
entry to ACTIVE that follows (DESIGN CHOICE, log 7: R144 gives no order). -/
def State.leaveConfiguration (s : State) : State :=
  let next := modeFor s.ignition
  let old := s.running
  s.reinit false |>.runFaults (reinitFaults old) |>.enterMode next

/-- A wake ends SLEEP (R192): the re-initialization, then the ignition decides. -/
def State.wake (s : State) : State :=
  if s.control.mode = .sleep then
    let old := s.running
    let s := s.reinit false |>.runFaults (reinitFaults old)
    s.enterMode (modeFor s.ignition)
  else s

/-- An update event of signal `i` at the Mode Controller (R192). -/
def State.followIgnition (i : Fin 256) (e : Effective) (s : State) : State :=
  if s.running.general.ignition = i then
    match s.control.mode with
    | .standby => if e.asserted then s.enterMode .active else s
    | .active => if e.good ∧ e.value = 0 then s.enterMode .standby else s
    | _ => s
  else s

/-! ### Notices between blocks -/

/-- One notice is taken by the blocks it is for. An update event goes to its consumers in the order written here (log 6). -/
def handle (n : Notice) (s : State) : State :=
  match n with
  | .update i e =>
    s.runDisplay (writeKind (.value i) (valueContent i e))
      |>.runDoors (doorUpdate i e)
      |>.runGauges (gaugeSignal i e)
      |>.runWarnings (warningUpdate i e)
      |>.runLamps (lampSignal i e)
      |>.runService (serviceUpdate i)
      |>.followIgnition i e
  | .write i w => s.runSignals (takeWrite i w)
  | .report r => s.runFaults (takeReport r)
  | .record k content => s.runDisplay (writeKind k content)
  | .mirror r content => s.runDisplay (writeMirror r content)
  | .faultCount records overflow => s.takeCount records overflow
  | .forward p c => s.runOutbound fun _ => joinForward p c
  | .respond p code r data => s.runOutbound fun _ => joinResponse p (segmentsOf (responseMessage code r data))
  | .lampGive l r => s.runLamps (giveLamp l r)
  | .lampWithdraw l w => s.runLamps (withdrawLamp l w)
  | .doorRequest d pattern => s.runLamps (doorLamps d pattern)
  | .buzzer => s.runLamps relight
  | .repetition number => s.runWarnings (repetitionEnd number)
  | .activity => if s.control.mode = .standby then s.restartSleep else s
  | .allClosed b => { s with control := { s.control with allClosed := b } }
  | .wake => s.wake
  | .endConfiguration => if s.control.mode = .configuring then s.leaveConfiguration else s
  | .testStart => s.runGauges gaugeTestStart |>.runLamps relight
  | .testEnd => s.runGauges gaugeTestEnd |>.runLamps relight

/-- The notices of the mail are taken first in, first out, at most `n` of them (log 6). -/
def settle : Nat → State → State
  | 0, s => s
  | n + 1, s =>
    match s.mail with
    | [] => s
    | m :: rest => settle n (handle m { s with mail := rest })

/-- The ports that are free make their picks (R160) and a transfer starts when it may (R167), after the step's notices have been
taken (log 31). -/
def State.pump (s : State) : State := s.runOutbound pickAll |>.runDisplay startTransfer

/-- The end of a step: every notice is taken, then ports and link start what they can. -/
def finish (s : State) : State := (settle Config.deliveries s).pump

/-- What an event is that can only happen when `possible` holds: its effect `f` and the end of the step, or nothing (log 32). -/
def happening (possible : Bool) (f : State → State) (s : State) : Host.Outcome State Fault Refusal :=
  if possible then .next (finish (f s)) else .next s

/-- What every timer expiry is: with the timer stopped nothing happens; otherwise the clock moves to the expiry and `f` is the
expiry's effect (log 1, log 32). -/
def expiry (timer : Option Nat) (f : State → State) (s : State) : Host.Outcome State Fault Refusal :=
  match timer with
  | some t => .next (finish (f (s.advanceTo t)))
  | none => .next s

/-! ### Reset and start (R191) -/

/-- The blocks start on the working image and the restored items, the MODE record is written, and the part leaves STARTING by the
ignition (R191): the ports in use start (R1) and every block takes the mode. What the Fault Unit hands on at its start is taken after
that, with the notices of the step (log 6). -/
def State.start (items : Persistent) (changed : Bool) (s : State) : State :=
  let s := s.reinit true |>.runFaults (startFaults items changed) |>.runFrames startPorts |>.writeMode
  s.enterMode (modeFor s.ignition)

/-- STARTING is complete: slots and copies have been read (R186, R189); the active slot's image, or slot 0's on fallback, is put
in place; if slot 0 fails too the part stays in STARTING (R191). -/
def State.leaveStarting (s : State) : State :=
  let store := s.store.verified
  let restored := store.restored
  let named := match restored with | some (c, _) => c.activeSlot | none => 0
  let items := match restored with | some (c, _) => c.items | none => Persistent.empty
  let current := match restored with | some (_, second) => second | none => true
  let s := { s with store := { store with secondIsCurrent := current } }
  match store.goodImage named, store.goodImage 0 with
  | some image, _ =>
    { s with image := image, control := { s.control with activeSlot := named, fallback := false } }.start items restored.isNone
  | none, some image =>
    let s := { s with
      image := image, control := { s.control with activeSlot := 0, fallback := true }
      store := { s.store with reportedFallback := true } }
    (s.runFaults (takeReport (.raise Config.fallbackCode .profileStore 2))).start items restored.isNone
  | none, none => s

end Sys2Proof.Machine
end

