-- ==== Sys2Proof/Machine/Tables.lean ====
section
/-! DEFINITION. Tables: the loader (R183): for each table of Table 10-8 the content of Table 10-9 read, checked in the order of the
rule that owns the table, and written into the working image. A reader answers the new image or the result of the first check
that fails; nothing is written then. -/

namespace Sys2Proof.Machine

open Reader

/-! ### Sources (R22) -/

/-- The source of a signal is set. -/
def Image.setSource (img : Image) (i : Fin 256) (w : Source) : Image :=
  { img with signals := img.signals.modify i fun c => { c with source := w } }

/-- The source check (R22): the target has no source, or already this writer. -/
def Image.free (img : Image) (target : Option (Fin 256)) (w : Source) : Bool :=
  match target with
  | some i => (img.signals.get i).source == .none || (img.signals.get i).source == w
  | none => true

/-- A load moves a writer from a former target to a new one (R22). -/
def Image.retarget (img : Image) (former target : Option (Fin 256)) (w : Source) : Image :=
  let img := match former with
    | some i => if target ≠ some i ∧ (img.signals.get i).source = w then img.setSource i .none else img
    | none => img
  match target with
  | some i => img.setSource i w
  | none => img

/-! ### Shared fields -/

/-- Identifier kinds in code order. -/
def idKinds : List IdKind := [.standard, .extended]

/-- Byte orders in code order. -/
def byteOrders : List ByteOrder := [.little, .big]

/-- Operators in code order. -/
def operators : List Operator := [.above, .below, .equal, .notEqual]

/-- A yes-or-no whose codes 0 and 1 have names. -/
def oneOf : Reader Bool := flag

/-- Breakpoints of which those beyond `count` are ignored. -/
def breakpoints (m : Nat) : Reader (List (Int × Nat)) :=
  times m do
    let x ← int 4
    let p ← nat 2
    return (x, p)

/-- A table filled from a list, with `a` where the list ends. -/
def fillTab {α : Type} (n : Nat) (a : α) (l : List α) : Tab n α :=
  (Tab.replicate n a).mapIdx fun i a => (l[i.val]?).getD a

/-! ### Loads -/

/-- FRAME (R9). -/
def loadFrame (index : Nat) (img : Image) : Reader Image := do
  let enabled ← flag
  let port ← nat 1
  let kind ← enum idKinds
  let ident ← nat 4
  let mask ← nat 4
  let minLen ← nat 1
  let timeout ← nat 1
  let forward ← nat 1
  let replacement ← opt 4
  let urgent ← flag
  let mirror ← opt 1
  let fault ← Reader.fault
  let e ← row 128 index .badIndex
  let p ← row 3 port .badValue
  check (minLen ≤ 8) .badValue
  check (identFits kind ident && identFits kind mask && (replacement.all (identFits kind))) .badValue
  check (forward < 8 && !forward.testBit port) .badValue
  let mirror ← optRow 64 mirror .badIndex
  check (severityOk fault) .badValue
  check ((img.extract.get e).list.all fun d => d.target.isNone || fits d.order d.start d.length minLen) .badValue
  let entry : FrameEntry :=
    ⟨enabled, p, kind, BitVec.ofNat 29 ident, BitVec.ofNat 29 mask, minLen, timeout, BitVec.ofNat 3 forward,
      replacement.map (BitVec.ofNat 29), urgent, mirror, fault⟩
  check (!enabled || (List.finRange 128).all fun k =>
    let other := img.frames.get k
    k == e || !(other.enabled && other.port == p && other.kind == kind && other.mask == entry.mask
      && (other.ident &&& entry.mask) == (entry.ident &&& entry.mask))) .conflict
  return { img with frames := img.frames.set e entry }

/-- EXTRACT (R11). -/
def loadExtract (index : Nat) (img : Image) : Reader Image := do
  let target ← opt 2
  let start ← nat 1
  let length ← nat 1
  let order ← enum byteOrders
  let signed ← flag
  let invalidCodes ← flag
  let gain ← int 2
  let shift ← nat 1
  let offset ← int 4
  let e ← row 128 (index / 8) .badIndex
  let slot ← row 8 (index % 8) .badIndex
  let target ← optRow 256 target .badIndex
  check (start ≤ 63 && 1 ≤ length && length ≤ 32 && shift ≤ 15) .badValue
  check (!invalidCodes || (!signed && 2 ≤ length)) .badValue
  check (fits order start length (img.frames.get e).minLen) .badValue
  check (img.free target (.frame e slot)) .conflict
  let d : Descriptor := ⟨target, start, length, order, signed, invalidCodes, gain, shift, offset⟩
  let former := ((img.extract.get e).get slot).target
  return { img with extract := img.extract.modify e fun slots => slots.set slot d }.retarget former target
    (.frame e slot)

/-- SIGNAL (R23): the signal, its constant if one is given, and the image. -/
def loadSignal (index : Nat) (img : Image) : Reader (Fin 256 × Option Int × Image) := do
  let lo ← int 4
  let hi ← int 4
  let present ← flag
  let value ← int 4
  let i ← row 256 index .badIndex
  check (lo ≤ hi) .badValue
  let source := (img.signals.get i).source
  let isConstant := match source with | .constant _ => true | _ => false
  if present then
    check (lo ≤ value && value ≤ hi) .badValue
    check (source == .none || isConstant) .conflict
  let source' : Source := if present then .constant value else if isConstant then .none else source
  return (i, if present then some value else none, { img with signals := img.signals.set i ⟨source', lo, hi⟩ })

/-- The content of a Substitution Table entry, and the checks of R40: the entry's index, the entry and the image. -/
def loadSubstitution (index : Nat) (img : Image) : Reader (Fin 16 × SubEntry × Image) := do
  let inUse ← flag
  let signal ← nat 1
  let kind ← enum [0, 1, 2]
  let alternate ← nat 1
  let value ← int 4
  let forced ← flag
  let e ← row 16 index .badIndex
  let i ← row 256 signal .badIndex
  let j ← row 256 alternate .badIndex
  if inUse then
    check (!(kind == 1 && j == i) && (forced || kind != 0)) .badValue
    check ((List.finRange 16).all fun k =>
      k == e || !((img.substitution.get k).inUse && (img.substitution.get k).signal == i)) .conflict
  let cfg := img.signals.get i
  let alt : Alternate := if kind = 0 then .none else if kind = 1 then .signal j else .constant (clamp cfg.min cfg.max value)
  let entry : SubEntry := ⟨inUse, i, alt, forced⟩
  return (e, entry, { img with substitution := img.substitution.set e entry })

/-- INPUT (R46). -/
def loadInput (index : Nat) (img : Image) : Reader Image := do
  let plain ← oneOf
  let activeHigh ← oneOf
  let count ← nat 1
  let target ← opt 2
  let wake ← flag
  let fault ← Reader.fault
  let n ← row 24 index .badIndex
  let target ← optRow 256 target .badIndex
  check (1 ≤ count && count ≤ 15 && severityOk fault) .badValue
  check (img.free target (.discrete n)) .conflict
  check (!wake || (List.finRange 24).countP (fun k => k != n && (img.discretes.get k).wake) ≤ 3) .conflict
  let former := (img.discretes.get n).target
  return { img with discretes := img.discretes.set n ⟨!plain, activeHigh, count, target, wake, fault⟩ }.retarget former
    target (.discrete n)

/-- ANALOG (R52). -/
def loadAnalog (index : Nat) (img : Image) : Reader Image := do
  let averaging ← nat 1
  let low ← nat 2
  let high ← nat 2
  let gain ← int 2
  let shift ← nat 1
  let offset ← int 4
  let target ← opt 2
  let fault ← Reader.fault
  let n ← row 8 index .badIndex
  let target ← optRow 256 target .badIndex
  check (averaging == 1 || averaging == 2 || averaging == 4 || averaging == 8) .badValue
  check (high ≤ 4095 && low ≤ high && shift ≤ 15 && severityOk fault) .badValue
  check (img.free target (.analog n)) .conflict
  let former := (img.analogs.get n).target
  return { img with analogs := img.analogs.set n ⟨averaging, low, high, gain, shift, offset, target, fault⟩ }.retarget
    former target (.analog n)

/-- DOOR (R60). -/
def loadDoor (index : Nat) (img : Image) : Reader Image := do
  let enabled ← flag
  let closed ← nat 1
  let opened ← opt 2
  let edge ← opt 2
  let handle ← opt 2
  let release ← opt 2
  let travel ← nat 1
  let slow ← nat 1
  let stateSignal ← opt 2
  let fault ← Reader.fault
  let lampMap ← times 9 (opt 1)
  let d ← row 6 index .badIndex
  let closed ← row 256 closed .badIndex
  let opened ← optRow 256 opened .badIndex
  let edge ← optRow 256 edge .badIndex
  let handle ← optRow 256 handle .badIndex
  let release ← optRow 256 release .badIndex
  let stateSignal ← optRow 256 stateSignal .badIndex
  let lampMap ← lampMap.mapM fun p => optRow 8 p .badIndex
  check (5 ≤ travel && travel ≤ 100 && slow ≤ 100 && severityOk fault) .badValue
  check (opened.isSome || release.isSome) .badValue
  let sensors := [some closed, opened, edge, handle, release].filterMap id
  check (decide sensors.Nodup && !(stateSignal.any (· ∈ sensors))) .badValue
  check (img.free stateSignal (.derived (.door d))) .conflict
  let former := (img.doors.get d).stateSignal
  let map : Tab 9 Lit := fillTab 9 none lampMap
  let cfg : DoorConfig := ⟨enabled, closed, opened, edge, handle, release, travel, slow, stateSignal, fault, map⟩
  return { img with doors := img.doors.set d cfg }.retarget former stateSignal (.derived (.door d))

/-- GAUGE (R83). -/
def loadGauge (index : Nat) (img : Image) : Reader Image := do
  let inUse ← flag
  let source ← nat 1
  let fs ← nat 2
  let count ← nat 1
  let all ← breakpoints 8
  let rest ← nat 2
  let k ← nat 1
  let slew ← nat 1
  let kind ← enum [0, 1, 2]
  let position ← nat 2
  let overrun ← nat 2
  let sweep ← flag
  let g ← row 6 index .badIndex
  let source ← row 256 source .badIndex
  let points := all.take count
  check (100 ≤ fs && fs ≤ 4095 && 2 ≤ count && count ≤ 8) .badValue
  check (increasing points && points.all (·.2 ≤ fs)) .badValue
  check (rest ≤ fs && k ≤ 7 && 1 ≤ slew) .badValue
  check (position ≤ fs && overrun ≤ 1023) .badValue
  let fallback : Fallback := if kind = 0 then .hold else if kind = 1 then .rest else .position position
  return { img with gauges := img.gauges.set g ⟨inUse, source, fs, points, rest, k, slew, fallback, overrun, sweep⟩ }

/-- WARNING (R102). -/
def loadWarning (index : Nat) (img : Image) : Reader Image := do
  let inUse ← flag
  let watch ← oneOf
  let primary ← nat 1
  let op ← enum operators
  let threshold ← int 4
  let hysteresis ← int 4
  let qualifier ← opt 2
  let qop ← enum operators
  let qthreshold ← int 4
  let level ← nat 1
  let onDelay ← nat 1
  let offDelay ← nat 1
  let latching ← flag
  let message ← nat 2
  let minimum ← nat 1
  let auto ← nat 1
  let buzzer ← opt 1
  let repetitions ← nat 1
  let lamp ← opt 1
  let lampPattern ← nat 1
  let fault ← Reader.fault
  let w ← row 64 index .badIndex
  let primary ← row 256 primary .badIndex
  let qualifier ← optRow 256 qualifier .badIndex
  let lamp ← optRow 24 lamp .badIndex
  let buzzer ← optRow 8 buzzer .badIndex
  let lampPattern ← optRow 8 (lamp.map fun _ => lampPattern) .badIndex
  check (level ≤ 7 && 0 ≤ hysteresis && minimum ≤ 100 && auto ≤ 60) .badValue
  check ((buzzer.isNone || 1 ≤ repetitions) && severityOk fault) .badValue
  let light := match lamp, lampPattern with | some l, some p => some (l, p) | _, _ => none
  let cfg : WarningConfig :=
    ⟨inUse, watch, primary, op, threshold, hysteresis, qualifier.map (⟨·, qop, qthreshold⟩), level, onDelay, offDelay,
      latching, message, minimum, auto, buzzer.map (·, repetitions), light, fault⟩
  return { img with warnings := img.warnings.set w cfg }

/-- LAMP (R126). Owner references that the owner kind does not use are stored as they stand: R126 does not say whether they match the
kind (DESIGN CHOICE, log 14). -/
def loadLamp (index : Nat) (img : Image) : Reader Image := do
  let owner ← enum [LampOwner.none, .warnings, .signal, .door]
  let signal ← opt 2
  let pattern ← opt 1
  let door ← opt 1
  let standby ← flag
  let fault ← Reader.fault
  let l ← row 24 index .badIndex
  let signal ← optRow 256 signal .badIndex
  let door ← optRow 6 door .badIndex
  let pattern ← optRow 8 pattern .badIndex
  check (owner != .signal || (signal.isSome && pattern.isSome)) .badValue
  check (owner != .door || door.isSome) .badValue
  check (severityOk fault) .badValue
  return { img with lamps := img.lamps.set l ⟨owner, signal, pattern, door, standby, fault⟩ }

/-- PATTERN (R127): PT0 cannot be changed. Index before period (DESIGN CHOICE, log 14). -/
def loadPattern (index : Nat) (img : Image) : Reader Image := do
  let period ← nat 1
  let steps ← nat 2
  let p ← row 8 index .badIndex
  check (p != 0) .badIndex
  check (1 ≤ period && period ≤ 16) .badValue
  return { img with patterns := img.patterns.set p ⟨period, BitVec.ofNat 16 steps⟩ }

/-- One slot of a TRANSMIT content as it is read: the signal's number and the slot with signal 0 in its place. -/
def readSlot : Reader (Option Nat × PackSlot) := do
  let signal ← opt 2
  let start ← nat 1
  let length ← nat 1
  let order ← enum byteOrders
  let shift ← nat 1
  let offset ← int 4
  let invalidCodes ← flag
  return (signal, ⟨0, start, length, order, shift, offset, invalidCodes⟩)

/-- TRANSMIT (R156). -/
def loadTransmit (index : Nat) (img : Image) : Reader Image := do
  let inUse ← flag
  let port ← nat 1
  let kind ← enum idKinds
  let ident ← nat 4
  let length ← nat 1
  let period ← nat 1
  let standby ← flag
  let raw ← times 8 readSlot
  let e ← row 16 index .badIndex
  let slots ← raw.mapM fun r => do
    let i ← optRow 256 r.1 .badIndex
    return i.map fun i => { r.2 with signal := i }
  let p ← row 3 port .badValue
  check (identFits kind ident && length ≤ 8 && period != 0) .badValue
  let used := slots.filterMap id
  check (used.all fun d =>
    d.start ≤ 63 && 1 ≤ d.length && d.length ≤ 32 && d.shift ≤ 15 && (!d.invalidCodes || 2 ≤ d.length)
      && fits d.order d.start d.length length) .badValue
  check (decide (used.flatMap fun d => bitsOf d.order d.start d.length).Nodup) .badValue
  let table := fillTab 8 none slots
  let entry : TransmitEntry := ⟨inUse, p, kind, BitVec.ofNat 29 ident, length, period, standby, table⟩
  return { img with transmit := img.transmit.set e entry }

/-- DISPLAY (R165). The parameter byte of a kind that has no parameter in Table 9-4 is read and dropped (DESIGN CHOICE, log 14). -/
def loadDisplay (index : Nat) (img : Image) : Reader Image := do
  let kind ← enum [0, 1, 2, 3, 4, 5, 6, 7]
  let parameter ← nat 1
  let i ← row 64 index .badIndex
  let gauge ← optRow 6 (if kind = 1 then some parameter else none) .badIndex
  let signal ← optRow 256 (if kind = 2 then some parameter else none) .badIndex
  let k : RecordKind := match gauge, signal with
    | some g, _ => .gauge g
    | _, some s => .value s
    | _, _ => ([RecordKind.none, .none, .none, .present, .doors, .lamps, .raw, .mode][kind]?).getD .none
  return { img with display := img.display.set i k }

/-- How many sources a wear event kind has (Table 8-5, section 10.8); IGNITION_CYCLE has none. -/
def WearKind.sources : WearKind → Nat
  | .doorCycle | .doorSlowClose | .doorFault | .gaugeHoming => 6
  | .inputWireFault => 32
  | .lampFault => 24
  | .portBusOff | .forwardDrop => 3
  | .frameTimeout => 128
  | .ignitionCycle => 0

/-- ATTRIBUTE (R151); BAD_INDEX before BAD_VALUE (DESIGN CHOICE, log 14). -/
def loadAttribute (index : Nat) (img : Image) : Reader Image := do
  let inUse ← flag
  let kind ← enum WearKind.all
  let source ← opt 1
  let threshold ← nat 4
  let fault ← Reader.fault
  let t ← row 16 index .badIndex
  check (kind == .ignitionCycle || source.all (decide <| · < kind.sources)) .badIndex
  check (kind != .ignitionCycle || source.isNone) .badValue
  check (severityOk fault) .badValue
  return { img with attrs := img.attrs.set t ⟨inUse, kind, source, threshold, fault⟩ }

/-- SNAPSHOT LIST (R145); BAD_INDEX before BAD_VALUE (DESIGN CHOICE, log 14). -/
def loadSnapshotList (index : Nat) (img : Image) : Reader Image := do
  let count ← nat 1
  let all ← times 16 (nat 1)
  check (index == 0) .badIndex
  let signals ← (all.take count).mapM fun i => row 256 i .badIndex
  check (count ≤ 16 && decide signals.Nodup) .badValue
  return { img with snapshotList := signals }

/-- A backlight characteristic as it is read: its count and four breakpoints. -/
def readBacklight : Reader (Nat × List (Int × Nat)) := do
  let count ← nat 1
  let all ← breakpoints 4
  return (count, all)

/-- The checks of a backlight characteristic (R127). -/
def backlightOk (b : Nat × List (Int × Nat)) : Bool :=
  decide (2 ≤ b.1) && decide (b.1 ≤ 4) && increasing (b.2.take b.1) && (b.2.take b.1).all (·.2 ≤ 1000)

/-- The settings of one port as they are read, with the identifiers' numbers. -/
def readPort : Reader (PortConfig × Nat × Nat) := do
  let inUse ← flag
  let bitRate ← enum [BitRate.k125, .k250, .k500]
  let recovery ← nat 1
  let fault ← Reader.fault
  let service ← flag
  let kind ← enum idKinds
  let request ← nat 4
  let response ← nat 4
  return (⟨inUse, bitRate, recovery, fault, service, kind, BitVec.ofNat 29 request, BitVec.ofNat 29 response⟩,
    request, response)

/-- GENERAL (R183, with R37, R45, R61, R127 and R22). These rules give their checks no order: BAD_INDEX goes before BAD_VALUE and that
before CONFLICT (DESIGN CHOICE, log 14). -/
def loadGeneral (index : Nat) (img : Image) : Reader Image := do
  let designated ← times 6 (nat 1)
  let threshold ← int 4
  let stationary ← nat 1
  let moving ← nat 1
  let allClosed ← opt 2
  let openMoving ← opt 2
  let displayFault ← opt 2
  let scan ← nat 1
  let step ← nat 1
  let bulb ← nat 2
  let tone ← nat 1
  let heal ← nat 1
  let sleep ← nat 2
  let bl0 ← readBacklight
  let bl1 ← readBacklight
  let ports ← times 3 readPort
  check (index == 0) .badIndex
  let d ← designated.mapM fun i => row 256 i .badIndex
  let allClosed ← optRow 256 allClosed .badIndex
  let openMoving ← optRow 256 openMoving .badIndex
  let displayFault ← optRow 256 displayFault .badIndex
  check (2 ≤ scan && scan ≤ 20 && 50 ≤ step && step ≤ 250 && bulb ≤ 5000 && 20 ≤ tone && tone ≤ 40) .badValue
  check (backlightOk bl0 && backlightOk bl1 && heal != 0 && 10 ≤ sleep && sleep ≤ 600) .badValue
  check (ports.all fun p =>
    10 ≤ p.1.recovery && identFits p.1.serviceKind p.2.1 && identFits p.1.serviceKind p.2.2 && severityOk p.1.fault)
    .badValue
  check (img.free allClosed (.derived .allClosed) && img.free openMoving (.derived .openMoving)
    && img.free displayFault (.derived .displayFault)) .conflict
  check (decide ([allClosed, openMoving, displayFault].filterMap id).Nodup) .conflict
  let g := img.general
  let signal := fun (k : Nat) => (d[k]?).getD 0
  let table := fillTab 3 PortConfig.blank (ports.map (·.1))
  let general : General :=
    ⟨signal 0, signal 1, signal 2, signal 3, signal 4, signal 5, threshold, BitVec.ofNat 8 stationary,
      BitVec.ofNat 8 moving, allClosed, openMoving, displayFault, scan, step, bulb, tone, heal, sleep,
      bl0.2.take bl0.1, bl1.2.take bl1.1, table⟩
  return { img with general := general }
    |>.retarget g.allClosed allClosed (.derived .allClosed)
    |>.retarget g.openMoving openMoving (.derived .openMoving)
    |>.retarget g.displayFault displayFault (.derived .displayFault)

/-- Content lengths (Table 10-9), by table code (Table 10-8). -/
def contentLength (table : Nat) : Option Nat :=
  if table = 0 then none
  else [23, 14, 13, 9, 9, 17, 26, 63, 34, 9, 3, 98, 2, 10, 17, 124][table - 1]?

end Sys2Proof.Machine
end

