-- ==== Sys2Proof/Machine/Requests.lean ====
section
/-! DEFINITION. Requests: what the Service Channel does with each command of Table 10-5 but LOAD ENTRY (R174 to R185), and the
meanings of those commands. A `serve…` is the whole execution of a request that arrived on port `p`, with the checks of R174 in
order; the meaning of the command is that execution with the end of the step. -/

namespace Sys2Proof.Machine

/-- One response is queued on port `p` (R174). -/
def State.answer (p : Port) (code : Nat) (r : Result) (data : List Byte) (s : State) : State :=
  s.send (.respond p code r data)

/-- The modes in which requests are served (R174). -/
def servingModes : List Mode := [.active, .standby, .configuring]

/-- The timed-command slot holds COMMIT PROFILE or SELECT PROFILE (R180). -/
def storeCommandRuns (s : State) : Bool :=
  match s.service.slot with
  | some (.commit, _) | some (.select, _) => true
  | _ => false

/-- The timed-command slot is IN_PROGRESS (R180). -/
def timedCommandRuns (s : State) : Bool := s.service.slot.isSome

/-- The checks of R174 in order, access evaluated before the second; `work` is the sixth check and the work itself. In a mode
that serves nothing the request is not served. -/
def State.request (p : Port) (code : Nat) (workshop : Bool) (modes : List Mode) (busy : State → Bool) (lengthOk : Bool)
    (work : State → State) (s : State) : State :=
  if s.control.mode ∈ servingModes then
    let s := s.runService evaluateAccess
    if workshop && !s.service.workshop then s.answer p code .denied []
    else if s.control.mode ∉ modes then s.answer p code .wrongMode []
    else if busy s then s.answer p code .busy []
    else if !lengthOk then s.answer p code .badValue []
    else work s
  else s

/-- Parameter `k` of a request, as a number. -/
def param (params : List Byte) (k : Nat) : Nat :=
  match params[k]? with
  | some b => b.toNat
  | none => 0

/-- A request whose one parameter is a row number below `n`; BAD_INDEX otherwise. -/
def State.withRow (p : Port) (code n : Nat) (params : List Byte) (work : Fin n → State → State) (s : State) : State :=
  match toFin? n (param params 0) with
  | some i => work i s
  | none => s.answer p code .badIndex []

/-! ### Data of the reads (Tables 10-6, 10-7) -/

/-- The identity record (Table 10-6); the revision is a free value (log 3). -/
def identityRecord (s : State) : List Byte :=
  let status := s.store.status.rows.foldl (fun n r => if r.2 then n + 2 ^ r.1.val else n) 0
  leBytes 2 Config.partCode ++ [Config.revision, byte s.control.mode.code, byte s.control.activeSlot.val, byte status,
    flagByte s.control.fallback, byte s.faults.items.records.length, flagByte s.faults.items.overflow,
    flagByte s.service.workshop, byte (match s.service.slot with | some (c, _) => c.code | none => 0)]

/-- Kind code and reference of a source (Table 10-7). -/
def sourceBytes : Source → List Byte
  | .none => 0 :: leBytes 4 0
  | .frame e slot => 1 :: leBytes 4 (8 * e.val + slot.val)
  | .discrete n => 2 :: leBytes 4 n.val
  | .analog n => 2 :: leBytes 4 (24 + n.val)
  | .derived (.door d) => 3 :: leBytes 4 d.val
  | .derived .allClosed => 3 :: leBytes 4 6
  | .derived .openMoving => 3 :: leBytes 4 7
  | .derived .displayFault => 3 :: leBytes 4 8
  | .constant v => 4 :: leSigned 4 v

/-- The signal record (R36, Table 10-7). -/
def signalRecord (s : State) (i : Fin 256) : List Byte :=
  let cfg := s.image.signals.get i
  let r := s.signals.get i
  byte i.val :: sourceBytes cfg.source ++ leSigned 4 cfg.min ++ leSigned 4 cfg.max ++ leSigned 4 r.own
    ++ [byte r.written.code, byte (ownStatus s.image i r).code, flagByte r.qual]
    ++ leSigned 4 r.eff.value ++ [byte r.eff.status.code, optByte (r.eff.reason.map (·.code)), flagByte r.eff.qual]
    ++ leSigned 4 r.held ++ [optByte ((s.image.subIndex i).map (·.val))]

/-- The time in ms until a reception timer expires (section 1.4). -/
def timeToExpiry (now : Nat) : ReceptionTimer → Nat
  | .stopped => 0
  | .running t => t - now
  | .held r => r

/-- The frame entry data (section 1.4, Table 10-7). -/
def frameEntryData (s : State) (e : Fin 128) : List Byte :=
  let r := s.frames.entries.get e
  let status : Nat := match r.status with | .waiting => 0 | .receiving => 1 | .silent => 2
  [byte e.val, byte status, flagByte r.reported.isSome] ++ leBytes 2 r.received
    ++ [byte r.lengthErrors] ++ leBytes 2 (timeToExpiry s.now r.timer)

/-- One fault record (Table 10-7). -/
def faultRecordData (r : FaultRecord) : List Byte :=
  leBytes 2 r.code ++ [byte r.source.kindCode, byte r.source.index,
      byte (r.severity + (if r.active then 0 else 4) + (if r.raisedThisCycle then 8 else 0)), byte r.occurrences]
    ++ leBytes 4 r.firstSeen ++ leBytes 4 r.lastSeen ++ [byte r.heal, optByte (r.slot.map (·.val))]

/-- The READ FAULTS data from record index `first` on: up to 3 records (R149, R176). -/
def faultsData (s : State) (first : Nat) : List Byte :=
  let p := s.faults.items
  [byte p.records.length, flagByte p.overflow, byte first] ++ ((p.records.drop first).take 3).flatMap faultRecordData

/-- One snapshot entry (Table 10-7). -/
def snapshotEntryData (x : Fin 256 × Effective) : List Byte :=
  let reason := match x.2.reason with | some st => st.code | none => 15
  byte x.1.val :: leSigned 4 x.2.value ++ [byte (x.2.status.code + 16 * reason)]

/-- The READ SNAPSHOT data: up to 6 entries from `first` on; of an empty slot only that it is empty (R149, log 15). -/
def snapshotData (s : State) (k : Fin 8) (first : Nat) : List Byte :=
  match s.faults.items.slots.get k with
  | none => [byte k.val, 0]
  | some x =>
    [byte k.val, 1] ++ leBytes 2 x.code ++ [byte x.source.kindCode, byte x.source.index] ++ leBytes 4 x.number
      ++ leBytes 4 x.time ++ [byte x.entries.length, byte first]
      ++ ((x.entries.drop first).take 6).flatMap snapshotEntryData

/-- The READ ATTRIBUTE data, with the configuration of the working image (R149, log 23). -/
def attributeData (s : State) (t : Fin 16) : List Byte :=
  let cfg := s.image.attrs.get t
  [byte t.val, flagByte cfg.inUse, byte cfg.kind.code, optByte cfg.source]
    ++ leBytes 4 (s.faults.items.attrValues.get t) ++ leBytes 4 cfg.threshold ++ faultBytes cfg.fault
    ++ [flagByte (s.faults.attrReported.get t).isSome]

/-! ### Commands served at either level (R176) -/

/-- IDENTIFY. -/
def serveIdentify (p : Port) (params : List Byte) : State → State :=
  State.request p 0x01 false servingModes (fun _ => false) (params.length == 0) fun s =>
    s.answer p 0x01 .done (identityRecord s)

/-- READ SIGNAL. -/
def serveReadSignal (p : Port) (params : List Byte) : State → State :=
  State.request p 0x02 false servingModes (fun _ => false) (params.length == 1)
    (State.withRow p 0x02 256 params fun i s => s.answer p 0x02 .done (signalRecord s i))

/-- READ FRAME ENTRY. -/
def serveReadFrameEntry (p : Port) (params : List Byte) : State → State :=
  State.request p 0x03 false servingModes (fun _ => false) (params.length == 1)
    (State.withRow p 0x03 128 params fun e s => s.answer p 0x03 .done (frameEntryData s e))

/-- READ FAULTS. -/
def serveReadFaults (p : Port) (params : List Byte) : State → State :=
  State.request p 0x04 false servingModes (fun _ => false) (params.length == 1)
    (State.withRow p 0x04 32 params fun i s => s.answer p 0x04 .done (faultsData s i.val))

/-- READ SNAPSHOT. -/
def serveReadSnapshot (p : Port) (params : List Byte) : State → State :=
  State.request p 0x05 false servingModes (fun _ => false) (params.length == 2)
    (State.withRow p 0x05 8 params fun k s =>
      if param params 1 ≤ 15 then s.answer p 0x05 .done (snapshotData s k (param params 1))
      else s.answer p 0x05 .badIndex [])

/-- READ ATTRIBUTE. -/
def serveReadAttribute (p : Port) (params : List Byte) : State → State :=
  State.request p 0x06 false servingModes (fun _ => false) (params.length == 1)
    (State.withRow p 0x06 16 params fun t s => s.answer p 0x06 .done (attributeData s t))

/-- ACKNOWLEDGE (R120): ignored outside ACTIVE, answered DONE in every serving mode. -/
def serveAcknowledge (p : Port) (params : List Byte) : State → State :=
  State.request p 0x07 false servingModes (fun _ => false) (params.length == 0) fun s =>
    let s := if s.control.mode = .active then s.runWarnings acknowledgeTop else s
    s.answer p 0x07 .done []

/-! ### Commands with workshop access (R177 to R185) -/

/-- The Fault Memory is emptied and every reporter's flags are reset; the reporters of Table 8-4 raise again (R150). The table gives
those that raise at once no order: the attributes' raises are taken first, then those of entries, ports, warnings, lamps, display
link and profile store (DESIGN CHOICE, log 38). -/
def State.clearFaults (s : State) : State :=
  s.runFaults (fun _ => emptyMemory)
    |>.runFrames rereportFrames
    |>.runInputs (fun _ => resetInputFlags)
    |>.runDoors (fun _ => resetDoorFlags)
    |>.runWarnings rereportWarnings
    |>.runLamps rereportLamps
    |>.runFaults rereportAttributes
    |>.runDisplay (fun _ => rereportDisplay)
    |>.runStore rereportStore

/-- CLEAR FAULTS. -/
def serveClearFaults (p : Port) (params : List Byte) : State → State :=
  State.request p 0x10 true servingModes (fun _ => false) (params.length == 0) fun s =>
    s.clearFaults.answer p 0x10 .done []

/-- RESET ATTRIBUTE (R153). -/
def serveResetAttribute (p : Port) (params : List Byte) : State → State :=
  State.request p 0x11 true servingModes (fun _ => false) (params.length == 1)
    (State.withRow p 0x11 16 params fun t s => (s.runFaults fun _ => resetAttr t).answer p 0x11 .done [])

/-- A Substitution Table entry is written, with the resolutions that follow (R40 to R42). -/
def State.substitute (index : Nat) (content : List Byte) (s : State) : Except Result State :=
  match (loadSubstitution index s.image).on content with
  | .error r => .error r
  | .ok (e, entry, img) =>
    let old := s.image.substitution.get e
    .ok ({ s with image := img }.runSignals (takeSubstitution old entry))

/-- SUBSTITUTE. -/
def serveSubstitute (p : Port) (params : List Byte) : State → State :=
  State.request p 0x12 true [.active, .configuring] storeCommandRuns (params.length == 10) fun s =>
    match s.substitute (param params 0) (params.drop 1) with
    | .ok s => s.answer p 0x12 .done []
    | .error r => s.answer p 0x12 r []

/-- An entry becomes not in use (R42). -/
def State.releaseEntry (e : Fin 16) (s : State) : State :=
  let old := s.image.substitution.get e
  let entry := { old with inUse := false }
  { s with image := { s.image with substitution := s.image.substitution.set e entry } }.runSignals
    (takeSubstitution old entry)

/-- RELEASE SUBSTITUTE. -/
def serveReleaseSubstitute (p : Port) (params : List Byte) : State → State :=
  State.request p 0x13 true [.active, .configuring] storeCommandRuns (params.length == 1)
    (State.withRow p 0x13 16 params fun e s => (s.releaseEntry e).answer p 0x13 .done [])

/-- BEGIN CONFIGURATION (R178). -/
def serveBeginConfiguration (p : Port) (params : List Byte) : State → State :=
  State.request p 0x20 true [.active] timedCommandRuns (params.length == 0) fun s =>
    (s.enterMode .configuring).answer p 0x20 .done []

/-- END CONFIGURATION (R179). -/
def serveEndConfiguration (p : Port) (params : List Byte) : State → State :=
  State.request p 0x21 true [.configuring] timedCommandRuns (params.length == 0) fun s =>
    s.leaveConfiguration.answer p 0x21 .done []

/-- A timed command takes the slot and is answered PENDING (R180). -/
def State.accept (c : TimedCommand) (p : Port) (s : State) : State :=
  { s with service := { s.service with slot := some (c, p) } }.answer p c.code .pending []

/-- COMMIT PROFILE (R181, R187). -/
def serveCommitProfile (p : Port) (params : List Byte) : State → State :=
  State.request p 0x23 true [.configuring] timedCommandRuns (params.length == 1)
    (State.withRow p 0x23 4 params fun n s =>
      if n = 0 then s.answer p 0x23 .badValue [] else (s.accept .commit p).requestOperation (.commit n))

/-- SELECT PROFILE (R181, R188). -/
def serveSelectProfile (p : Port) (params : List Byte) : State → State :=
  State.request p 0x24 true [.configuring] timedCommandRuns (params.length == 1)
    (State.withRow p 0x24 4 params fun n s => (s.accept .select p).requestOperation (.select n))

/-- OUTPUT TEST (R184). -/
def serveOutputTest (p : Port) (params : List Byte) : State → State :=
  State.request p 0x30 true [.active] timedCommandRuns (params.length == 1) fun s =>
    let n := param params 0
    if 1 ≤ n ∧ n ≤ 30 then
      let s := s.accept .outputTest p
      { s with service := { s.service with testTimer := some (s.now + n * 1000) } }.send .testStart
    else s.answer p 0x30 .badValue []

/-- STOP TEST (R177, R185). -/
def serveStopTest (p : Port) (params : List Byte) : State → State :=
  State.request p 0x31 true servingModes (fun _ => false) (params.length == 0) fun s =>
    (s.runService fun _ => endTest .done).answer p 0x31 .done []

/-! ### Meanings -/

def execIdentify (p : Port) (params : List Byte) (s : State) : Host.Outcome State Fault Refusal :=
  .next (finish (serveIdentify p params s))

def execReadSignal (p : Port) (params : List Byte) (s : State) : Host.Outcome State Fault Refusal :=
  .next (finish (serveReadSignal p params s))

def execReadFrameEntry (p : Port) (params : List Byte) (s : State) : Host.Outcome State Fault Refusal :=
  .next (finish (serveReadFrameEntry p params s))

def execReadFaults (p : Port) (params : List Byte) (s : State) : Host.Outcome State Fault Refusal :=
  .next (finish (serveReadFaults p params s))

def execReadSnapshot (p : Port) (params : List Byte) (s : State) : Host.Outcome State Fault Refusal :=
  .next (finish (serveReadSnapshot p params s))

def execReadAttribute (p : Port) (params : List Byte) (s : State) : Host.Outcome State Fault Refusal :=
  .next (finish (serveReadAttribute p params s))

def execAcknowledge (p : Port) (params : List Byte) (s : State) : Host.Outcome State Fault Refusal :=
  .next (finish (serveAcknowledge p params s))

def execClearFaults (p : Port) (params : List Byte) (s : State) : Host.Outcome State Fault Refusal :=
  .next (finish (serveClearFaults p params s))

def execResetAttribute (p : Port) (params : List Byte) (s : State) : Host.Outcome State Fault Refusal :=
  .next (finish (serveResetAttribute p params s))

def execSubstitute (p : Port) (params : List Byte) (s : State) : Host.Outcome State Fault Refusal :=
  .next (finish (serveSubstitute p params s))

def execReleaseSubstitute (p : Port) (params : List Byte) (s : State) : Host.Outcome State Fault Refusal :=
  .next (finish (serveReleaseSubstitute p params s))

def execBeginConfiguration (p : Port) (params : List Byte) (s : State) : Host.Outcome State Fault Refusal :=
  .next (finish (serveBeginConfiguration p params s))

def execEndConfiguration (p : Port) (params : List Byte) (s : State) : Host.Outcome State Fault Refusal :=
  .next (finish (serveEndConfiguration p params s))

def execCommitProfile (p : Port) (params : List Byte) (s : State) : Host.Outcome State Fault Refusal :=
  .next (finish (serveCommitProfile p params s))

def execSelectProfile (p : Port) (params : List Byte) (s : State) : Host.Outcome State Fault Refusal :=
  .next (finish (serveSelectProfile p params s))

def execOutputTest (p : Port) (params : List Byte) (s : State) : Host.Outcome State Fault Refusal :=
  .next (finish (serveOutputTest p params s))

def execStopTest (p : Port) (params : List Byte) (s : State) : Host.Outcome State Fault Refusal :=
  .next (finish (serveStopTest p params s))

end Sys2Proof.Machine
end

