-- ==== Sys2Proof/Machine/Loads.lean ====
section
/-! DEFINITION. Loads: LOAD ENTRY (R182, R183): the staging of parts, the loader, and the meanings of its sixteen table rows; and
the execution of a whole request message, whatever its command (R174). -/

namespace Sys2Proof.Machine

/-- The load staging record of port `p`. -/
def State.setStaging (p : Port) (g : Option Staging) (s : State) : State :=
  { s with service := { s.service with ports := s.service.ports.modify p fun q => { q with staging := g } } }

/-- The loader of every table but SIGNAL and SUBSTITUTION, by table code (Table 10-8). -/
def tableLoader (table index : Nat) (img : Image) : Reader Image :=
  match table with
  | 1 => loadFrame index img
  | 2 => loadExtract index img
  | 5 => loadInput index img
  | 6 => loadAnalog index img
  | 7 => loadDoor index img
  | 8 => loadGauge index img
  | 9 => loadWarning index img
  | 10 => loadLamp index img
  | 11 => loadPattern index img
  | 12 => loadTransmit index img
  | 13 => loadDisplay index img
  | 14 => loadAttribute index img
  | 15 => loadSnapshotList index img
  | 16 => loadGeneral index img
  | _ => throw .badValue

/-- A completed content at the loader (R183): the entry is written, or the first check that fails gives the result. -/
def State.loadEntry (table index : Nat) (content : List Byte) (s : State) : Except Result State :=
  match table with
  | 3 =>
    match (loadSignal index s.image).on content with
    | .error r => .error r
    | .ok (i, constant, img) => .ok ({ s with image := img }.runSignals (takeSignalLoad i constant))
  | 4 => s.substitute index content
  | _ =>
    match (tableLoader table index s.image).on content with
    | .error r => .error r
    | .ok img => .ok { s with image := img }

/-- The data of a LOAD ENTRY answered DONE (Table 10-5, log 15). -/
def loadData (table index held : Nat) : List Byte := byte table :: leBytes 2 index ++ [byte held]

/-- A part that has been taken: `bytes` are the content bytes now held (R182). -/
def State.takePart (p : Port) (table index number count : Nat) (bytes : List Byte) (s : State) : State :=
  if number + 1 < count then
    (s.setStaging p (some ⟨table, index, count, number + 1, bytes⟩)).answer p 0x22 .done (loadData table index (number + 1))
  else
    let s := s.setStaging p none
    if contentLength table = some bytes.length then
      match s.loadEntry table index bytes with
      | .ok s => s.answer p 0x22 .done (loadData table index count)
      | .error r => s.answer p 0x22 r []
    else s.answer p 0x22 .badValue []

/-- The content bytes held before part `number`, when the staging record of the port admits the part (R182). -/
def admits (g : Option Staging) (table index number count : Nat) : Option (List Byte) :=
  if number = 0 then some []
  else
    match g with
    | some g => if g.table = table ∧ g.index = index ∧ g.count = count ∧ g.next = number then some g.bytes else none
    | none => none

/-- One part of a LOAD ENTRY (R182). -/
def State.loadPart (p : Port) (table index part : Nat) (content : List Byte) (s : State) : State :=
  let number := part / 16
  let count := part % 16
  if contentLength table = none ∨ count = 0 ∨ 4 < count ∨ count ≤ number then s.answer p 0x22 .badValue []
  else
    match admits (s.service.ports.get p).staging table index number count with
    | some earlier => s.takePart p table index number count (earlier ++ content)
    | none => (s.setStaging p none).answer p 0x22 .badValue []

/-- LOAD ENTRY (R182). -/
def serveLoad (p : Port) (params : List Byte) : State → State :=
  State.request p 0x22 true [.configuring] storeCommandRuns (decide (4 ≤ params.length ∧ params.length ≤ 55))
    (State.loadPart p (param params 0) (leNat ((params.drop 1).take 2)) (param params 3) (params.drop 4))

/-- The parameters of a LOAD ENTRY with table code `table` (Table 10-5). -/
def loadParams (table : Nat) (index : BitVec 16) (part : Byte) (content : List Byte) : List Byte :=
  byte table :: leBytes 2 index.toNat ++ part :: content

/-- The execution of a completed request message (R174): by its command code, UNKNOWN_COMMAND outside Table 10-5. -/
def serveMessage (p : Port) (message : List Byte) (s : State) : State :=
  match message with
  | [] => s
  | code :: params =>
    match code.toNat with
    | 0x01 => serveIdentify p params s
    | 0x02 => serveReadSignal p params s
    | 0x03 => serveReadFrameEntry p params s
    | 0x04 => serveReadFaults p params s
    | 0x05 => serveReadSnapshot p params s
    | 0x06 => serveReadAttribute p params s
    | 0x07 => serveAcknowledge p params s
    | 0x10 => serveClearFaults p params s
    | 0x11 => serveResetAttribute p params s
    | 0x12 => serveSubstitute p params s
    | 0x13 => serveReleaseSubstitute p params s
    | 0x20 => serveBeginConfiguration p params s
    | 0x21 => serveEndConfiguration p params s
    | 0x22 => serveLoad p params s
    | 0x23 => serveCommitProfile p params s
    | 0x24 => serveSelectProfile p params s
    | 0x30 => serveOutputTest p params s
    | 0x31 => serveStopTest p params s
    | other =>
      if s.control.mode ∈ servingModes then (s.runService evaluateAccess).answer p other .unknownCommand [] else s

/-! ### Meanings -/

def execLoadEntryFrame (p : Port) (index : BitVec 16) (part : Byte) (content : List Byte) (s : State) :
    Host.Outcome State Fault Refusal :=
  .next (finish (serveLoad p (loadParams 1 index part content) s))

def execLoadEntryExtract (p : Port) (index : BitVec 16) (part : Byte) (content : List Byte) (s : State) :
    Host.Outcome State Fault Refusal :=
  .next (finish (serveLoad p (loadParams 2 index part content) s))

def execLoadEntrySignal (p : Port) (index : BitVec 16) (part : Byte) (content : List Byte) (s : State) :
    Host.Outcome State Fault Refusal :=
  .next (finish (serveLoad p (loadParams 3 index part content) s))

def execLoadEntrySubstitution (p : Port) (index : BitVec 16) (part : Byte) (content : List Byte) (s : State) :
    Host.Outcome State Fault Refusal :=
  .next (finish (serveLoad p (loadParams 4 index part content) s))

def execLoadEntryInput (p : Port) (index : BitVec 16) (part : Byte) (content : List Byte) (s : State) :
    Host.Outcome State Fault Refusal :=
  .next (finish (serveLoad p (loadParams 5 index part content) s))

def execLoadEntryAnalog (p : Port) (index : BitVec 16) (part : Byte) (content : List Byte) (s : State) :
    Host.Outcome State Fault Refusal :=
  .next (finish (serveLoad p (loadParams 6 index part content) s))

def execLoadEntryDoor (p : Port) (index : BitVec 16) (part : Byte) (content : List Byte) (s : State) :
    Host.Outcome State Fault Refusal :=
  .next (finish (serveLoad p (loadParams 7 index part content) s))

def execLoadEntryGauge (p : Port) (index : BitVec 16) (part : Byte) (content : List Byte) (s : State) :
    Host.Outcome State Fault Refusal :=
  .next (finish (serveLoad p (loadParams 8 index part content) s))

def execLoadEntryWarning (p : Port) (index : BitVec 16) (part : Byte) (content : List Byte) (s : State) :
    Host.Outcome State Fault Refusal :=
  .next (finish (serveLoad p (loadParams 9 index part content) s))

def execLoadEntryLamp (p : Port) (index : BitVec 16) (part : Byte) (content : List Byte) (s : State) :
    Host.Outcome State Fault Refusal :=
  .next (finish (serveLoad p (loadParams 10 index part content) s))

def execLoadEntryPattern (p : Port) (index : BitVec 16) (part : Byte) (content : List Byte) (s : State) :
    Host.Outcome State Fault Refusal :=
  .next (finish (serveLoad p (loadParams 11 index part content) s))

def execLoadEntryTransmit (p : Port) (index : BitVec 16) (part : Byte) (content : List Byte) (s : State) :
    Host.Outcome State Fault Refusal :=
  .next (finish (serveLoad p (loadParams 12 index part content) s))

def execLoadEntryDisplay (p : Port) (index : BitVec 16) (part : Byte) (content : List Byte) (s : State) :
    Host.Outcome State Fault Refusal :=
  .next (finish (serveLoad p (loadParams 13 index part content) s))

def execLoadEntryAttribute (p : Port) (index : BitVec 16) (part : Byte) (content : List Byte) (s : State) :
    Host.Outcome State Fault Refusal :=
  .next (finish (serveLoad p (loadParams 14 index part content) s))

def execLoadEntrySnapshotList (p : Port) (index : BitVec 16) (part : Byte) (content : List Byte) (s : State) :
    Host.Outcome State Fault Refusal :=
  .next (finish (serveLoad p (loadParams 15 index part content) s))

def execLoadEntryGeneral (p : Port) (index : BitVec 16) (part : Byte) (content : List Byte) (s : State) :
    Host.Outcome State Fault Refusal :=
  .next (finish (serveLoad p (loadParams 16 index part content) s))

end Sys2Proof.Machine
end

