-- ==== Sys2Proof/Machine/Bus.lean ====
section
/-! DEFINITION. Bus: the meanings of the events of the CAN ports, of the reception timers, of the Transmit Schedule and of the
reassembly buffers (R2 to R8, R18, R157, R160, R161, R163, R173). -/

namespace Sys2Proof.Machine

/-- The frame is a service request of port `p` (R8 case 4). -/
def isServiceRequest (s : State) (p : Port) (f : Frame) : Bool :=
  let cfg := s.image.general.ports.get p
  cfg.service && cfg.serviceKind == f.kind && cfg.request == f.ident

/-- A segment at the Service Channel, and the execution of the message it completes (R172 to R174). -/
def State.takeService (p : Port) (data : List Byte) (s : State) : State :=
  let r := takeSegment s.now data (s.service.ports.get p)
  let s := { s with service := { s.service with ports := s.service.ports.set p r.1 } }
  match r.2 with
  | some message => serveMessage p message s
  | none => s

/-- A received frame at the Frame Engine, sorted by R8. -/
def State.sortFrame (p : Port) (f : Frame) (s : State) : State :=
  match s.control.mode with
  | .sleep => s.send .wake
  | .starting => s
  | .configuring => if !f.remote && isServiceRequest s p f then s.takeService p f.data else s
  | .active | .standby =>
    if f.remote then s
    else if isServiceRequest s p f then s.takeService p f.data
    else s.runFrames (takeFrame p f)

/-- A frame completes on a receiving port (R2, R7, R8). -/
def State.receive (p : Port) (f : Frame) (s : State) : State :=
  s.runFrames (countReceived p) |>.send .activity |>.sortFrame p f

/-- RECEIVED_FRAME (R2). -/
def execReceivedFrame (p : Port) (f : Frame) (s : State) : Host.Outcome State Fault Refusal :=
  happening (s.frames.ports.get p).state.receives (State.receive p f) s

/-- RECEIVE_ERROR (R2). -/
def execReceiveError (p : Port) (s : State) : Host.Outcome State Fault Refusal :=
  happening (s.frames.ports.get p).state.receives (State.runFrames (countReceiveError p)) s

/-- Port `p` is sending a frame. -/
def State.sending (p : Port) (s : State) : Bool :=
  (s.frames.ports.get p).state.sends && (s.outbound.ports.get p).flight.isSome

/-- An attempt ends in a transmit error (R3); a port that it takes to BUS_OFF abandons its frame in flight (R4, R163). PORT_BUS_OFF and
the raise go before the FORWARD_DROP of an abandoned copy (DESIGN CHOICE, log 41). -/
def State.failTransmission (p : Port) (s : State) : State :=
  let s := s.runFrames (countTransmitError p)
  if (s.frames.ports.get p).state = .busOff then s.runOutbound fun _ => abandonFrame p else s

/-- TRANSMIT_ERROR (R3). -/
def execTransmitError (p : Port) (s : State) : Host.Outcome State Fault Refusal :=
  happening (s.sending p) (State.failTransmission p) s

/-- A frame completes on the wire (R3, R161). -/
def State.transmitted (p : Port) (s : State) : State :=
  s.runFrames (countTransmission p) |>.runOutbound fun _ => completeFrame p

/-- TRANSMISSION_COMPLETE (R161). -/
def execTransmissionComplete (p : Port) (s : State) : Host.Outcome State Fault Refusal :=
  happening (s.sending p) (State.transmitted p) s

/-- RECOVERY_TIMER_EXPIRY (R5). -/
def execRecoveryTimerExpiry (p : Port) (s : State) : Host.Outcome State Fault Refusal :=
  expiry (s.frames.ports.get p).recovery (State.runFrames (recoverPort p)) s

/-- The expiry time of a reception timer. -/
def ReceptionTimer.expiry : ReceptionTimer → Option Nat
  | .running t => some t
  | _ => none

/-- RECEPTION_TIMER_EXPIRY (R18). -/
def execReceptionTimerExpiry (e : Fin 128) (s : State) : Host.Outcome State Fault Refusal :=
  Machine.expiry (s.frames.entries.get e).timer.expiry (State.runFrames (silence e)) s

/-- GAP_TIMER_EXPIRY (R173). -/
def execGapTimerExpiry (p : Port) (s : State) : Host.Outcome State Fault Refusal :=
  expiry (s.service.ports.get p).gap (State.runService fun _ => gapExpires p) s

/-- PERIOD_TIMER_EXPIRY (R157). -/
def execPeriodTimerExpiry (e : Fin 16) (s : State) : Host.Outcome State Fault Refusal :=
  expiry (s.outbound.schedule.get e).timer (State.runOutbound (takePeriod e)) s

end Sys2Proof.Machine
end

