-- ==== Sys2Proof/Machine/Life.lean ====
section
/-! DEFINITION. Life: the meanings of reset, the end of STARTING, the sleep timer and the running time (R191, R192). -/

namespace Sys2Proof.Machine

/-- RESET, with the step that a running commit had reached (log 10): everything volatile takes its reset value; the store keeps what
it had written, the line READY its level, and the outside its queue and the time (R1, R17, R57, R80, R84, R124, R139, R164, R166, R171,
R186, R191). -/
def execReset (reached : StoreStep) (s : State) : Host.Outcome State Fault Refusal :=
  .next (State.resetWith (s.commitAt reached).store.afterReset s.display.ready s.pending s.now)

/-- STARTING_COMPLETE (R191). -/
def execStartingComplete (s : State) : Host.Outcome State Fault Refusal :=
  happening (s.control.mode == .starting) State.leaveStarting s

/-- The sleep delay is over (R192): SLEEP when the last all-closed summary reported is 1, else the timer starts anew. -/
def State.sleepDue (s : State) : State := if s.control.allClosed then s.enterMode .sleep else s.restartSleep

/-- SLEEP_TIMER_EXPIRY (R192). -/
def execSleepTimerExpiry (s : State) : Host.Outcome State Fault Refusal :=
  expiry s.control.sleepTimer State.sleepDue s

/-- The remainder reaches 1000 ms: it returns to 0 and the seconds count increases (R192). -/
def State.countSecond (s : State) : State :=
  let s := s.advance (1000 - s.control.remainder)
  { s with control := { s.control with remainder := s.control.remainder - 1000 } }.runFaults
    fun _ => edit fun p => { p with seconds := satSucc Config.max32 p.seconds }

/-- RUNNING_TIME_SECOND (R192). -/
def execRunningTimeSecond (s : State) : Host.Outcome State Fault Refusal :=
  happening (s.control.mode == .active) State.countSecond s

/-- A millisecond without a command: the clock moves, and a running commit goes on to its next step (log 1, log 10). -/
def State.idle (s : State) : State := (s.advance 1).commitTick

end Sys2Proof.Machine
end

