-- ==== Sys2Proof/Machine/Link.lean ====
section
/-! DEFINITION. Link: the meanings of the events of the display link (R167 to R170). -/

namespace Sys2Proof.Machine

/-- READY_ASSERTED (R167). -/
def execReadyAsserted (s : State) : Host.Outcome State Fault Refusal :=
  happening (!s.display.ready) (State.runDisplay readyOn) s

/-- READY_DEASSERTED (R170). -/
def execReadyDeasserted (s : State) : Host.Outcome State Fault Refusal :=
  happening s.display.ready (State.runDisplay readyOff) s

/-- TRANSFER_COMPLETE (R168). -/
def execTransferComplete (status : Byte) (s : State) : Host.Outcome State Fault Refusal :=
  happening s.display.flight.isSome (State.runDisplay (completeTransfer status)) s

/-- REFRESH_TIMER_EXPIRY (R169). -/
def execRefreshTimerExpiry (s : State) : Host.Outcome State Fault Refusal :=
  expiry s.display.refresh (State.runDisplay takeRefresh) s

/-- STALL_TIMER_EXPIRY (R170). -/
def execStallTimerExpiry (s : State) : Host.Outcome State Fault Refusal :=
  expiry s.display.stall (State.runDisplay takeStall) s

end Sys2Proof.Machine
end

