-- ==== Sys2Proof/Machine/Motion.lean ====
section
/-! DEFINITION. Motion: the meanings of the timers of the doors and of the gauges (R66, R71, R84, R85, R93). -/

namespace Sys2Proof.Machine

/-- TRAVEL_TIMER_EXPIRY (R71). -/
def execTravelTimerExpiry (d : Fin 6) (s : State) : Host.Outcome State Fault Refusal :=
  expiry (s.doors.doors.get d).travel (State.runDoors (doorExpiry d)) s

/-- PLAUSIBILITY_TIMER_EXPIRY (R66). -/
def execPlausibilityTimerExpiry (d : Fin 6) (s : State) : Host.Outcome State Fault Refusal :=
  expiry (s.doors.doors.get d).plausibility (State.runDoors (doorExpiry d)) s

/-- GAUGE_UPDATE (R84, R85). -/
def execGaugeUpdate (s : State) : Host.Outcome State Fault Refusal :=
  expiry s.gauges.updateTimer (State.runGauges takeGaugeUpdate) s

/-- HOMING_TIMER_EXPIRY (R93). -/
def execHomingTimerExpiry (g : Fin 6) (s : State) : Host.Outcome State Fault Refusal :=
  expiry (s.gauges.gauges.get g).homing (State.runGauges (homed g)) s

end Sys2Proof.Machine
end

