-- ==== Sys2Proof/Machine/Panel.lean ====
section
/-! DEFINITION. Panel: the meanings of the timers of the warnings and of the lamps, and of the lamp sensing (R107, R108, R120,
R121, R128, R132, R134). -/

namespace Sys2Proof.Machine

/-- The delay timer of warning `w`, when it runs in the state `st`. -/
def delayIn (st : WarningState) (w : Fin 64) (s : State) : Option Nat :=
  let r := s.warnings.recs.get w
  if r.state = st then r.delay else none

/-- ON_DELAY_EXPIRY (R107). -/
def execOnDelayExpiry (w : Fin 64) (s : State) : Host.Outcome State Fault Refusal :=
  expiry (delayIn .arming w s) (State.runWarnings (enterOn w)) s

/-- OFF_DELAY_EXPIRY (R108). -/
def execOffDelayExpiry (w : Fin 64) (s : State) : Host.Outcome State Fault Refusal :=
  expiry (delayIn .releasing w s) (State.runWarnings (release w)) s

/-- MINIMUM_TIMER_EXPIRY (R120). -/
def execMinimumTimerExpiry (s : State) : Host.Outcome State Fault Refusal :=
  expiry s.warnings.minTimer (State.runWarnings minimumReached) s

/-- AUTO_DISMISS_TIMER_EXPIRY (R121). -/
def execAutoDismissTimerExpiry (s : State) : Host.Outcome State Fault Refusal :=
  expiry s.warnings.autoTimer (State.runWarnings autoDismissed) s

/-- STEP_TIMER_EXPIRY (R128). -/
def execStepTimerExpiry (s : State) : Host.Outcome State Fault Refusal :=
  expiry s.lamps.stepTimer (State.runLamps takeStep) s

/-- BULB_CHECK_TIMER_EXPIRY (R132). -/
def execBulbCheckTimerExpiry (s : State) : Host.Outcome State Fault Refusal :=
  expiry s.lamps.bulbTimer (State.runLamps bulbCheckEnds) s

/-- LAMP_SENSING_RESULT (R134, log 20). -/
def execLampSensingResult (l : Fin 24) (r : Sensing) (s : State) : Host.Outcome State Fault Refusal :=
  happening (conducts s.lamps l) (State.runLamps (takeSensing l r)) s

end Sys2Proof.Machine
end

