-- ==== Sys2Proof/Machine/StoreEvents.lean ====
section
/-! DEFINITION. StoreEvents: the meanings of the store's completions and failures and of the end of an output test (R185 to R190). -/

namespace Sys2Proof.Machine

/-- The slot number of a completed commit or select is the running one (R187, R188), and the MODE record shows it (R192). -/
def State.activate (n : Fin 4) (s : State) : State :=
  { s with control := { s.control with activeSlot := n, fallback := false } }.writeMode

/-- A commit of slot `n` completes its step 4, the save of the items taken when it began (R187). Here as at every other end of a store
operation the next waiting one begins at once, and the report of R190 waits in the mail: a save that begins here takes its items before
that report is taken (DESIGN CHOICE, log 46: R186, R189 and R190 give no order). -/
def State.commitDone (n : Fin 4) (items : Persistent) (s : State) : State :=
  { s with store := s.store.saved items n }
    |>.activate n
    |>.runStore (fun _ a => completedWell (clearFallback a))
    |>.runService (fun _ => completeTimed .done)
    |>.beginOperation

/-- COMMIT_COMPLETE (R187): the steps before the last are done when it comes (log 10). -/
def execCommitComplete (s : State) : Host.Outcome State Fault Refusal :=
  let t := s.commitAt .save
  match t.store.operation with
  | some (.commitSave n items) => .next (finish (t.commitDone n items))
  | _ => .next s

/-- The save of a select of slot `n` completes (R188; a waiting save begins before the reports are taken, log 46): the image is put
in place, the end of configuration follows, and DONE after it. An end of configuration that was due is cancelled (R179). -/
def State.selectDone (n : Fin 4) (items : Persistent) (image : Image) (s : State) : State :=
  { s with store := s.store.saved items n, image := image, service := { s.service with endDue := false } }
    |>.activate n
    |>.runStore (fun _ a => completedWell (clearFallback a))
    |>.leaveConfiguration
    |>.runService (fun _ => completeTimed .done)
    |>.beginOperation

/-- The save of a running select completes. A select runs in CONFIGURING and on a slot with an image, or not at all (log 32). -/
def State.selectSaved (s : State) : State :=
  match s.store.operation with
  | some (.selectSave n items) =>
    match (s.store.slots.get n).image with
    | some image => if s.control.mode = .configuring then s.selectDone n items image else s
    | none => s
  | _ => s

/-- The check of slot `n` is bad, or the slot is erased (R188, R190; a waiting save begins before the report is taken, log 46). -/
def State.selectRefused (n : Fin 4) (s : State) : State :=
  { s with store := { s.store with status := s.store.status.set n false } }
    |>.runStore (fun _ => completedWell)
    |>.runService (fun _ => completeTimed .storeFailed)
    |>.beginOperation

/-- The check of slot `n` is good (R188): its flag is set and the save of the slot number begins (R189). -/
def State.selectVerified (n : Fin 4) (s : State) : State :=
  { s with
    store := { s.store.spoil with
      status := s.store.status.set n true, operation := some (.selectSave n s.faults.items) }
    faults := { s.faults with changed := false } }

/-- A select read of slot `n` completes (R188). -/
def State.selectRead (n : Fin 4) (saved : Bool) (s : State) : State :=
  let slot := s.store.slots.get n
  if slot.image.isSome && slot.checkAgrees then
    if saved then (s.selectVerified n).selectSaved else s.selectVerified n
  else s.selectRefused n

/-- SELECT_READ_COMPLETE (R188, log 11). -/
def execSelectReadComplete (saved : Bool) (s : State) : Host.Outcome State Fault Refusal :=
  match s.store.operation with
  | some (.selectRead n) => .next (finish (s.selectRead n saved))
  | _ => .next s

/-- A persistence save completes (R189; a waiting save begins before the report of R190 is taken, log 46). -/
def State.saveDone (items : Persistent) (slot : Fin 4) (s : State) : State :=
  { s with store := s.store.saved items slot }.runStore (fun _ => completedWell) |>.beginOperation

/-- PERSISTENCE_SAVE_COMPLETE (R189; the save of a select: R188). -/
def execPersistenceSaveComplete (s : State) : Host.Outcome State Fault Refusal :=
  match s.store.operation with
  | some (.save items slot) => .next (finish (s.saveDone items slot))
  | some (.selectSave _ _) => .next (finish s.selectSaved)
  | _ => .next s

/-- What a save that fails leaves (R189): the copy it was writing invalid, the changed flag set again. -/
def State.saveFailed (s : State) : State :=
  { s with store := s.store.spoil, faults := { s.faults with changed := true } }

/-- What the failed step of the running operation leaves in the store (R187 to R189). -/
def State.leftByFailure (op : StoreOperation) (s : State) : State :=
  match op with
  | .commit n _ => { s with store := s.store.broken n }
  | .commitSave _ _ | .selectSave _ _ | .save _ _ => s.saveFailed
  | .selectRead _ => s

/-- The running operation ends with a write failure (R186 to R190); a timed command ends with STORE_FAILED (R180). The raise of 0xF003
waits in the mail while the next waiting operation begins: a save that begins here takes its items without it (DESIGN CHOICE, log 46:
R186, R189 and R190 give no order). -/
def State.storeFails (op : StoreOperation) (s : State) : State :=
  let s := (s.leftByFailure op).runStore fun _ => completedBadly
  let s := match op with
    | .save _ _ => s
    | _ => s.runService fun _ => completeTimed .storeFailed
  s.beginOperation

/-- STORE_WRITE_FAILURE (R186): the step that fails is the one named, or the one the commit stands in if that is later (log 10). A
select read writes nothing before its save, so it cannot fail so (log 32). -/
def execStoreWriteFailure (failed : StoreStep) (s : State) : Host.Outcome State Fault Refusal :=
  let t := s.commitAt failed
  match t.store.operation with
  | none | some (.selectRead _) => .next s
  | some op => .next (finish (t.storeFails op))

/-- TEST_TIMER_EXPIRY (R185). -/
def execTestTimerExpiry (s : State) : Host.Outcome State Fault Refusal :=
  expiry s.service.testTimer (State.runService fun _ => endTest .done) s

end Sys2Proof.Machine
end

