-- ==== Sys2Proof/Machine/Wires.lean ====
section
/-! DEFINITION. Wires: the meanings of the scans of the Input Scanner (R45, R56). -/

namespace Sys2Proof.Machine

/-- SCAN (R45). -/
def execScan (levels : Tab 24 Nat) (samples : Tab 8 Nat) (s : State) : Host.Outcome State Fault Refusal :=
  expiry s.inputs.scanTimer (State.runInputs (takeScan levels samples)) s

/-- SLEEP_SCAN (R56). -/
def execSleepScan (levels : Tab 24 Nat) (s : State) : Host.Outcome State Fault Refusal :=
  expiry s.inputs.sleepTimer (State.runInputs (takeSleepScan levels)) s

end Sys2Proof.Machine
end

