-- ==== Sys2Proof/Machine/Dispatch.lean ====
section
/-! DEFINITION. Dispatch: one arm for each command, one direct call of its meaning. -/

namespace Sys2Proof.Machine

def exec (i : Instr) (s : State) : Host.Outcome State Fault Refusal :=
  match i with
  | .reset reached => Sys2Proof.Machine.execReset reached s
  | .startingComplete => Sys2Proof.Machine.execStartingComplete s
  | .receivedFrame p f => Sys2Proof.Machine.execReceivedFrame p f s
  | .receiveError p => Sys2Proof.Machine.execReceiveError p s
  | .transmitError p => Sys2Proof.Machine.execTransmitError p s
  | .transmissionComplete p => Sys2Proof.Machine.execTransmissionComplete p s
  | .recoveryTimerExpiry p => Sys2Proof.Machine.execRecoveryTimerExpiry p s
  | .receptionTimerExpiry e => Sys2Proof.Machine.execReceptionTimerExpiry e s
  | .gapTimerExpiry p => Sys2Proof.Machine.execGapTimerExpiry p s
  | .identify p params => Sys2Proof.Machine.execIdentify p params s
  | .readSignal p params => Sys2Proof.Machine.execReadSignal p params s
  | .readFrameEntry p params => Sys2Proof.Machine.execReadFrameEntry p params s
  | .readFaults p params => Sys2Proof.Machine.execReadFaults p params s
  | .readSnapshot p params => Sys2Proof.Machine.execReadSnapshot p params s
  | .readAttribute p params => Sys2Proof.Machine.execReadAttribute p params s
  | .acknowledge p params => Sys2Proof.Machine.execAcknowledge p params s
  | .clearFaults p params => Sys2Proof.Machine.execClearFaults p params s
  | .resetAttribute p params => Sys2Proof.Machine.execResetAttribute p params s
  | .substitute p params => Sys2Proof.Machine.execSubstitute p params s
  | .releaseSubstitute p params => Sys2Proof.Machine.execReleaseSubstitute p params s
  | .beginConfiguration p params => Sys2Proof.Machine.execBeginConfiguration p params s
  | .endConfiguration p params => Sys2Proof.Machine.execEndConfiguration p params s
  | .loadEntryFrame p index part content => Sys2Proof.Machine.execLoadEntryFrame p index part content s
  | .loadEntryExtract p index part content => Sys2Proof.Machine.execLoadEntryExtract p index part content s
  | .loadEntrySignal p index part content => Sys2Proof.Machine.execLoadEntrySignal p index part content s
  | .loadEntrySubstitution p index part content => Sys2Proof.Machine.execLoadEntrySubstitution p index part content s
  | .loadEntryInput p index part content => Sys2Proof.Machine.execLoadEntryInput p index part content s
  | .loadEntryAnalog p index part content => Sys2Proof.Machine.execLoadEntryAnalog p index part content s
  | .loadEntryDoor p index part content => Sys2Proof.Machine.execLoadEntryDoor p index part content s
  | .loadEntryGauge p index part content => Sys2Proof.Machine.execLoadEntryGauge p index part content s
  | .loadEntryWarning p index part content => Sys2Proof.Machine.execLoadEntryWarning p index part content s
  | .loadEntryLamp p index part content => Sys2Proof.Machine.execLoadEntryLamp p index part content s
  | .loadEntryPattern p index part content => Sys2Proof.Machine.execLoadEntryPattern p index part content s
  | .loadEntryTransmit p index part content => Sys2Proof.Machine.execLoadEntryTransmit p index part content s
  | .loadEntryDisplay p index part content => Sys2Proof.Machine.execLoadEntryDisplay p index part content s
  | .loadEntryAttribute p index part content => Sys2Proof.Machine.execLoadEntryAttribute p index part content s
  | .loadEntrySnapshotList p index part content => Sys2Proof.Machine.execLoadEntrySnapshotList p index part content s
  | .loadEntryGeneral p index part content => Sys2Proof.Machine.execLoadEntryGeneral p index part content s
  | .commitProfile p params => Sys2Proof.Machine.execCommitProfile p params s
  | .selectProfile p params => Sys2Proof.Machine.execSelectProfile p params s
  | .outputTest p params => Sys2Proof.Machine.execOutputTest p params s
  | .stopTest p params => Sys2Proof.Machine.execStopTest p params s
  | .testTimerExpiry => Sys2Proof.Machine.execTestTimerExpiry s
  | .commitComplete => Sys2Proof.Machine.execCommitComplete s
  | .selectReadComplete saved => Sys2Proof.Machine.execSelectReadComplete saved s
  | .persistenceSaveComplete => Sys2Proof.Machine.execPersistenceSaveComplete s
  | .storeWriteFailure failed => Sys2Proof.Machine.execStoreWriteFailure failed s
  | .sleepTimerExpiry => Sys2Proof.Machine.execSleepTimerExpiry s
  | .runningTimeSecond => Sys2Proof.Machine.execRunningTimeSecond s
  | .scan levels samples => Sys2Proof.Machine.execScan levels samples s
  | .sleepScan levels => Sys2Proof.Machine.execSleepScan levels s
  | .travelTimerExpiry d => Sys2Proof.Machine.execTravelTimerExpiry d s
  | .plausibilityTimerExpiry d => Sys2Proof.Machine.execPlausibilityTimerExpiry d s
  | .gaugeUpdate => Sys2Proof.Machine.execGaugeUpdate s
  | .homingTimerExpiry g => Sys2Proof.Machine.execHomingTimerExpiry g s
  | .onDelayExpiry w => Sys2Proof.Machine.execOnDelayExpiry w s
  | .offDelayExpiry w => Sys2Proof.Machine.execOffDelayExpiry w s
  | .minimumTimerExpiry => Sys2Proof.Machine.execMinimumTimerExpiry s
  | .autoDismissTimerExpiry => Sys2Proof.Machine.execAutoDismissTimerExpiry s
  | .stepTimerExpiry => Sys2Proof.Machine.execStepTimerExpiry s
  | .bulbCheckTimerExpiry => Sys2Proof.Machine.execBulbCheckTimerExpiry s
  | .lampSensingResult l r => Sys2Proof.Machine.execLampSensingResult l r s
  | .periodTimerExpiry e => Sys2Proof.Machine.execPeriodTimerExpiry e s
  | .readyAsserted => Sys2Proof.Machine.execReadyAsserted s
  | .readyDeasserted => Sys2Proof.Machine.execReadyDeasserted s
  | .transferComplete status => Sys2Proof.Machine.execTransferComplete status s
  | .refreshTimerExpiry => Sys2Proof.Machine.execRefreshTimerExpiry s
  | .stallTimerExpiry => Sys2Proof.Machine.execStallTimerExpiry s

end Sys2Proof.Machine
end

