-- ==== Sys2Proof/Machine/Step.lean ====
section
/-! DEFINITION. Step: one command of the queue, or one millisecond. -/

namespace Sys2Proof.Machine

/-- One step: the command at the front of the queue is run on the state with the queue's rest. On an empty queue a millisecond passes
(log 1), or the part goes on with the notices an earlier step left (log 6). -/
def step (s : State) : Host.Outcome State Fault Refusal :=
  match s.pending with
  | c :: rest => exec c { s with pending := rest }
  | [] => .next (if s.mail.isEmpty then s.idle else finish s)

/-- The state with the command that the word spells put at the front of the queue: the state unchanged, since no word spells a
command (`decodeTableWord`). -/
def State.withFetchWord (s : State) (nbits w : Nat) : State :=
  match decodeTableWord nbits w with
  | some c => { s with pending := c :: s.pending }
  | none => s

end Sys2Proof.Machine
end

