-- ==== Sys2Proof/Safety.lean ====
section
/-! DEFINITION. Safety: what the statements about every step are about: the properties of a state that no step may break, and
the words in which the statements speak of a request. -/

namespace Sys2Proof.Machine

/-! ### Properties kept by every step -/

/-- The interlock follows mode and summary (R77), and the summary is 1 only while every enabled door is CLOSED (R75). -/
def State.InterlockSafe (s : State) : Prop :=
  (s.doors.allClosed = true → ∀ d, (s.running.doors.get d).enabled = true → (s.doors.doors.get d).state = .closed)
    ∧ (s.doors.interlock = false ↔ (s.control.mode = .active ∨ s.control.mode = .standby) ∧ s.doors.allClosed = true)

/-- At most 32 fault records, no two with the same code and source, and a snapshot slot names a record exactly when that record
names the slot (section 8.2). -/
def Persistent.Sound (p : Persistent) : Prop :=
  p.records.length ≤ 32
    ∧ (p.records.map fun r => (r.code, r.source)).Nodup
    ∧ (∀ k x, p.slots.get k = some x → ∃ r ∈ p.records, r.slot = some k ∧ r.code = x.code ∧ r.source = x.source)
    ∧ (∀ r ∈ p.records, ∀ k, r.slot = some k → ∃ x, p.slots.get k = some x ∧ x.code = r.code ∧ x.source = r.source)

/-- The persistent items a running store operation carries. -/
def StoreOperation.items : StoreOperation → List Persistent
  | .commitSave _ items | .selectSave _ items | .save items _ => [items]
  | .commit _ _ | .selectRead _ => []

/-- The fault memory in use, those in the store and the one on its way to the store are sound. -/
def State.FaultsSound (s : State) : Prop :=
  s.faults.items.Sound ∧ s.store.copyA.items.Sound ∧ s.store.copyB.items.Sound
    ∧ ∀ op, s.store.operation = some op → ∀ p ∈ op.items, p.Sound

/-- At most 16 forward copies and 8 response segments on each port, the one in flight counted (R158, R159), and backlogs of at
most 15 (R157). -/
def State.QueuesBounded (s : State) : Prop :=
  (∀ p, (s.outbound.ports.get p).forward.length ≤ 16 ∧ (s.outbound.ports.get p).responseLoad ≤ 8)
    ∧ ∀ e, (s.outbound.schedule.get e).backlog ≤ 15

/-- Every display record is dirty or has current content equal to its last-sent content (R166), and a record of kind NONE has
empty contents (R165). -/
def State.RecordsSound (s : State) : Prop :=
  ∀ i, ((s.display.records.get i).dirty = true ∨ (s.display.records.get i).current = (s.display.records.get i).lastSent)
    ∧ (s.running.display.get i = .none → (s.display.records.get i).current = DisplayRecord.emptyContent
        ∧ (s.display.records.get i).lastSent = DisplayRecord.emptyContent)

/-- The stall timer runs exactly while the link is RUNNING in ACTIVE or CONFIGURING, READY is deasserted and a record is dirty (R170). -/
def State.StallFollows (s : State) : Prop :=
  s.display.stall ≠ none ↔
    s.display.link = .running ∧ (s.control.mode = .active ∨ s.control.mode = .configuring) ∧ s.display.ready = false
      ∧ ∃ i, (s.display.records.get i).dirty = true

/-- Request `a` of a lamp goes before request `b`: the lower level number, then the lower warning index (R129). -/
def LampRequest.before (a b : LampRequest) : Prop := a.level < b.level ∨ (a.level = b.level ∧ a.warning < b.warning)

/-- Every lamp's requests stand in their order, one for a warning at most (R129). -/
def State.LampRequestsOrdered (s : State) : Prop :=
  ∀ l, (s.lamps.lamps.get l).requests.Pairwise LampRequest.before
    ∧ ((s.lamps.lamps.get l).requests.map (·.warning)).Nodup

/-- Every MODE record of `t` shows its mode, its active slot and the record count and overflow indicator last handed by the Fault Unit
(R149, R192, Table 10-11), every other record the content it has in `s`, and a record whose content has changed is dirty (R166). -/
def State.ShowsMode (s t : State) : Prop :=
  ∀ i, let before := s.display.records.get i
    let now := t.display.records.get i
    now.current = (if s.running.display.get i = .mode then
        [byte t.control.mode.code, byte t.control.activeSlot.val, byte t.control.faultCount, flagByte t.control.faultOverflow]
          ++ List.replicate 8 0
      else before.current)
    ∧ (now.current ≠ before.current → now.dirty = true)

/-- `t` is `s` but for its Mode Controller and its MODE records: those whose content has changed are dirty, every other record stands,
and of the link the stall timer alone may change (R166, R170). -/
def State.OnlyModeWritten (s t : State) : Prop :=
  t = { s with control := t.control
               display := { s.display with records := t.display.records, stall := t.display.stall } }
    ∧ s.ShowsMode t
    ∧ (∀ i, (t.display.records.get i).lastSent = (s.display.records.get i).lastSent)
    ∧ ∀ i, (t.display.records.get i).current = (s.display.records.get i).current →
        t.display.records.get i = s.display.records.get i

/-- The warnings on the stack, top first, then those that wait. -/
def Warnings.listed (v : Warnings) : List (Fin 64) := v.stack.map (·.warning) ++ v.waiting

/-- Outside ACTIVE every warning is OFF and nothing is presented (R125). The stack's level numbers rise strictly from the top
down, and a warning is on the stack or waits exactly when it is presentable, and never in both (R114). -/
def State.StackSound (s : State) : Prop :=
  (s.control.mode ≠ .active → s.warnings.listed = [] ∧ ∀ w, (s.warnings.recs.get w).state = .off)
    ∧ s.warnings.stack.Pairwise (fun a b => a.level < b.level)
    ∧ s.warnings.listed.Nodup
    ∧ ∀ w, w ∈ s.warnings.listed ↔ (s.warnings.recs.get w).presentable = true

/-- The stack is sound, its levels are those of the running definitions, the Waiting List is in the order of the levels, and
every unmasked waiting warning has a level number not lower than the stack top's; none waits unmasked beside an empty stack
(R114, R117). -/
def State.PresentationSound (s : State) : Prop :=
  s.StackSound
    ∧ (∀ e ∈ s.warnings.stack, e.level = levelOf s e.warning)
    ∧ s.warnings.waiting.Pairwise (fun a b => levelOf s a ≤ levelOf s b)
    ∧ ∀ w ∈ s.warnings.waiting, masked s s.warnings (levelOf s w) = false →
        ∃ top, s.warnings.stack.head? = some top ∧ top.level ≤ levelOf s w

/-- Every signal's effective state is the one resolution gives for its own state, its entry and its held value (R31, R33; at the events
of log 16 too). -/
def State.SignalsResolved (s : State) : Prop := ∀ i, s.signals.get i = resolved s.image s.signals i

/-- No commit of slot 0 runs or waits (R181). -/
def State.FactorySafe (s : State) : Prop :=
  (∀ step, s.store.operation ≠ some (.commit 0 step)) ∧ (∀ items, s.store.operation ≠ some (.commitSave 0 items))
    ∧ .commit 0 ∉ s.store.waiting

/-- A gauge's record lies within its full scale (R89). -/
def GaugeRun.Within (fs : Nat) (r : GaugeRun) : Prop :=
  r.target ≤ fs ∧ r.demand ≤ fs ∧ r.position ≤ fs ∧ r.filter ≤ 16 * fs

/-- The gauge in SWEEP from phase UP, no sweep pending (R95). -/
def GaugeRun.sweeping (r : GaugeRun) : GaugeRun :=
  { r with state := .sweep, coils := true, phase := .up, sweepPending := false }

/-- The gauge in TRACKING, or in FALLBACK if its view is bad, with the filter state reseeded from its position (R90). -/
def GaugeRun.showing (r : GaugeRun) : GaugeRun :=
  { r with state := if r.view.status = .invalid then .fallback else .tracking, coils := true, filter := 16 * r.position }

/-- Every gauge's coils are energized exactly in the states of Table 5-3 that energize them. -/
def State.CoilsFollow (s : State) : Prop :=
  ∀ g, (s.gauges.gauges.get g).coils = true ↔
    (s.gauges.gauges.get g).state ≠ .unhomed ∧ (s.gauges.gauges.get g).state ≠ .parked

/-- A gauge configuration that the loader accepts (R83), as far as the arithmetic goes. -/
def GaugeConfig.Sound (cfg : GaugeConfig) : Prop :=
  cfg.points ≠ [] ∧ increasing cfg.points = true ∧ (∀ x ∈ cfg.points, x.2 ≤ cfg.fs) ∧ cfg.rest ≤ cfg.fs
    ∧ ∀ v, cfg.fallback = .position v → v ≤ cfg.fs

/-- Every gauge in use in an image has a configuration that the loader accepts. -/
def Image.GaugesSound (img : Image) : Prop := ∀ g, (img.gauges.get g).inUse = true → (img.gauges.get g).Sound

/-- Every gauge lies within its running full scale (R89), and the images from which a configuration can come to run, the working
image and those of the slots, hold gauges that the loader accepts, as the running configuration does (R83). -/
def State.GaugesWithin (s : State) : Prop :=
  s.image.GaugesSound ∧ s.running.GaugesSound ∧ (∀ n img, (s.store.slots.get n).image = some img → img.GaugesSound)
    ∧ ∀ g, (s.gauges.gauges.get g).Within (s.running.gauges.get g).fs

/-- No store operation runs or waits in STARTING: a reset ends the one and discards the others (R186). -/
def State.StartsIdle (s : State) : Prop :=
  s.control.mode = .starting → s.store.operation = none ∧ s.store.waiting = []

/-! ### Requests -/

/-- The state in which a request is executed: access has been evaluated at its arrival (R175). -/
def State.heard (s : State) : State := s.runService evaluateAccess

/-- A request needing workshop access passes the first four checks of R174: access, mode, and the timed-command slot. -/
def State.Admits (modes : List Mode) (s : State) : Prop :=
  s.control.mode ∈ modes ∧ accessNow s = true ∧ s.service.slot = none

/-- The records of the staging of port `p` emptied, and `img` in place of the working image: what a LOAD ENTRY in one part that
the loader accepts does before it is answered (R182). -/
def State.loaded (p : Port) (img : Image) (s : State) : State := { s.setStaging p none with image := img }

/-- Warning `w` has been acknowledged between `v` and `v'` (R109, R110): latched, it is OFF, else it is acknowledged in the state
it had; and it is no longer on the stack and does not wait. -/
def Acknowledged (w : Fin 64) (v v' : Warnings) : Prop :=
  ((v.recs.get w).state = .latched → (v'.recs.get w).state = .off)
    ∧ ((v.recs.get w).state ≠ .latched →
        (v'.recs.get w).acked = true ∧ (v'.recs.get w).state = (v.recs.get w).state)
    ∧ w ∉ v'.listed

/-- The commands that may change the working image: a reset and the end of STARTING, the loads and substitutions (also where
they come as frames), and the completion of a select. -/
def mayChangeImage : Instr → Bool
  | .reset _ | .startingComplete | .receivedFrame _ _ | .substitute _ _ | .releaseSubstitute _ _
  | .loadEntryFrame _ _ _ _ | .loadEntryExtract _ _ _ _ | .loadEntrySignal _ _ _ _ | .loadEntrySubstitution _ _ _ _
  | .loadEntryInput _ _ _ _ | .loadEntryAnalog _ _ _ _ | .loadEntryDoor _ _ _ _ | .loadEntryGauge _ _ _ _
  | .loadEntryWarning _ _ _ _ | .loadEntryLamp _ _ _ _ | .loadEntryPattern _ _ _ _ | .loadEntryTransmit _ _ _ _
  | .loadEntryDisplay _ _ _ _ | .loadEntryAttribute _ _ _ _ | .loadEntrySnapshotList _ _ _ _
  | .loadEntryGeneral _ _ _ _ | .selectReadComplete _ | .persistenceSaveComplete => true
  | _ => false

/-- The port and the message of a request row: its command code and its parameters (Tables 10-3, 10-5). -/
def requestOf : Instr → Option (Port × List Byte)
  | .identify p params => some (p, 0x01 :: params)
  | .readSignal p params => some (p, 0x02 :: params)
  | .readFrameEntry p params => some (p, 0x03 :: params)
  | .readFaults p params => some (p, 0x04 :: params)
  | .readSnapshot p params => some (p, 0x05 :: params)
  | .readAttribute p params => some (p, 0x06 :: params)
  | .acknowledge p params => some (p, 0x07 :: params)
  | .clearFaults p params => some (p, 0x10 :: params)
  | .resetAttribute p params => some (p, 0x11 :: params)
  | .substitute p params => some (p, 0x12 :: params)
  | .releaseSubstitute p params => some (p, 0x13 :: params)
  | .beginConfiguration p params => some (p, 0x20 :: params)
  | .endConfiguration p params => some (p, 0x21 :: params)
  | .commitProfile p params => some (p, 0x23 :: params)
  | .selectProfile p params => some (p, 0x24 :: params)
  | .outputTest p params => some (p, 0x30 :: params)
  | .stopTest p params => some (p, 0x31 :: params)
  | .loadEntryFrame p index part content => some (p, 0x22 :: loadParams 1 index part content)
  | .loadEntryExtract p index part content => some (p, 0x22 :: loadParams 2 index part content)
  | .loadEntrySignal p index part content => some (p, 0x22 :: loadParams 3 index part content)
  | .loadEntrySubstitution p index part content => some (p, 0x22 :: loadParams 4 index part content)
  | .loadEntryInput p index part content => some (p, 0x22 :: loadParams 5 index part content)
  | .loadEntryAnalog p index part content => some (p, 0x22 :: loadParams 6 index part content)
  | .loadEntryDoor p index part content => some (p, 0x22 :: loadParams 7 index part content)
  | .loadEntryGauge p index part content => some (p, 0x22 :: loadParams 8 index part content)
  | .loadEntryWarning p index part content => some (p, 0x22 :: loadParams 9 index part content)
  | .loadEntryLamp p index part content => some (p, 0x22 :: loadParams 10 index part content)
  | .loadEntryPattern p index part content => some (p, 0x22 :: loadParams 11 index part content)
  | .loadEntryTransmit p index part content => some (p, 0x22 :: loadParams 12 index part content)
  | .loadEntryDisplay p index part content => some (p, 0x22 :: loadParams 13 index part content)
  | .loadEntryAttribute p index part content => some (p, 0x22 :: loadParams 14 index part content)
  | .loadEntrySnapshotList p index part content => some (p, 0x22 :: loadParams 15 index part content)
  | .loadEntryGeneral p index part content => some (p, 0x22 :: loadParams 16 index part content)
  | _ => none

/-- The LOAD ENTRY row of table code `k + 1` (Table 10-8). -/
def loadCommand (k : Fin 16) (p : Port) (index : BitVec 16) (part : Byte) (content : List Byte) : Instr :=
  match k.val with
  | 0 => .loadEntryFrame p index part content
  | 1 => .loadEntryExtract p index part content
  | 2 => .loadEntrySignal p index part content
  | 3 => .loadEntrySubstitution p index part content
  | 4 => .loadEntryInput p index part content
  | 5 => .loadEntryAnalog p index part content
  | 6 => .loadEntryDoor p index part content
  | 7 => .loadEntryGauge p index part content
  | 8 => .loadEntryWarning p index part content
  | 9 => .loadEntryLamp p index part content
  | 10 => .loadEntryPattern p index part content
  | 11 => .loadEntryTransmit p index part content
  | 12 => .loadEntryDisplay p index part content
  | 13 => .loadEntryAttribute p index part content
  | 14 => .loadEntrySnapshotList p index part content
  | _ => .loadEntryGeneral p index part content

/-- The number in the `width` bytes of a content from byte `offset` on, the least significant first. -/
def fieldAt (content : List Byte) (offset width : Nat) : Nat := leNat ((content.drop offset).take width)

/-- A row of Table 10-5: command code, whether it needs workshop access, the modes that serve it, the timed commands that make
it BUSY (R177, R180, R184), and the least and the greatest number of its parameter bytes. -/
structure CommandRow where
  code : Byte
  workshop : Bool
  modes : List Mode
  busy : List TimedCommand
  least : Nat
  greatest : Nat

/-- Table 10-5. -/
def commandTable : List CommandRow :=
  [⟨0x01, false, servingModes, [], 0, 0⟩, ⟨0x02, false, servingModes, [], 1, 1⟩, ⟨0x03, false, servingModes, [], 1, 1⟩,
    ⟨0x04, false, servingModes, [], 1, 1⟩, ⟨0x05, false, servingModes, [], 2, 2⟩, ⟨0x06, false, servingModes, [], 1, 1⟩,
    ⟨0x07, false, servingModes, [], 0, 0⟩, ⟨0x10, true, servingModes, [], 0, 0⟩, ⟨0x11, true, servingModes, [], 1, 1⟩,
    ⟨0x12, true, [.active, .configuring], [.commit, .select], 10, 10⟩,
    ⟨0x13, true, [.active, .configuring], [.commit, .select], 1, 1⟩,
    ⟨0x20, true, [.active], [.commit, .select, .outputTest], 0, 0⟩,
    ⟨0x21, true, [.configuring], [.commit, .select, .outputTest], 0, 0⟩,
    ⟨0x22, true, [.configuring], [.commit, .select], 4, 55⟩,
    ⟨0x23, true, [.configuring], [.commit, .select, .outputTest], 1, 1⟩,
    ⟨0x24, true, [.configuring], [.commit, .select, .outputTest], 1, 1⟩,
    ⟨0x30, true, [.active], [.commit, .select, .outputTest], 1, 1⟩, ⟨0x31, true, servingModes, [], 0, 0⟩]

/-! ### Contents of loads, written forwards (Table 10-9, section 10.8) -/

/-- An optional field of `n` bytes. -/
def optField (n : Nat) (o : Option Nat) : List Byte := leBytes n (o.getD (256 ^ n - 1))

/-- A fault field; the code bytes of an absent one are 0 here. -/
def faultField (f : Option FaultCode) : List Byte :=
  match f with
  | some c => leBytes 2 c.code ++ leBytes 1 c.severity
  | none => [0, 0, 0xFF]

def idKindField : IdKind → List Byte | .standard => [0] | .extended => [1]

def byteOrderField : ByteOrder → List Byte | .little => [0] | .big => [1]

def frameContent (e : FrameEntry) : List Byte :=
  [flagByte e.enabled] ++ leBytes 1 e.port.val ++ idKindField e.kind ++ leBytes 4 e.ident.toNat ++ leBytes 4 e.mask.toNat
    ++ leBytes 1 e.minLen ++ leBytes 1 e.timeout ++ leBytes 1 e.forward.toNat ++ optField 4 (e.replacement.map (·.toNat))
    ++ [flagByte e.urgent] ++ optField 1 (e.mirror.map (·.val)) ++ faultField e.fault

def descriptorContent (d : Descriptor) : List Byte :=
  optField 2 (d.target.map (·.val)) ++ leBytes 1 d.start ++ leBytes 1 d.length ++ byteOrderField d.order
    ++ [flagByte d.signed, flagByte d.invalidCodes] ++ leSigned 2 d.gain ++ leBytes 1 d.shift ++ leSigned 4 d.offset

def discreteContent (c : DiscreteConfig) : List Byte :=
  [flagByte (!c.supervised), flagByte c.activeHigh] ++ leBytes 1 c.debounce ++ optField 2 (c.target.map (·.val))
    ++ [flagByte c.wake] ++ faultField c.fault

def analogContent (c : AnalogConfig) : List Byte :=
  leBytes 1 c.averaging ++ leBytes 2 c.low ++ leBytes 2 c.high ++ leSigned 2 c.gain ++ leBytes 1 c.shift
    ++ leSigned 4 c.offset ++ optField 2 (c.target.map (·.val)) ++ faultField c.fault

def patternContent (x : Pattern) : List Byte := leBytes 1 x.period ++ leBytes 2 x.steps.toNat

def attrContent (c : AttrConfig) : List Byte :=
  [flagByte c.inUse] ++ leBytes 1 c.kind.code ++ optField 1 c.source ++ leBytes 4 c.threshold ++ faultField c.fault

/-- The content of SIGNAL (R23). -/
def signalLoad (lo hi : Int) (constant : Option Int) : List Byte :=
  leSigned 4 lo ++ leSigned 4 hi ++ [flagByte constant.isSome] ++ leSigned 4 (constant.getD 0)

def substitutionLoad (e : SubEntry) : List Byte :=
  [flagByte e.inUse] ++ leBytes 1 e.signal.val
    ++ (match e.alternate with
      | .none => [0, 0] ++ leSigned 4 0
      | .signal j => [1] ++ leBytes 1 j.val ++ leSigned 4 0
      | .constant v => [2, 0] ++ leSigned 4 v)
    ++ [flagByte e.forced]

def doorLoad (c : DoorConfig) : List Byte :=
  [flagByte c.enabled] ++ leBytes 1 c.closed.val ++ optField 2 (c.opened.map (·.val)) ++ optField 2 (c.edge.map (·.val))
    ++ optField 2 (c.handle.map (·.val)) ++ optField 2 (c.release.map (·.val)) ++ leBytes 1 c.travel ++ leBytes 1 c.slow
    ++ optField 2 (c.stateSignal.map (·.val)) ++ faultField c.fault
    ++ c.lampMap.list.flatMap fun p => optField 1 (p.map (·.val))

/-- Breakpoints, with zeros for those that `m` leaves room for. -/
def pointsField (m : Nat) (points : List (Int × Nat)) : List Byte :=
  leBytes 1 points.length ++ points.flatMap (fun x => leSigned 4 x.1 ++ leBytes 2 x.2)
    ++ List.replicate (6 * (m - points.length)) 0

def fallbackField : Fallback → List Byte
  | .hold => [0, 0, 0]
  | .rest => [1, 0, 0]
  | .position v => [2] ++ leBytes 2 v

def gaugeLoad (c : GaugeConfig) : List Byte :=
  [flagByte c.inUse] ++ leBytes 1 c.source.val ++ leBytes 2 c.fs ++ pointsField 8 c.points ++ leBytes 2 c.rest
    ++ leBytes 1 c.damping ++ leBytes 1 c.slew ++ fallbackField c.fallback ++ leBytes 2 c.overrun ++ [flagByte c.sweep]

def operatorField : Operator → List Byte | .above => [0] | .below => [1] | .equal => [2] | .notEqual => [3]

def warningLoad (c : WarningConfig) : List Byte :=
  [flagByte c.inUse, flagByte c.watch] ++ leBytes 1 c.primary.val ++ operatorField c.op ++ leSigned 4 c.threshold
    ++ leSigned 4 c.hysteresis
    ++ (match c.qualifier with
      | some q => leBytes 2 q.signal.val ++ operatorField q.op ++ leSigned 4 q.threshold
      | none => [0xFF, 0xFF, 0] ++ leSigned 4 0)
    ++ leBytes 1 c.level ++ leBytes 1 c.onDelay ++ leBytes 1 c.offDelay ++ [flagByte c.latching] ++ leBytes 2 c.message
    ++ leBytes 1 c.minimum ++ leBytes 1 c.autoDismiss
    ++ (match c.buzzer with | some (p, n) => leBytes 1 p.val ++ leBytes 1 n | none => [0xFF, 0])
    ++ (match c.lamp with | some (l, p) => leBytes 1 l.val ++ leBytes 1 p.val | none => [0xFF, 0])
    ++ faultField c.fault

def ownerField : LampOwner → List Byte | .none => [0] | .warnings => [1] | .signal => [2] | .door => [3]

def lampLoad (c : LampConfig) : List Byte :=
  ownerField c.owner ++ optField 2 (c.signal.map (·.val)) ++ optField 1 (c.pattern.map (·.val))
    ++ optField 1 (c.door.map (·.val)) ++ [flagByte c.standby] ++ faultField c.fault

def slotField (slot : Option PackSlot) : List Byte :=
  match slot with
  | none => [0xFF, 0xFF, 0, 1, 0, 0] ++ leSigned 4 0 ++ [0]
  | some d => leBytes 2 d.signal.val ++ leBytes 1 d.start ++ leBytes 1 d.length ++ byteOrderField d.order
      ++ leBytes 1 d.shift ++ leSigned 4 d.offset ++ [flagByte d.invalidCodes]

def transmitLoad (e : TransmitEntry) : List Byte :=
  [flagByte e.inUse] ++ leBytes 1 e.port.val ++ idKindField e.kind ++ leBytes 4 e.ident.toNat ++ leBytes 1 e.length
    ++ leBytes 1 e.period ++ [flagByte e.standby] ++ e.slots.list.flatMap slotField

def displayLoad : RecordKind → List Byte
  | .none => [0, 0] | .gauge g => [1] ++ leBytes 1 g.val | .value i => [2] ++ leBytes 1 i.val
  | .present => [3, 0] | .doors => [4, 0] | .lamps => [5, 0] | .raw => [6, 0] | .mode => [7, 0]

def snapshotListLoad (l : List (Fin 256)) : List Byte :=
  leBytes 1 l.length ++ l.map (fun i => byte i.val) ++ List.replicate (16 - l.length) 0

def bitRateField : BitRate → List Byte | .k125 => [0] | .k250 => [1] | .k500 => [2]

def portField (c : PortConfig) : List Byte :=
  [flagByte c.inUse] ++ bitRateField c.bitRate ++ leBytes 1 c.recovery ++ faultField c.fault ++ [flagByte c.service]
    ++ idKindField c.serviceKind ++ leBytes 4 c.request.toNat ++ leBytes 4 c.response.toNat

def generalLoad (g : General) : List Byte :=
  leBytes 1 g.ignition.val ++ leBytes 1 g.speed.val ++ leBytes 1 g.brake.val ++ leBytes 1 g.serviceEnable.val
    ++ leBytes 1 g.ackKey.val ++ leBytes 1 g.dimmer.val ++ leSigned 4 g.movingThreshold ++ [g.stationaryMask, g.movingMask]
    ++ optField 2 (g.allClosed.map (·.val)) ++ optField 2 (g.openMoving.map (·.val))
    ++ optField 2 (g.displayFault.map (·.val)) ++ leBytes 1 g.scanPeriod ++ leBytes 1 g.stepInterval
    ++ leBytes 2 g.bulbCheck ++ leBytes 1 g.tone ++ leBytes 1 g.healLimit ++ leBytes 2 g.sleepDelay
    ++ pointsField 4 g.bl0 ++ pointsField 4 g.bl1 ++ g.ports.list.flatMap portField

/-- A number of signed 32 bits. -/
def int32 (v : Int) : Prop := -2147483648 ≤ v ∧ v ≤ 2147483647

/-- A characteristic whose breakpoints have their widths, rise strictly and stay within `top`. -/
def pointsOk (top : Nat) (points : List (Int × Nat)) : Prop :=
  increasing points = true ∧ ∀ x ∈ points, int32 x.1 ∧ x.2 ≤ top

/-- `r` is the result of the first check that fails, of checks with the result each gives, in their order. -/
def Refused : List (Prop × Result) → Result → Prop
  | [], _ => False
  | (holds, result) :: rest, r => (¬holds ∧ r = result) ∨ (holds ∧ Refused rest r)

/-- A fault field's numbers have their widths. -/
def faultOk (f : Option FaultCode) : Prop := ∀ c, f = some c → c.code < 65536 ∧ c.severity ≤ 3

end Sys2Proof.Machine
end

