-- ==== Sys2Proof/Certificates/Slice0/Obligations.lean ====
section
/-! DEFINITION. Obligations: the statements for the provers, in the order of the manual's chapters. A statement of a command's effect
names the state `u` that the command's own rules leave; `finish u` is that state once the notices it sent have been taken and
ports and link have started what they can. Where a statement speaks of `u.mail` it says which notices were sent. -/

open Sys2Proof Sys2Proof.Machine

/-! ### The queue and the clock -/

/-- Step runs the command at the front of the queue on the state with the queue's rest. With nothing queued and no notice left the
part idles for 1 ms of the model's clock (the model's choice, log 1): the clock, the running time's remainder in ACTIVE and the top
entry's shown time advance, and a running commit goes on to its next step (the model's choice, log 10): after the erasure the image
is written, after it the check, and with the check done the slot's status flag is set and the save begins, which takes the
persistent items, clears the changed flag and makes the copy it writes not valid. Nothing else changes. Every command ends a step by
`finish`: the notices in the mail are taken one by one, first in, first out, each with what it sends put behind the rest, 65536 in
one step at most (log 6), and then the free ports pick and a transfer starts (log 31). With notices left by an earlier step an empty
queue goes on taking them. -/
def Obligations.StepRunsFrontOrIdles : Prop :=
  (∀ (c : Instr) (rest : List Instr) (s : State), s.pending = c :: rest → step s = exec c { s with pending := rest })
    ∧ (∀ s : State, s.pending = [] → s.mail ≠ [] → step s = .next (finish s))
    ∧ (∀ s : State, finish s = (settle 65536 s).pump)
    ∧ (∀ s : State, s.pump = (s.runOutbound pickAll).runDisplay startTransfer)
    ∧ (∀ s : State, settle 0 s = s)
    ∧ (∀ (n : Nat) (s : State), s.mail = [] → settle n s = s)
    ∧ (∀ (n : Nat) (m : Notice) (rest : List Notice) (s : State), s.mail = m :: rest →
        settle (n + 1) s = settle n (handle m { s with mail := rest }))
    ∧ ∀ s : State, s.pending = [] → s.mail = [] →
        ∃ t, step s = .next t ∧ t.now = s.now + 1
          ∧ t = { s with now := t.now, control := { s.control with remainder := t.control.remainder }
                         warnings := { s.warnings with stack := t.warnings.stack }
                         store := t.store, faults := { s.faults with changed := t.faults.changed } }
          ∧ t.control.remainder = (if s.control.mode = .active then s.control.remainder + 1 else s.control.remainder)
          ∧ (∀ top below, s.warnings.stack = top :: below →
              t.warnings.stack = { top with shown := top.shown + 1 } :: below)
          ∧ (s.warnings.stack = [] → t.warnings.stack = [])
          ∧ ((∀ n k, s.store.operation ≠ some (.commit n k)) → t.store = s.store ∧ t.faults = s.faults)
          ∧ (∀ n, s.store.operation = some (.commit n .erase) →
              t.store = { s.store with operation := some (.commit n .write) } ∧ t.faults = s.faults)
          ∧ (∀ n, s.store.operation = some (.commit n .write) → t.faults = s.faults
              ∧ t.store = { s.store with
                  slots := s.store.slots.set n ⟨some s.image, false⟩, operation := some (.commit n .check) })
          ∧ ∀ n, s.store.operation = some (.commit n .check) →
              t.store.slots = s.store.slots.set n ⟨some s.image, true⟩ ∧ t.store.status = s.store.status.set n true
              ∧ t.store.operation = some (.commitSave n s.faults.items) ∧ t.store.waiting = s.store.waiting
              ∧ t.store.current = s.store.current ∧ t.store.other = { s.store.other with valid := false }
              ∧ t.faults.changed = false

/-- Every command answers a next state, whatever the state it finds, and leaves the queue of waiting commands alone. That no command
stops the part is deduced (log 30), and that RESET keeps the queue is the model's choice (log 33). -/
def Obligations.EveryCommandAnswersNext : Prop :=
  ∀ (c : Instr) (s : State), ∃ t, exec c s = .next t ∧ t.pending = s.pending

/-- The expiry of a timer that stands still, a completion or an error of what does not run, a change of READY to the level it has, a
second of running time outside ACTIVE and an end of STARTING outside STARTING change nothing (the model's choice, log 32). -/
def Obligations.ImpossibleEventsChangeNothing : Prop :=
  ∀ s : State,
    (∀ p, (s.frames.ports.get p).recovery = none → exec (.recoveryTimerExpiry p) s = .next s)
    ∧ (∀ e, (∀ t, (s.frames.entries.get e).timer ≠ .running t) → exec (.receptionTimerExpiry e) s = .next s)
    ∧ (∀ p, (s.service.ports.get p).gap = none → exec (.gapTimerExpiry p) s = .next s)
    ∧ (∀ e, (s.outbound.schedule.get e).timer = none → exec (.periodTimerExpiry e) s = .next s)
    ∧ (s.service.testTimer = none → exec .testTimerExpiry s = .next s)
    ∧ (s.control.sleepTimer = none → exec .sleepTimerExpiry s = .next s)
    ∧ (∀ d, (s.doors.doors.get d).travel = none → exec (.travelTimerExpiry d) s = .next s)
    ∧ (∀ d, (s.doors.doors.get d).plausibility = none → exec (.plausibilityTimerExpiry d) s = .next s)
    ∧ (∀ g, (s.gauges.gauges.get g).homing = none → exec (.homingTimerExpiry g) s = .next s)
    ∧ (s.warnings.minTimer = none → exec .minimumTimerExpiry s = .next s)
    ∧ (s.warnings.autoTimer = none → exec .autoDismissTimerExpiry s = .next s)
    ∧ (s.display.stall = none → exec .stallTimerExpiry s = .next s)
    ∧ (s.display.refresh = none → exec .refreshTimerExpiry s = .next s)
    ∧ (s.inputs.scanTimer = none → ∀ l a, exec (.scan l a) s = .next s)
    ∧ (s.inputs.sleepTimer = none → ∀ l, exec (.sleepScan l) s = .next s)
    ∧ (s.gauges.updateTimer = none → exec .gaugeUpdate s = .next s)
    ∧ (∀ w, (s.warnings.recs.get w).delay = none ∨ (s.warnings.recs.get w).state ≠ .arming →
        exec (.onDelayExpiry w) s = .next s)
    ∧ (∀ w, (s.warnings.recs.get w).delay = none ∨ (s.warnings.recs.get w).state ≠ .releasing →
        exec (.offDelayExpiry w) s = .next s)
    ∧ (s.lamps.stepTimer = none → exec .stepTimerExpiry s = .next s)
    ∧ (s.lamps.bulbTimer = none → exec .bulbCheckTimerExpiry s = .next s)
    ∧ (∀ p, (s.outbound.ports.get p).flight = none →
        exec (.transmitError p) s = .next s ∧ exec (.transmissionComplete p) s = .next s)
    ∧ (∀ p f, (s.frames.ports.get p).state = .offline ∨ (s.frames.ports.get p).state = .busOff →
        exec (.receivedFrame p f) s = .next s)
    ∧ (s.display.ready = true → exec .readyAsserted s = .next s)
    ∧ (s.display.ready = false → exec .readyDeasserted s = .next s)
    ∧ (s.control.mode ≠ .active → exec .runningTimeSecond s = .next s)
    ∧ (s.display.flight = none → ∀ b, exec (.transferComplete b) s = .next s)
    ∧ (s.store.operation = none → exec .commitComplete s = .next s ∧ exec .persistenceSaveComplete s = .next s
        ∧ (∀ b, exec (.selectReadComplete b) s = .next s) ∧ ∀ k, exec (.storeWriteFailure k) s = .next s)
    ∧ (s.control.mode ≠ .starting → exec .startingComplete s = .next s)

/-! ### Reset and start -/

/-- A reset takes the part to STARTING with every block at its reset values, whatever it did before (R1, R17, R57, R77, R80, R84,
R124, R139, R146, R164, R166, R171, R180, R191), and no notice left. Of the store the current copy stands, and all of it but flags
and operations when no commit runs; a commit interrupted before its save leaves its slot without a valid image, one interrupted in
its save a valid slot and the copy it was writing not valid (R186, R187); the step it had reached is the command's operand (log 10).
The manual gives no reset value of the active slot, the bit rate, the closing start, the images, the signals, the views, the
open-while-moving summary, the sweep phase, the mask in force, the access level, the end due, the status flags, the count and
indicator handed to the Mode Controller and the reported flags of display link and store: the values here are the model's (log 8),
so are the wake candidate and the wake count (log 47), and so is that the level of READY, the queue and the clock stand (log 12, log
33, log 1). -/
def Obligations.ResetLeavesResetValues : Prop :=
  ∀ (r : StoreStep) (s : State), ∃ t, exec (.reset r) s = .next t
    ∧ t.pending = s.pending ∧ t.mail = [] ∧ t.now = s.now
    ∧ t.control = ⟨.starting, 0, false, none, 0, false, 0, false⟩ ∧ t.image = Image.factory ∧ t.running = Image.factory
    ∧ (let unseen : Effective := ⟨0, .invalid, some .neverReceived, false⟩
      (∀ p, t.frames.ports.get p = ⟨.offline, 0, 0, none, none, .k125⟩)
      ∧ (∀ e, t.frames.entries.get e = ⟨.waiting, .stopped, 0, 0, none⟩)
      ∧ (∀ i, t.signals.get i = ⟨0, .neverReceived, false, unseen, 0⟩)
      ∧ (∀ n, t.inputs.discretes.get n = ⟨none, 0, none, false, none, none, none, 0, false⟩)
      ∧ (∀ n, t.inputs.analogs.get n = ⟨[], false, none, false⟩)
      ∧ t.inputs.scanTimer = none ∧ t.inputs.sleepTimer = none
      ∧ (∀ d, t.doors.doors.get d
          = ⟨.unknown, ⟨none, none, none, none, none⟩, none, none, none, false, none, none, false⟩)
      ∧ t.doors.interlock = true ∧ t.doors.allClosed = false ∧ t.doors.openMoving = false
      ∧ (∀ g, t.gauges.gauges.get g = ⟨.unhomed, unseen, 0, 0, 0, 0, .up, false, false, none, false⟩)
      ∧ t.gauges.updateTimer = none
      ∧ (∀ w, t.warnings.recs.get w = ⟨.off, false, false, none, false, none, none⟩)
      ∧ (∀ i, t.warnings.views.get i = ⟨unseen, false⟩)
      ∧ t.warnings.stack = [] ∧ t.warnings.waiting = [] ∧ t.warnings.stampCounter = 0 ∧ t.warnings.moving = false
      ∧ t.warnings.minTimer = none ∧ t.warnings.autoTimer = none
      ∧ t.warnings.request = none ∧ t.warnings.requestNumber = 0
      ∧ (∀ l, t.lamps.lamps.get l = ⟨[], none, unseen, none, false, false, false, none⟩)
      ∧ t.lamps.step = 0 ∧ t.lamps.stepTimer = none ∧ t.lamps.bulbTimer = none
      ∧ t.lamps.duty0 = 0 ∧ t.lamps.duty1 = 0 ∧ t.lamps.buzzer = none ∧ t.lamps.buzzerTone = none)
    ∧ (t.faults.items.records = [] ∧ (∀ k, t.faults.items.slots.get k = none) ∧ t.faults.items.captures = 0
      ∧ t.faults.items.overflow = false ∧ (∀ a, t.faults.items.attrValues.get a = 0) ∧ t.faults.items.seconds = 0
      ∧ t.faults.changed = false ∧ t.faults.started = false ∧ t.faults.held = []
      ∧ (∀ a, t.faults.attrReported.get a = none)
      ∧ (∀ p, t.outbound.ports.get p = ⟨[], [], none, .none, false⟩)
      ∧ (∀ e, t.outbound.schedule.get e = ⟨0, none⟩)
      ∧ (∀ i, t.display.records.get i = ⟨List.replicate 12 0, List.replicate 12 0, false⟩)
      ∧ t.display.link = .running ∧ t.display.refresh = none ∧ t.display.stall = none ∧ t.display.flight = none
      ∧ t.display.ready = s.display.ready ∧ t.display.reported = false
      ∧ (∀ p, t.service.ports.get p = ⟨none, none, none⟩)
      ∧ t.service.workshop = false ∧ t.service.slot = none ∧ t.service.testTimer = none ∧ t.service.endDue = false)
    ∧ t.store.operation = none ∧ t.store.waiting = [] ∧ (∀ n, t.store.status.get n = false)
    ∧ t.store.failure = false ∧ t.store.reportedFallback = false ∧ t.store.reportedFailure = false
    ∧ t.store.current = s.store.current ∧ t.store.secondIsCurrent = s.store.secondIsCurrent
    ∧ ((∀ n k, s.store.operation ≠ some (.commit n k)) →
        t.store.slots = s.store.slots ∧ t.store.copyA = s.store.copyA ∧ t.store.copyB = s.store.copyB)
    ∧ ∀ n k, s.store.operation = some (.commit n k) →
        (∀ m, m ≠ n → t.store.slots.get m = s.store.slots.get m)
        ∧ (r ≠ .save → (t.store.slots.get n).checkAgrees = false ∧ t.store.other = s.store.other)
        ∧ (r = .save → t.store.slots.get n = ⟨some s.image, true⟩
            ∧ t.store.other = { s.store.other with valid := false })

/-- STARTING ends (R186, R189, R191): with a good image in the slot that the restored copy names (slot 0 with neither copy valid)
that image is put in place; else slot 0's image, with the fallback flag set, the reported flag of 0xF001 set, and its raise of
severity 2 held at the Fault Unit, behind what it held, for the unit's start (R146, R190). The Mode Controller is handed a restored
record count or overflow indicator (R149). The blocks then start on the image and the restored items, and the ignition as the
freshly resolved signals give it decides between ACTIVE and STANDBY. Each port in use goes to ERROR_ACTIVE at its bit rate with both
counters 0 (R1). With slot 0 bad as well the part stays in STARTING with its status flags and its current copy decided; that nothing
else changes then, no fallback flag and no raise or reported flag of 0xF001 among it, is deduced (log 26). Which copy is restored at
equal save numbers, and which is current with neither valid, is the model's choice (log 25). -/
def Obligations.StartingPutsImageInPlace : Prop :=
  ∀ s : State, s.control.mode = .starting → s.StartsIdle →
    let good := fun n : Fin 4 => (s.store.slots.get n).image.isSome && (s.store.slots.get n).checkAgrees
    let named : Fin 4 := match s.store.restored with | some (c, _) => c.activeSlot | none => 0
    let items : Persistent := match s.store.restored with | some (c, _) => c.items | none => Persistent.empty
    let second : Bool := match s.store.restored with | some (_, second) => second | none => true
    ∃ u, exec .startingComplete s = .next (finish u)
      ∧ (∀ n, u.store.status.get n = good n)
      ∧ (∀ slot image, slot = (if good named then named else 0) → good slot = true →
          (s.store.slots.get slot).image = some image →
            u.image = image ∧ u.running = image ∧ u.control.activeSlot = slot ∧ u.control.fallback = !good named
            ∧ u.control.mode = (if u.ignition then .active else .standby)
            ∧ (∀ p, u.frames.ports.get p =
                if (image.general.ports.get p).inUse then
                  { s.frames.ports.get p with
                    state := .errorActive, transmitErrors := 0, receiveErrors := 0
                    bitRate := (image.general.ports.get p).bitRate }
                else s.frames.ports.get p)
            ∧ u.store.slots = s.store.slots ∧ u.store.reportedFallback = (s.store.reportedFallback || !good named)
            ∧ u.store.reportedFailure = s.store.reportedFailure
            ∧ (items.records.length ≠ 0 ∨ items.overflow = true → s.faults = FaultUnit.reset →
                .faultCount items.records.length items.overflow ∈ u.mail)
            ∧ ∃ v : State, u = v.start items s.store.restored.isNone
                ∧ v = { s with
                    image := image, control := { s.control with activeSlot := slot, fallback := !good named }
                    store := { s.store with
                      status := u.store.status, secondIsCurrent := second
                      reportedFallback := u.store.reportedFallback }
                    faults := v.faults, mail := v.mail }
                ∧ (good named = true → v.faults = s.faults ∧ v.mail = s.mail)
                ∧ (good named = false → s.faults.started = false → v.mail = s.mail
                    ∧ v.faults = { s.faults with held := s.faults.held ++ [.raise 0xF001 .profileStore 2] }))
      ∧ (good named = false → good 0 = false →
          u = { s with store := { s.store with status := u.store.status, secondIsCurrent := second } })

/-! ### The receive side -/

/-- Every received frame is reported as frame activity before anything else is done with it, and in STANDBY that report restarts the
sleep delay; in no other mode does it change anything (R7). A source's write takes value, status and qualifier as written, a bare
value cut to the signal's limits (R24), and only where own value, own status or qualifier has changed the signal and every signal
whose entry in use names it as alternate are resolved (R33), with one update event for each whose effective state has changed and no
other (R34). An update event gives its effective state to every consumer that names the signal: the VALUE records, the views of
doors, which are then evaluated, of gauges, of warnings and of lamps, the access level where the signal decides it, and the Mode
Controller last (the order is the model's, log 6). -/
def Obligations.FrameActivityReported : Prop :=
  (∀ (p : Port) (f : Frame) (s : State), (s.frames.ports.get p).state.receives = true →
      exec (.receivedFrame p f) s
        = .next (finish (((s.runFrames (countReceived p)).send .activity).sortFrame p f)))
    ∧ (∀ s : State, (s.control.mode = .standby →
          handle .activity s
            = { s with control := { s.control with
                  sleepTimer := some (s.now + s.image.general.sleepDelay * 1000) } })
        ∧ (s.control.mode ≠ .standby → handle .activity s = s))
    ∧ (∀ (i : Fin 256) (w : SignalWrite) (s : State),
        let cfg := s.image.signals.get i
        let r := s.signals.get i
        let now : SignalRun := match w with
          | .converted v qual => { r with own := v, written := .valid, qual := qual }
          | .bare v =>
            { r with own := clamp cfg.min cfg.max v, written := .valid, qual := decide (clamp cfg.min cfg.max v ≠ v) }
          | .status st => { r with written := st }
        let changed := now.own ≠ r.own ∨ now.qual ≠ r.qual ∨ ownStatus s.image i now ≠ ownStatus s.image i r
        let t := s.signals.set i now
        let named := fun k : Fin 256 => k = i ∨ ∃ m, (s.image.substitution.get m).inUse = true
          ∧ (s.image.substitution.get m).alternate = .signal i ∧ (s.image.substitution.get m).signal = k
        let u := handle (.write i w) s
        (¬changed → u = { s with signals := t })
        ∧ (changed → u = { s with signals := u.signals, mail := u.mail }
            ∧ (∀ k, named k → u.signals.get k = resolved s.image t k) ∧ (∀ k, ¬named k → u.signals.get k = t.get k)
            ∧ ∃ events, u.mail = s.mail ++ events ∧ events.Nodup
              ∧ ∀ n, n ∈ events ↔ ∃ k, named k ∧ (u.signals.get k).eff ≠ (s.signals.get k).eff
                  ∧ n = .update k (u.signals.get k).eff))
    ∧ ∀ (i : Fin 256) (e : Effective) (s : State), ∃ v : State, handle (.update i e) s = v.followIgnition i e
        ∧ v = { s with
            display := v.display, doors := v.doors, gauges := v.gauges, warnings := v.warnings, lamps := v.lamps
            service := v.service, mail := v.mail }
        ∧ (∀ k, (v.display.records.get k).current = if s.running.display.get k = .value i then
              leSigned 4 e.value ++ [byte e.status.code, optByte (e.reason.map (·.code)), flagByte e.qual, byte i.val]
                ++ List.replicate 4 0
            else (s.display.records.get k).current)
        ∧ (∀ d, let cfg := s.running.doors.get d
            let r := s.doors.doors.get d
            let view : View := if e.status = .invalid then .invalid else if e.value = 0 then .notAsserted else .asserted
            let views : Views :=
              ⟨if cfg.closed = i then some view else r.views.closed, if cfg.opened = some i then some view else r.views.opened,
                if cfg.edge = some i then some view else r.views.edge, if cfg.handle = some i then some view else r.views.handle,
                if cfg.release = some i then some view else r.views.release⟩
            v.doors.doors.get d = if cfg.enabled = true ∧ (cfg.closed = i ∨ cfg.opened = some i ∨ cfg.edge = some i
                ∨ cfg.handle = some i ∨ cfg.release = some i) then
              (evaluateDoor s.image d cfg s.now { r with views := views }).1 else r)
        ∧ (∀ g, let cfg := s.running.gauges.get g
            (v.gauges.gauges.get g).view
              = if cfg.inUse = true ∧ cfg.source = i then e else (s.gauges.gauges.get g).view)
        ∧ (∀ k, v.warnings.views.get k = if k = i then
              ⟨e, (s.warnings.views.get i).delivered || decide (e.status ≠ .invalid)⟩ else s.warnings.views.get k)
        ∧ (∀ l, let cfg := s.running.lamps.get l
            (v.lamps.lamps.get l).view
              = if cfg.owner = .signal ∧ cfg.signal = some i then e else (s.lamps.lamps.get l).view)
        ∧ v.service.workshop = if s.running.general.serviceEnable = i ∨ s.running.general.brake = i
            ∨ s.running.general.speed = i then accessNow s else s.service.workshop

/-- R8, R172, R173: a received frame is a wake frame in SLEEP; else a remote frame is discarded; else a frame on the port's service
request identifier, with the service enabled, goes to the Service Channel as a segment; else it is discarded in CONFIGURING and
matched against the Frame Table in ACTIVE and STANDBY. A segment that completes a message has that message served, with the port's
buffer EMPTY and its gap timer stopped; any other segment changes the port's buffer and gap timer alone: the timer then runs for 200
ms where the buffer is assembling, and is stopped where it is EMPTY. A frame without a byte is no segment and changes nothing. -/
def Obligations.ReceivedFrameSorted : Prop :=
  (∀ (p : Port) (f : Frame) (s : State), (s.frames.ports.get p).state.receives = true →
    ∃ u, exec (.receivedFrame p f) s = .next (finish u)
      ∧ let v := (s.runFrames (countReceived p)).send .activity
        let cfg := s.image.general.ports.get p
        let service := cfg.service = true ∧ cfg.serviceKind = f.kind ∧ cfg.request = f.ident
        (s.control.mode = .sleep → u = v.send .wake)
        ∧ (s.control.mode ≠ .sleep → f.remote = true → u = v)
        ∧ (s.control.mode ∈ servingModes → f.remote = false → service → u = v.takeService p f.data)
        ∧ (s.control.mode = .configuring → ¬service → u = v)
        ∧ (s.control.mode = .active ∨ s.control.mode = .standby → f.remote = false → ¬service →
            u = v.runFrames (takeFrame p f)))
    ∧ ∀ (p : Port) (data : List Byte) (s : State),
        let q := s.service.ports.get p
        let r := takeSegment s.now data q
        let holding := fun q' : ServicePort => { s with service := { s.service with ports := s.service.ports.set p q' } }
        (data = [] → s.takeService p data = s)
        ∧ (∀ m, r.2 = some m →
            s.takeService p data = serveMessage p m (holding { q with assembly := none, gap := none }))
        ∧ (r.2 = none → data ≠ [] →
            s.takeService p data = holding { q with assembly := r.1.assembly, gap := r.1.gap }
            ∧ r.1.gap = (if r.1.assembly = none then none else some (s.now + 200)))

/-- R10 and R12 to R17: the matching entry is the lowest-numbered enabled entry of the port and the identifier kind that agrees with
the frame's identifier wherever its mask is 1. At that entry a short frame counts a length error, leaves status, timer, received
count and reports alone, and sends its forward copies alone. A sufficient one counts, makes the entry RECEIVING and restarts its
timer, and sends in this order: the clear of a SILENT entry's report, the write of each descriptor slot that has a target, the
forward copies, and the mirror when the mirror record is RAW. A copy goes to each port of the forward set that is not OFFLINE, with
the replacement identifier if there is one. Every other entry and every port stays as it was. That the slots go by number, and the
copies by port, is the model's choice (log 41). -/
def Obligations.MatchedFrameTaken : Prop :=
  (∀ (img : Image) (p : Port) (f : Frame) (e : Fin 128), matching img p f = some e ↔
      (img.frames.get e).takes p f = true ∧ ∀ k, k < e → (img.frames.get k).takes p f = false)
    ∧ (∀ (cfg : FrameEntry) (p : Port) (f : Frame), cfg.takes p f = true ↔
        cfg.enabled = true ∧ cfg.port = p ∧ cfg.kind = f.kind
          ∧ ∀ b, b < 29 → cfg.mask.getLsbD b = true → f.ident.getLsbD b = cfg.ident.getLsbD b)
    ∧ ∀ (p : Port) (f : Frame) (s : State) (e : Fin 128), matching s.image p f = some e →
        let u := s.runFrames (takeFrame p f)
        let cfg := s.image.frames.get e
        let before := s.frames.entries.get e
        let after := u.frames.entries.get e
        let copies := (List.finRange 3).filterMap fun q =>
          if cfg.forward.getLsbD q.val = true ∧ (s.frames.ports.get q).state ≠ .offline then
            some (Notice.forward q ⟨⟨f.kind, cfg.replacement.getD f.ident, f.data⟩, cfg.urgent, e⟩)
          else none
        let cleared : List Notice := match before.status, before.reported with
          | .silent, some code => [.report (.clear code (.entry e))]
          | _, _ => []
        let writes := (s.image.extract.get e).list.filterMap fun d =>
          d.target.map fun i => Notice.write i (convert d (s.image.signals.get i) f.data)
        let mirror : List Notice := match cfg.mirror with
          | some r => if s.running.display.get r = .raw then
              [.mirror r (byte f.data.length :: f.data ++ List.replicate (11 - f.data.length) 0)] else []
          | none => []
        u = { s with frames := u.frames, mail := u.mail }
        ∧ u.frames.ports = s.frames.ports ∧ (∀ k, k ≠ e → u.frames.entries.get k = s.frames.entries.get k)
        ∧ (f.data.length < cfg.minLen → u.mail = s.mail ++ copies
            ∧ (before.lengthErrors ≤ 255 → after = { before with lengthErrors := min 255 (before.lengthErrors + 1) }))
        ∧ (cfg.minLen ≤ f.data.length → u.mail = s.mail ++ (cleared ++ writes ++ copies ++ mirror)
            ∧ (before.received ≤ 65535 →
              after.status = .receiving ∧ after.received = min 65535 (before.received + 1)
              ∧ after.lengthErrors = before.lengthErrors
              ∧ after.timer = (if cfg.timeout = 0 then .stopped else .running (s.now + cfg.timeout * 10))
              ∧ after.reported = (if before.status = .silent then none else before.reported)))

/-- R2: a receive error raises the receive error counter of a port that takes part in the bus, saturating at 255, and a received
frame lowers it by 1, not below 0; its error state is evaluated again. In LISTEN neither changes anything. A receive error on a port
that does not receive cannot happen and changes nothing (the model's choice, log 32). -/
def Obligations.ReceiveErrorCounted : Prop :=
  ∀ (p : Port) (s : State),
    let r := s.frames.ports.get p
    let counted := fun n : Nat => { s with frames := { s.frames with
      ports := s.frames.ports.set p { r with
        receiveErrors := n
        state := if 128 ≤ r.transmitErrors ∨ 128 ≤ n then .errorPassive else .errorActive } } }
    (r.state = .errorActive ∨ r.state = .errorPassive → r.transmitErrors ≤ 255 → r.receiveErrors ≤ 255 →
        exec (.receiveError p) s = .next (finish (counted (min 255 (r.receiveErrors + 1))))
        ∧ s.runFrames (countReceived p) = counted (r.receiveErrors - 1))
      ∧ (r.state = .listen → exec (.receiveError p) s = .next (finish s) ∧ s.runFrames (countReceived p) = s)
      ∧ (r.state = .offline ∨ r.state = .busOff → exec (.receiveError p) s = .next s)

/-- R3, R4, R163: a transmit error adds 8 to the transmit error counter; up to 255 the port stays on the bus with its frame in
flight kept and sends nothing; above 255 it enters BUS_OFF, keeps its receive error counter, starts its recovery timer, sends
PORT_BUS_OFF, raises its bus-off fault and sets the reported flag where it has a code and no report, and abandons the frame: an own
frame or a forward copy is gone (a copy with FORWARD_DROP), a response segment goes back to the head of its queue. That the counter
stands at 256 then is the model's reading (log 17), and that PORT_BUS_OFF and the raise go before FORWARD_DROP its choice (log 41). -/
def Obligations.TransmitErrorCounted : Prop :=
  ∀ (p : Port) (s : State) (fl : Flight),
    let r := s.frames.ports.get p
    let q := s.outbound.ports.get p
    (r.state = .errorActive ∨ r.state = .errorPassive) → q.flight = some fl →
    ∃ u, exec (.transmitError p) s = .next (finish u)
      ∧ u = { s with frames := u.frames, outbound := u.outbound, mail := u.mail }
      ∧ (∀ o, o ≠ p → u.frames.ports.get o = s.frames.ports.get o ∧ u.outbound.ports.get o = s.outbound.ports.get o)
      ∧ u.frames.entries = s.frames.entries ∧ u.outbound.schedule = s.outbound.schedule
      ∧ (r.transmitErrors + 8 ≤ 255 →
          u.outbound.ports.get p = q ∧ u.mail = s.mail
          ∧ u.frames.ports.get p = { r with
              transmitErrors := r.transmitErrors + 8
              state := if 128 ≤ r.transmitErrors + 8 ∨ 128 ≤ r.receiveErrors then .errorPassive else .errorActive })
      ∧ (255 < r.transmitErrors + 8 →
          let raised : Option Nat × List Notice := match r.reported, (s.image.general.ports.get p).fault with
            | none, some c => (some c.code, [.report (.raise c.code (.port p) c.severity)])
            | known, _ => (known, [])
          let sent := s.mail ++ .report (.wear .portBusOff p.val) :: raised.2
          u.frames.ports.get p = { r with
            state := .busOff, transmitErrors := 256, reported := raised.1
            recovery := some (s.now + (s.image.general.ports.get p).recovery * 10) }
          ∧ (∀ seg, fl.kind = .response seg →
              u.outbound.ports.get p = { q with flight := none, response := seg :: q.response } ∧ u.mail = sent)
          ∧ (∀ e owed, fl.kind = .own e owed → u.outbound.ports.get p = { q with flight := none } ∧ u.mail = sent)
          ∧ (∀ c, fl.kind = .forward c →
              u.outbound.ports.get p = { q with flight := none }
              ∧ u.mail = sent ++ [.report (.wear .forwardDrop p.val)]))

/-- R3, R161: a completed transmission takes 1 from the transmit error counter, leaves no frame in flight and, for an own frame,
takes 1 from its entry's backlog. An own frame built before a re-initialization takes nothing from it (section 9.6, R164): the mark
on the frame in flight that tells the two apart is the model's (log 29). -/
def Obligations.TransmissionCompletes : Prop :=
  ∀ (p : Port) (s : State) (fl : Flight),
    let r := s.frames.ports.get p
    let q := s.outbound.ports.get p
    (r.state = .errorActive ∨ r.state = .errorPassive) → q.flight = some fl → r.transmitErrors ≤ 256 →
    ∃ u, exec (.transmissionComplete p) s = .next (finish u)
      ∧ u.frames = { s.frames with ports := s.frames.ports.set p { r with
          transmitErrors := r.transmitErrors - 1
          state := if 128 ≤ r.transmitErrors - 1 ∨ 128 ≤ r.receiveErrors then .errorPassive else .errorActive } }
      ∧ u.outbound.ports = s.outbound.ports.set p { q with flight := none }
      ∧ (∀ e, fl.kind = .own e true → u.outbound.schedule = s.outbound.schedule.set e
            { s.outbound.schedule.get e with backlog := (s.outbound.schedule.get e).backlog - 1 })
      ∧ ((∀ e, fl.kind ≠ .own e true) → u.outbound.schedule = s.outbound.schedule)
      ∧ u = { s with frames := u.frames, outbound := u.outbound }

/-- The timers of the bus expire: the recovery timer returns the port with both counters 0, to LISTEN in SLEEP and to ERROR_ACTIVE
else, its fault reported cleared (R5); the reception timer makes its entry SILENT, its targets TIMEOUT, and sends FRAME_TIMEOUT and
the raise (R18, R20); the gap timer empties its buffer (R173); the period timer adds 1 to the backlog, 15 at most, and starts again
(R157). Nothing else of the part changes but the clock, before the notices are taken. That the targets become TIMEOUT in slot order
is the model's choice (log 41). -/
def Obligations.BusTimersExpire : Prop :=
  ∀ (s : State) (t : Nat),
    let v := s.advanceTo t
    (∀ p, (s.frames.ports.get p).recovery = some t →
      let r := s.frames.ports.get p
      let back : PortRun := { r with
        state := if s.control.mode = .sleep then .listen else .errorActive
        transmitErrors := 0, receiveErrors := 0, recovery := none, reported := none }
      exec (.recoveryTimerExpiry p) s = .next (finish { v with
        frames := { s.frames with ports := s.frames.ports.set p back }
        mail := s.mail ++ (match r.reported with | some c => [.report (.clear c (.port p))] | none => []) }))
    ∧ (∀ e, (s.frames.entries.get e).timer = .running t →
      let r := s.frames.entries.get e
      let targets := (s.image.extract.get e).list.filterMap (·.target)
      let raised : Option Nat × List Notice := match r.reported, (s.image.frames.get e).fault with
        | none, some c => (some c.code, [.report (.raise c.code (.entry e) c.severity)])
        | known, _ => (known, [])
      let silent : EntryRun := { r with status := .silent, timer := .stopped, reported := raised.1 }
      exec (.receptionTimerExpiry e) s = .next (finish { v with
        frames := { s.frames with entries := s.frames.entries.set e silent }
        mail := s.mail ++ (targets.map (fun i => Notice.write i (.status .timeout))
          ++ .report (.wear .frameTimeout e.val) :: raised.2) }))
    ∧ (∀ p, (s.service.ports.get p).gap = some t →
      exec (.gapTimerExpiry p) s = .next (finish { v with
        service := { s.service with
          ports := s.service.ports.set p { s.service.ports.get p with assembly := none, gap := none } } }))
    ∧ (∀ e, (s.outbound.schedule.get e).timer = some t → (s.outbound.schedule.get e).backlog ≤ 15 →
      exec (.periodTimerExpiry e) s = .next (finish { v with
        outbound := { s.outbound with
          schedule := s.outbound.schedule.set e ⟨min 15 ((s.outbound.schedule.get e).backlog + 1),
            some (v.now + (s.running.transmit.get e).period * 10)⟩ } }))

/-! ### Sending -/

/-- Section 9.3 with R158, R159, R174: a free port picks by Table 9-2. A waiting response segment goes first, last pick and catch-up
flag unchanged. Else `e` is the running entry of the port with the highest backlog `u`, ties to the lowest index; the catch-up flag
falls at 7 or less; and the head of the Forward Queue is chosen at 0 to 3, at 4 to 7 after an own frame, and at 8 to 11 when it is
urgent and the flag is clear; `e` is chosen otherwise, with the flag set at 12 and above while a copy waits (the table's own words;
the reading of the empty queue is log 34). Nothing to send, nothing picked. A forward copy handed to a port joins the tail of its
Forward Queue of fewer than 16; at 16 the queue stands and the copy is dropped with its wear event FORWARD_DROP. An answer is handed
to its port as the message of its command code, its result code and, with DONE, its data, cut into segments of at most 7 message
bytes, which join the tail of the Response Queue in their order when, with the segments queued and one in flight, there are 8 at
most; else the answer is discarded whole. Nothing else of the part changes. -/
def Obligations.PickFollowsTable : Prop :=
  (∀ (s : State) (p : Port),
      s.pump.outbound.ports.get p =
        (if (s.frames.ports.get p).state.sends && (s.outbound.ports.get p).flight.isNone then
          pickFrame p s s.outbound.schedule (s.outbound.ports.get p)
        else s.outbound.ports.get p))
    ∧ (∀ (p : Port) (s : State) (schedule : Tab 16 TransmitRun),
        let runs := fun e : Fin 16 =>
          (s.running.transmit.get e).port = p ∧ entryRuns s (s.running.transmit.get e) = true
        (mostOwed p s schedule = none ↔ ∀ e, ¬runs e)
          ∧ ∀ e n, mostOwed p s schedule = some (e, n) →
              runs e ∧ n = (schedule.get e).backlog
                ∧ ∀ k, runs k → (schedule.get k).backlog ≤ n ∧ (k < e → (schedule.get k).backlog < n))
    ∧ (∀ (p : Port) (s : State) (schedule : Tab 16 TransmitRun) (q : OutPort),
        let port := s.image.general.ports.get p
        let u := match mostOwed p s schedule with | some (_, n) => n | none => 0
        let caught := q.catchUp && decide (7 < u)
        let q' := pickFrame p s schedule q
        (∀ seg rest, q.response = seg :: rest →
            q' = { q with response := rest
                          flight := some ⟨.response seg, ⟨port.serviceKind, port.response, seg⟩⟩ })
        ∧ (q.response = [] → q.forward = [] → u = 0 → q' = q)
        ∧ (∀ c rest, q.response = [] → q.forward = c :: rest →
            let copy := { q with
              forward := rest, catchUp := caught, lastPick := .forward, flight := some ⟨.forward c, c.frame⟩ }
            (u ≤ 3 → q' = copy)
            ∧ (4 ≤ u → u ≤ 7 → q.lastPick = .own → q' = copy)
            ∧ (8 ≤ u → u ≤ 11 → c.urgent = true → q.catchUp = false → q' = copy))
        ∧ (∀ e n, mostOwed p s schedule = some (e, n) → q.response = [] →
            let cfg := s.running.transmit.get e
            let own := fun flag : Bool => { q with
              catchUp := flag, lastPick := .own
              flight := some ⟨.own e true, ⟨cfg.kind, cfg.ident, packFrame s.eff cfg⟩⟩ }
            (q.forward = [] → 0 < n → q' = own caught)
            ∧ (∀ c rest, q.forward = c :: rest →
                (4 ≤ n → n ≤ 7 → q.lastPick ≠ .own → q' = own caught)
                ∧ (8 ≤ n → n ≤ 11 → c.urgent = false ∨ q.catchUp = true → q' = own caught)
                ∧ (12 ≤ n → q' = own true))))
    ∧ ∀ (p : Port) (s : State),
        let q := s.outbound.ports.get p
        let queued := fun q' : OutPort => { s with outbound := { s.outbound with ports := s.outbound.ports.set p q' } }
        (∀ c : ForwardCopy,
          (q.forward.length < 16 → handle (.forward p c) s = queued { q with forward := q.forward ++ [c] })
          ∧ (16 ≤ q.forward.length →
              handle (.forward p c) s = { s with mail := s.mail ++ [.report (.wear .forwardDrop p.val)] }))
        ∧ ∀ (code : Nat) (r : Result) (data : List Byte),
          let message := [byte code, byte r.code] ++ (if r = .done then data else [])
          let segments := segmentsOf message
          let held := q.response.length + (match q.flight with | some ⟨.response _, _⟩ => 1 | _ => 0)
          s.answer p code r data = { s with mail := s.mail ++ [.respond p code r data] }
          ∧ (held + segments.length ≤ 8 →
              handle (.respond p code r data) s = queued { q with response := q.response ++ segments })
          ∧ (8 < held + segments.length → handle (.respond p code r data) s = s)
          ∧ segments.length = (message.length + 6) / 7
          ∧ ∀ i, i < segments.length →
              segments[i]? = some (byte (16 * i + segments.length) :: (message.drop (7 * i)).take 7)

/-! ### Messages and requests -/

/-- Section 10.1: a message of 1 to 56 bytes goes into 1 to 8 segments of at most 8 bytes each, and the segments taken in their
order complete exactly that message with the last of them and none before, whatever the buffer held; then the buffer is EMPTY and
its gap timer stopped. A segment whose header has a count of 0 or above 8, or a number not below its count, or that is not the next
of its message, leaves the buffer EMPTY and completes nothing. -/
def Obligations.SegmentsReassemble : Prop :=
  (∀ (now : Nat) (q : ServicePort) (message : List Byte), 1 ≤ message.length → message.length ≤ 56 →
      let segments := segmentsOf message
      let fed := fun n : Nat => (segments.take n).foldl (fun q d => (takeSegment now d q).1) q
      1 ≤ segments.length ∧ segments.length ≤ 8 ∧ (∀ d ∈ segments, 2 ≤ d.length ∧ d.length ≤ 8)
      ∧ (∀ n d, segments[n]? = some d →
          (takeSegment now d (fed n)).2 = (if n + 1 = segments.length then some message else none))
      ∧ (fed segments.length).assembly = none ∧ (fed segments.length).gap = none)
    ∧ ∀ (now : Nat) (q : ServicePort) (header : Byte) (bytes : List Byte),
        let number := header.toNat / 16
        let count := header.toNat % 16
        (count = 0 ∨ 8 < count ∨ count ≤ number
          ∨ (number ≠ 0 ∧ ∀ a, q.assembly = some a → a.next ≠ number ∨ a.count ≠ count)) →
        takeSegment now (header :: bytes) q = ({ q with assembly := none, gap := none }, none)

/-- A row of the table of commands that is a request does what its message does, whichever way the request came: that such a row is
the completed message on its port is the model's choice (log 13). Command code and parameters decide (Table 10-5). A message whose
code Table 10-5 does not list is answered UNKNOWN_COMMAND in a serving mode. -/
def Obligations.RequestIsItsMessage : Prop :=
  (∀ (i : Instr) (p : Port) (m : List Byte) (s : State), requestOf i = some (p, m) →
      exec i s = .next (finish (serveMessage p m s)))
    ∧ ∀ (p : Port) (code : Byte) (params : List Byte) (s : State), code ∉ commandTable.map (·.code) →
        s.control.mode ∈ servingModes →
        serveMessage p (code :: params) s = s.heard.answer p code.toNat .unknownCommand []

/-- R174: the checks run in order and the first that fails answers: DENIED without the access that Table 10-5 asks for, access being
evaluated first; WRONG_MODE outside the command's modes; BUSY while a timed command that bars it is in progress; BAD_VALUE for a
wrong number of parameter bytes. In STARTING and SLEEP no request is served. -/
def Obligations.RequestChecksInOrder : Prop :=
  ∀ (p : Port) (row : CommandRow) (params : List Byte) (s : State), row ∈ commandTable →
    let m := row.code :: params
    let code := row.code.toNat
    let busy := ∃ c q, s.service.slot = some (c, q) ∧ c ∈ row.busy
    let accessOk := row.workshop = true → accessNow s = true
    (s.control.mode ∉ servingModes → serveMessage p m s = s)
    ∧ (s.control.mode ∈ servingModes → ¬accessOk → serveMessage p m s = s.heard.answer p code .denied [])
    ∧ (s.control.mode ∈ servingModes → accessOk → s.control.mode ∉ row.modes →
        serveMessage p m s = s.heard.answer p code .wrongMode [])
    ∧ (s.control.mode ∈ row.modes → accessOk → busy → serveMessage p m s = s.heard.answer p code .busy [])
    ∧ (s.control.mode ∈ row.modes → accessOk → ¬busy → params.length < row.least ∨ row.greatest < params.length →
        serveMessage p m s = s.heard.answer p code .badValue [])

/-- R149, R176, R192: in every serving mode each read is answered DONE with the data of Tables 10-6 and 10-7 as the state is at that
moment (the revision byte of the identity record and the code bytes of an absent fault code are free values, log 3 and log 4; that
an empty snapshot slot answers only that it is empty, and that an attribute shows the working image's configuration, are the model's
choices, log 15 and log 23); an index outside the table is BAD_INDEX. Each field stands at its bytes in its code, a number too great
for its bytes by its low bytes. Every change of the persistent items that changes the record count or the overflow indicator hands
both to the Mode Controller, in any state of the Fault Unit, and the Mode Controller takes them as handed and writes them in every
MODE record: a record is dirty for it only if its content changes, and nothing else of the part changes but the stall timer. -/
def Obligations.ReadsAnswered : Prop :=
  ∀ (p : Port) (s : State), s.control.mode ∈ servingModes →
    let h := s.heard
    exec (.identify p []) s = .next (finish (h.answer p 0x01 .done (identityRecord h)))
    ∧ (∀ i : Fin 256, exec (.readSignal p [byte i.val]) s = .next (finish (h.answer p 0x02 .done (signalRecord h i))))
    ∧ (∀ e : Fin 128, exec (.readFrameEntry p [byte e.val]) s = .next (finish (h.answer p 0x03 .done (frameEntryData h e))))
    ∧ (∀ i : Fin 32, exec (.readFaults p [byte i.val]) s = .next (finish (h.answer p 0x04 .done (faultsData h i.val))))
    ∧ (∀ (k : Fin 8) (n : Fin 16), exec (.readSnapshot p [byte k.val, byte n.val]) s
        = .next (finish (h.answer p 0x05 .done (snapshotData h k n.val))))
    ∧ (∀ t : Fin 16, exec (.readAttribute p [byte t.val]) s = .next (finish (h.answer p 0x06 .done (attributeData h t))))
    ∧ (∀ b : Byte, 128 ≤ b.toNat → exec (.readFrameEntry p [b]) s = .next (finish (h.answer p 0x03 .badIndex [])))
    ∧ (∀ b : Byte, 32 ≤ b.toNat → exec (.readFaults p [b]) s = .next (finish (h.answer p 0x04 .badIndex [])))
    ∧ (∀ b c : Byte, 8 ≤ b.toNat ∨ 16 ≤ c.toNat →
        exec (.readSnapshot p [b, c]) s = .next (finish (h.answer p 0x05 .badIndex [])))
    ∧ (∀ b : Byte, 16 ≤ b.toNat → exec (.readAttribute p [b]) s = .next (finish (h.answer p 0x06 .badIndex [])))
    ∧ (let d := identityRecord h
      let flag := fun b : Bool => if b then 1 else 0
      d.length = 11 ∧ fieldAt d 0 2 = 0x0620 ∧ d[2]? = some Config.revision ∧ fieldAt d 3 1 = h.control.mode.code
      ∧ fieldAt d 4 1 = h.control.activeSlot.val ∧ fieldAt d 6 1 = flag h.control.fallback
      ∧ (∀ b, d[5]? = some b → (∀ n : Fin 4, b.getLsbD n.val = h.store.status.get n) ∧ b.toNat < 16)
      ∧ fieldAt d 7 1 = h.faults.items.records.length % 256 ∧ fieldAt d 8 1 = flag h.faults.items.overflow
      ∧ fieldAt d 9 1 = flag h.service.workshop
      ∧ fieldAt d 10 1 = (match h.service.slot with
          | none => 0 | some (.commit, _) => 0x23 | some (.select, _) => 0x24 | some (.outputTest, _) => 0x30))
    ∧ (∀ i : Fin 256, let d := signalRecord h i
      let cfg := h.image.signals.get i
      let r := h.signals.get i
      let signed := fun (o : Nat) (v : Int) => (fieldAt d o 4 : Int) = v % 4294967296
      d.length = 33 ∧ fieldAt d 0 1 = i.val
      ∧ (match cfg.source with
        | .none => fieldAt d 1 1 = 0 ∧ signed 2 0
        | .frame e slot => fieldAt d 1 1 = 1 ∧ signed 2 (8 * e.val + slot.val)
        | .discrete n => fieldAt d 1 1 = 2 ∧ signed 2 n.val
        | .analog n => fieldAt d 1 1 = 2 ∧ signed 2 (24 + n.val)
        | .derived (.door n) => fieldAt d 1 1 = 3 ∧ signed 2 n.val
        | .derived .allClosed => fieldAt d 1 1 = 3 ∧ signed 2 6
        | .derived .openMoving => fieldAt d 1 1 = 3 ∧ signed 2 7
        | .derived .displayFault => fieldAt d 1 1 = 3 ∧ signed 2 8
        | .constant v => fieldAt d 1 1 = 4 ∧ signed 2 v)
      ∧ signed 6 cfg.min ∧ signed 10 cfg.max ∧ signed 14 r.own ∧ fieldAt d 18 1 = r.written.code
      ∧ fieldAt d 19 1 = (ownStatus h.image i r).code ∧ fieldAt d 20 1 = (if r.qual then 1 else 0)
      ∧ signed 21 r.eff.value ∧ fieldAt d 25 1 = r.eff.status.code
      ∧ fieldAt d 26 1 = (match r.eff.reason with | some st => st.code | none => 0xFF)
      ∧ fieldAt d 27 1 = (if r.eff.qual then 1 else 0) ∧ signed 28 r.held
      ∧ fieldAt d 32 1 = (match h.image.subIndex i with | some k => k.val | none => 0xFF))
    ∧ (∀ e : Fin 128, let d := frameEntryData h e
      let r := h.frames.entries.get e
      d.length = 8 ∧ fieldAt d 0 1 = e.val
      ∧ fieldAt d 1 1 = (match r.status with | .waiting => 0 | .receiving => 1 | .silent => 2)
      ∧ fieldAt d 2 1 = (if r.reported = none then 0 else 1) ∧ fieldAt d 3 2 = r.received % 65536
      ∧ fieldAt d 5 1 = r.lengthErrors % 256
      ∧ fieldAt d 6 2 = (match r.timer with | .stopped => 0 | .running t => t - h.now | .held t => t) % 65536)
    ∧ (∀ first : Fin 32, let d := faultsData h first.val
      let records := h.faults.items.records
      d.length = 3 + 16 * min 3 (records.length - first.val) ∧ fieldAt d 0 1 = records.length % 256
      ∧ fieldAt d 1 1 = (if h.faults.items.overflow then 1 else 0) ∧ fieldAt d 2 1 = first.val
      ∧ ∀ (k : Nat) (r : FaultRecord), k < 3 → records[first.val + k]? = some r → let o := 3 + 16 * k
          fieldAt d o 2 = r.code % 65536 ∧ fieldAt d (o + 2) 1 = r.source.kindCode ∧ fieldAt d (o + 3) 1 = r.source.index
          ∧ fieldAt d (o + 4) 1
            = (r.severity + (if r.active then 0 else 4) + if r.raisedThisCycle then 8 else 0) % 256
          ∧ fieldAt d (o + 5) 1 = r.occurrences % 256 ∧ fieldAt d (o + 6) 4 = r.firstSeen % 4294967296
          ∧ fieldAt d (o + 10) 4 = r.lastSeen % 4294967296 ∧ fieldAt d (o + 14) 1 = r.heal % 256
          ∧ fieldAt d (o + 15) 1 = (match r.slot with | some n => n.val | none => 0xFF))
    ∧ (∀ (k : Fin 8) (first : Fin 16), let d := snapshotData h k first.val
      (h.faults.items.slots.get k = none → d = [byte k.val, 0])
      ∧ ∀ x, h.faults.items.slots.get k = some x →
        d.length = 16 + 6 * min 6 (x.entries.length - first.val) ∧ fieldAt d 0 1 = k.val ∧ fieldAt d 1 1 = 1
        ∧ fieldAt d 2 2 = x.code % 65536 ∧ fieldAt d 4 1 = x.source.kindCode ∧ fieldAt d 5 1 = x.source.index
        ∧ fieldAt d 6 4 = x.number % 4294967296 ∧ fieldAt d 10 4 = x.time % 4294967296
        ∧ fieldAt d 14 1 = x.entries.length % 256 ∧ fieldAt d 15 1 = first.val
        ∧ ∀ (m : Nat) (i : Fin 256) (e : Effective), m < 6 → x.entries[first.val + m]? = some (i, e) →
            fieldAt d (16 + 6 * m) 1 = i.val ∧ (fieldAt d (17 + 6 * m) 4 : Int) = e.value % 4294967296
            ∧ fieldAt d (21 + 6 * m) 1 = e.status.code + 16 * (match e.reason with | some st => st.code | none => 15))
    ∧ (∀ t : Fin 16, let d := attributeData h t
      let cfg := h.image.attrs.get t
      d.length = 16 ∧ fieldAt d 0 1 = t.val ∧ fieldAt d 1 1 = (if cfg.inUse then 1 else 0)
      ∧ fieldAt d 2 1 = cfg.kind.code ∧ fieldAt d 3 1 = (match cfg.source with | some n => n % 256 | none => 0xFF)
      ∧ fieldAt d 4 4 = h.faults.items.attrValues.get t % 4294967296 ∧ fieldAt d 8 4 = cfg.threshold % 4294967296
      ∧ (∀ f, cfg.fault = some f → fieldAt d 12 2 = f.code % 65536 ∧ fieldAt d 14 1 = f.severity % 256)
      ∧ (cfg.fault = none → fieldAt d 12 2 = Config.absentFaultCode.toNat ∧ fieldAt d 14 1 = 0xFF)
      ∧ fieldAt d 15 1 = (if h.faults.attrReported.get t = none then 0 else 1))
    ∧ ([Mode.starting, .active, .configuring, .standby, .sleep].map Mode.code = [0, 1, 2, 3, 4]
      ∧ [OwnStatus.neverReceived, .valid, .timeout, .notAvailable, .senderError, .wireFault, .blocked].map OwnStatus.code
          = [0, 1, 2, 3, 4, 5, 6]
      ∧ [EffStatus.valid, .substituted, .invalid].map EffStatus.code = [0, 1, 2]
      ∧ [WearKind.doorCycle, .doorSlowClose, .doorFault, .inputWireFault, .lampFault, .portBusOff, .forwardDrop,
          .frameTimeout, .gaugeHoming, .ignitionCycle].map WearKind.code = List.range 10
      ∧ ∀ x : FaultSource, (x.kindCode, x.index) = match x with
          | .port n => (0, n.val) | .entry n => (1, n.val) | .discrete n => (2, n.val) | .analog n => (3, n.val)
          | .door n => (4, n.val) | .warning n => (5, n.val) | .lamp n => (6, n.val) | .displayLink => (7, 0)
          | .attr n => (8, n.val) | .profileStore => (9, 0))
    ∧ (∀ (f : Persistent → Persistent) (a : Acc FaultUnit),
        let before := a.st.items
        let now := f before
        edit f a = ⟨{ a.st with items := now, changed := a.st.changed || decide (now ≠ before) },
          a.out ++ if now.records.length ≠ before.records.length ∨ now.overflow ≠ before.overflow then
            [.faultCount now.records.length now.overflow] else []⟩)
    ∧ ∀ (n : Nat) (overflow : Bool), let u := handle (.faultCount n overflow) s
        u.control = { s.control with faultCount := n, faultOverflow := overflow } ∧ s.OnlyModeWritten u

/-- R120, R176: ACKNOWLEDGE is answered DONE in every serving mode and touches the warnings in ACTIVE alone. There it acts on the
top entry: with its minimum display time reached the warning is acknowledged and leaves the presentation; before that the entry
waits, acknowledge-pending, for its minimum timer; a second one, or one with nothing presented, does nothing. -/
def Obligations.AcknowledgeTakesTop : Prop :=
  (∀ (p : Port) (s : State), s.control.mode ∈ servingModes →
      exec (.acknowledge p []) s = .next (finish
        (if s.control.mode = .active then (s.heard.runWarnings acknowledgeTop).answer p 0x07 .done []
          else s.heard.answer p 0x07 .done [])))
    ∧ ∀ s : State, s.StackSound →
        let a := acknowledgeTop s ⟨s.warnings, []⟩
        (s.warnings.stack = [] → a = ⟨s.warnings, []⟩)
        ∧ ∀ top rest, s.warnings.stack = top :: rest →
            (top.ackPending = true → a = ⟨s.warnings, []⟩)
            ∧ (top.ackPending = false → minimumMs s top.warning ≤ top.shown →
                Acknowledged top.warning s.warnings a.st)
            ∧ (top.ackPending = false → top.shown < minimumMs s top.warning →
                a = ⟨{ s.warnings with
                  stack := { top with ackPending := true } :: rest
                  minTimer := some (s.now + (minimumMs s top.warning - top.shown)) }, []⟩)

/-- R150 with Table 8-4, R153, R177: CLEAR FAULTS empties the Fault Memory, of which the Mode Controller is handed the count 0
(R149), but for what wear attributes raise again at once (that they raise before the other reporters is the model's choice, log 38),
and is answered DONE. After it every other reporter's flag is what stands: set with its code for a SILENT entry, a BUS_OFF port, a
warning ON, RELEASING or LATCHED and a latched lamp with a fault code, for a STALLED link and the store's two faults; clear for
every input and door, each of which is due to report again at its next sample or evaluation (the mark `due` that says so is the
model's own, log 18 and log 22). The wear values and the running time stand; an attribute in use with a fault code at its threshold
has its flag set, every other attribute's is clear. RESET ATTRIBUTE sets the attribute's value to 0 and ends its report: the flag is
clear and the record of the recorded code with source (attribute, a) is PASSIVE; it is answered DONE, also for an attribute not in
use, and no other attribute and no other record changes. -/
def Obligations.ClearFaultsAndResetAttribute : Prop :=
  ∀ (p : Port) (s : State), s.control.mode ∈ servingModes → accessNow s = true →
    (∃ v : State, exec (.clearFaults p []) s = .next (finish (v.answer p 0x10 .done []))
      ∧ v = { s.heard with
          faults := v.faults, frames := v.frames, inputs := v.inputs, doors := v.doors, warnings := v.warnings
          lamps := v.lamps, display := v.display, store := v.store, mail := v.mail }
      ∧ (∀ r ∈ v.faults.items.records, ∃ t, r.source = .attr t)
      ∧ (s.faults.items.records ≠ [] ∨ s.faults.items.overflow = true → .faultCount 0 false ∈ v.mail)
      ∧ v.faults.items.attrValues = s.faults.items.attrValues ∧ v.faults.items.seconds = s.faults.items.seconds
      ∧ (∀ t, v.faults.attrReported.get t =
          let cfg := s.running.attrs.get t
          if cfg.inUse = true ∧ cfg.threshold ≠ 0 ∧ cfg.threshold ≤ s.faults.items.attrValues.get t then
            cfg.fault.map (·.code) else none)
      ∧ (∀ e, (v.frames.entries.get e).reported =
          if (s.frames.entries.get e).status = .silent then (s.image.frames.get e).fault.map (·.code) else none)
      ∧ (∀ q, (v.frames.ports.get q).reported =
          if (s.frames.ports.get q).state = .busOff then (s.image.general.ports.get q).fault.map (·.code) else none)
      ∧ (∀ n, (v.inputs.discretes.get n) = { s.inputs.discretes.get n with reported := none, due := true })
      ∧ (∀ n, (v.inputs.analogs.get n) = { s.inputs.analogs.get n with reported := none, due := true })
      ∧ (∀ d, (v.doors.doors.get d) = { s.doors.doors.get d with reported := none, due := true })
      ∧ (∀ w, (v.warnings.recs.get w).reported =
          if (s.warnings.recs.get w).state = .off ∨ (s.warnings.recs.get w).state = .arming then none
          else (s.running.warnings.get w).fault.map (·.code))
      ∧ (∀ l, (v.lamps.lamps.get l).reported =
          if (s.lamps.lamps.get l).latch then (s.running.lamps.get l).fault.map (·.code) else none)
      ∧ v.display.reported = decide (s.display.link = .stalled)
      ∧ v.store.reportedFallback = s.control.fallback ∧ v.store.reportedFailure = s.store.failure)
    ∧ ∀ t : Fin 16, ∃ v : State, exec (.resetAttribute p [byte t.val]) s = .next (finish (v.answer p 0x11 .done []))
      ∧ v = { s.heard with faults := v.faults, mail := v.mail }
      ∧ v.faults.items.attrValues = s.faults.items.attrValues.set t 0
      ∧ v.faults.attrReported = s.faults.attrReported.set t none
      ∧ (∀ code, s.faults.attrReported.get t = some code →
          v.faults.items.records = s.faults.items.records.map fun r =>
            if r.code = code ∧ r.source = .attr t then { r with active := false } else r)
      ∧ (s.faults.attrReported.get t = none → v.faults.items.records = s.faults.items.records)
      ∧ v.faults.items.seconds = s.faults.items.seconds ∧ v.faults.items.slots = s.faults.items.slots

/-- R40 to R42 with Table 2-4: an accepted SUBSTITUTE, FORCED or AUTO, with a constant, a signal or (FORCED alone) nothing for
alternate, is answered DONE, writes its entry, the constant cut to the limits of the entry's signal, and resolves that signal `i`:
an AUTO entry leaves a VALID own value; else the constant, or the own value of an alternate `j` whose own status is VALID, shows cut
to the limits as SUBSTITUTED; else the held value shows INVALID with the own status as reason, or BLOCKED where that is VALID. A
FORCED entry with nothing makes the own status BLOCKED. Where the entry named another signal before, that one is resolved without
it. RELEASE SUBSTITUTE takes the entry out of use, resolves its signal again and is answered DONE; of an entry not in use it changes
nothing. Own values and written statuses stand, every other entry too, and so does every signal that is neither named by the entry,
before or after, nor depends on one that is. -/
def Obligations.SubstituteAndRelease : Prop :=
  ∀ (p : Port) (e : Fin 16) (s : State), s.control.mode = .active ∨ s.control.mode = .configuring → accessNow s = true →
    storeCommandRuns s = false →
    let old := s.image.substitution.get e
    let others := fun k : Fin 16 => k ≠ e ∧ (s.image.substitution.get k).inUse = true
    let alone := fun (i : Fin 256) (now : Effective) => (∀ k, others k → (s.image.substitution.get k).signal ≠ i) →
      now = (if (s.signals.get i).written = .valid then ⟨(s.signals.get i).own, .valid, none, (s.signals.get i).qual⟩
        else ⟨(s.signals.get i).held, .invalid, some (s.signals.get i).written, false⟩)
    let sourced := fun v : State => ∀ k, (v.signals.get k).own = (s.signals.get k).own
      ∧ (v.signals.get k).written = (s.signals.get k).written ∧ (v.signals.get k).qual = (s.signals.get k).qual
    let apart := fun (named : Fin 256 → Prop) (v : State) => ∀ k, ¬named k →
      (∀ m, (v.image.substitution.get m).inUse = true → (v.image.substitution.get m).signal = k →
        ∀ i, (v.image.substitution.get m).alternate = .signal i → ¬named i) →
      v.signals.get k = s.signals.get k
    (∀ (i j : Fin 256) (c : Int) (alt : Alternate) (forced : Bool), -2147483648 ≤ c → c ≤ 2147483647 →
        let cfg := s.image.signals.get i
        (∀ k, others k → (s.image.substitution.get k).signal ≠ i) →
        alt = .none ∨ alt = .signal j ∨ alt = .constant (clamp cfg.min cfg.max c) →
        (alt = .signal j → j ≠ i) → forced = true ∨ alt ≠ .none →
        let code : Byte := match alt with | .none => 0 | .signal _ => 1 | .constant _ => 2
        ∃ v : State,
          exec (.substitute p ([byte e.val, 1, byte i.val, code, byte j.val] ++ leSigned 4 c ++ [flagByte forced])) s
              = .next (finish (v.answer p 0x12 .done []))
            ∧ v = { s.heard with image := v.image, signals := v.signals, mail := v.mail }
            ∧ v.image = { s.image with substitution := s.image.substitution.set e ⟨true, i, alt, forced⟩ }
            ∧ sourced v ∧ apart (fun k => k = i ∨ (old.inUse = true ∧ k = old.signal)) v
            ∧ (old.inUse = true → old.signal ≠ i → alone old.signal (v.signals.get old.signal).eff)
            ∧ let was := s.signals.get i
              let now := (v.signals.get i).eff
              let own : OwnStatus := if forced = true ∧ alt = .none then .blocked else was.written
              let held := now = ⟨was.held, .invalid, some (if own = .valid then .blocked else own), false⟩
              let given := fun x : Int => now = ⟨clamp cfg.min cfg.max x, .substituted, none, decide (clamp cfg.min cfg.max x ≠ x)⟩
              (forced = false → was.written = .valid → now = ⟨was.own, .valid, none, was.qual⟩)
              ∧ (forced = true ∨ was.written ≠ .valid →
                  let blocks := fun k : Fin 16 => others k ∧ (s.image.substitution.get k).signal = j
                    ∧ (s.image.substitution.get k).forced = true ∧ (s.image.substitution.get k).alternate = .none
                  (∀ x, alt = .constant x → given x)
                  ∧ (alt = .none → held)
                  ∧ (alt = .signal j →
                      ((s.signals.get j).written = .valid → (∀ k, ¬blocks k) → given (s.signals.get j).own)
                      ∧ ((s.signals.get j).written ≠ .valid → held)
                      ∧ ∀ k, blocks k → (∀ m, others m → (s.image.substitution.get m).signal = j → m = k) → held)))
    ∧ ∃ v : State,
        exec (.releaseSubstitute p [byte e.val]) s = .next (finish (v.answer p 0x13 .done []))
          ∧ v = { s.heard with image := v.image, signals := v.signals, mail := v.mail }
          ∧ v.image = { s.image with substitution := s.image.substitution.set e { old with inUse := false } }
          ∧ sourced v ∧ apart (fun k => old.inUse = true ∧ k = old.signal) v
          ∧ (old.inUse = true → v.signals.get old.signal = resolved v.image v.signals old.signal
              ∧ alone old.signal (v.signals.get old.signal).eff)
          ∧ (old.inUse = false → v.signals = s.signals ∧ v.mail = s.heard.mail)

/-! ### Configuration -/

/-- R175, R178, R179, R185, R193: an admitted BEGIN CONFIGURATION takes the part to CONFIGURING: the interlock is asserted, every
Forward Queue and staging record is empty, every warning is OFF with nothing presented, running reception timers are held. An
admitted END CONFIGURATION re-initializes on the working image and goes by the ignition as it stood: every entry is fresh, the port
states stand. DONE follows in both cases. A loss of access in CONFIGURING asks for the same end without a request, at once or, while
a timed command runs, when that has completed and queued its result; with an output test running it ends the test, WRONG_MODE while
the vehicle moves and DENIED else; in any other case it does nothing more. -/
def Obligations.ConfigurationBeginsAndEnds : Prop :=
  (∀ (p : Port) (s : State),
    (s.Admits [.active] → ∃ v : State,
      exec (.beginConfiguration p []) s = .next (finish (v.answer p 0x20 .done []))
        ∧ v.control.mode = .configuring ∧ v.control.sleepTimer = none ∧ v.doors.interlock = true
        ∧ (∀ q, (v.outbound.ports.get q).forward = [] ∧ (v.service.ports.get q).staging = none)
        ∧ v.warnings.stack = [] ∧ v.warnings.waiting = [] ∧ (∀ w, (v.warnings.recs.get w).state = .off)
        ∧ (∀ e t, (s.frames.entries.get e).timer = .running t → (v.frames.entries.get e).timer = .held (t - s.now))
        ∧ v.image = s.image ∧ v.running = s.running ∧ v.signals = s.signals)
    ∧ (s.Admits [.configuring] → ∃ v : State,
      exec (.endConfiguration p []) s = .next (finish (v.answer p 0x21 .done []))
        ∧ v = s.heard.leaveConfiguration
        ∧ v.control.mode = (if s.ignition then .active else .standby)
        ∧ v.image = s.image ∧ v.running = s.image
        ∧ (∀ q, (v.service.ports.get q).staging = none) ∧ v.frames.ports = s.frames.ports
        ∧ (∀ e, v.frames.entries.get e =
            let cfg := s.image.frames.get e
            ⟨.waiting, if cfg.enabled ∧ cfg.timeout ≠ 0 then .running (s.now + cfg.timeout * 10) else .stopped, 0, 0, none⟩)))
    ∧ ∀ s : State,
        let a := evaluateAccess s ⟨s.service, []⟩
        let lost := s.service.workshop = true ∧ accessNow s = false
        let level := { s.service with workshop := accessNow s }
        (accessNow s = true ↔ (s.eff s.running.general.serviceEnable).asserted = true
          ∧ (s.eff s.running.general.brake).asserted = true ∧ s.moving = false)
        ∧ (¬lost → a = ⟨level, []⟩)
        ∧ (lost → s.control.mode = .configuring → s.service.slot = none → a = ⟨level, [.endConfiguration]⟩)
        ∧ (lost → s.control.mode = .configuring → s.service.slot ≠ none → a = ⟨{ level with endDue := true }, []⟩)
        ∧ (∀ q, lost → s.control.mode ≠ .configuring → s.service.slot = some (.outputTest, q) →
            a = ⟨{ level with slot := none, testTimer := none },
              [.respond q 0x30 (if s.moving then .wrongMode else .denied) [], .testEnd]⟩)
        ∧ (lost → s.control.mode ≠ .configuring → (∀ q, s.service.slot ≠ some (.outputTest, q)) → a = ⟨level, []⟩)
        ∧ (∀ c q r, s.service.slot = some (c, q) →
            completeTimed r ⟨s.service, []⟩ = ⟨{ s.service with slot := none, endDue := false },
              .respond q c.code r [] :: (if s.service.endDue then [.endConfiguration] else [])⟩)
        ∧ handle .endConfiguration s = (if s.control.mode = .configuring then s.leaveConfiguration else s)

/-- R182, R183: the last part of a LOAD ENTRY of any of the sixteen tables, with the earlier parts on the port's record and a
content of the table's length, goes to the loader; the record is EMPTY; and the answer is DONE with the table, the index and the
number of parts where the loader writes, the loader's result and no change where it refuses. That the number in that answer is the
part count is the model's choice (log 15). -/
def Obligations.LoadPartsCompleted : Prop :=
  ∀ (k : Fin 16) (p : Port) (index : BitVec 16) (part : Byte) (content earlier : List Byte) (s : State),
    s.control.mode = .configuring → accessNow s = true → storeCommandRuns s = false → content.length ≤ 51 →
    let table := k.val + 1
    let number := part.toNat / 16
    let count := part.toNat % 16
    count ≤ 4 → number + 1 = count →
    admits (s.service.ports.get p).staging table index.toNat number count = some earlier →
    contentLength table = some (earlier ++ content).length →
    let h := s.heard.setStaging p none
    (∀ v, h.loadEntry table index.toNat (earlier ++ content) = .ok v →
        exec (loadCommand k p index part content) s
          = .next (finish (v.answer p 0x22 .done (byte table :: leBytes 2 index.toNat ++ [byte count]))))
    ∧ (∀ r, h.loadEntry table index.toNat (earlier ++ content) = .error r →
        exec (loadCommand k p index part content) s = .next (finish (h.answer p 0x22 r [])))

/-- R182: a part that is not the last is held and answered DONE with the number of parts held, and nothing else changes; a part
header out of range is BAD_VALUE; a part that is not the one expected is BAD_VALUE and empties the record, and so does a completed
content of a wrong length. That a part header out of range leaves the record as it stands is the model's choice (log 14). -/
def Obligations.LoadPartsStaged : Prop :=
  ∀ (k : Fin 16) (p : Port) (index : BitVec 16) (part : Byte) (content : List Byte) (s : State),
    s.control.mode = .configuring → accessNow s = true → storeCommandRuns s = false → content.length ≤ 51 →
    let table := k.val + 1
    let number := part.toNat / 16
    let count := part.toNat % 16
    let held := admits (s.service.ports.get p).staging table index.toNat number count
    let h := s.heard
    (count = 0 ∨ 4 < count ∨ count ≤ number →
        exec (loadCommand k p index part content) s = .next (finish (h.answer p 0x22 .badValue [])))
    ∧ (count ≤ 4 → number < count → held = none →
        exec (loadCommand k p index part content) s = .next (finish ((h.setStaging p none).answer p 0x22 .badValue [])))
    ∧ (∀ earlier, count ≤ 4 → number + 1 < count → held = some earlier →
        exec (loadCommand k p index part content) s
          = .next (finish ((h.setStaging p (some ⟨table, index.toNat, count, number + 1, earlier ++ content⟩)).answer p 0x22
              .done (byte table :: leBytes 2 index.toNat ++ [byte (number + 1)]))))
    ∧ (∀ earlier, count ≤ 4 → number + 1 = count → held = some earlier →
        contentLength table ≠ some (earlier ++ content).length →
        exec (loadCommand k p index part content) s = .next (finish ((h.setStaging p none).answer p 0x22 .badValue [])))

/-- R9, R11, R145, R156, R165, R182, R183 (with R22, R37, R45, R61, R127 for GENERAL): a FRAME or an EXTRACT content in one part
that meets the checks of its rule is written field by field, and answered DONE with one part (that this number is the part count is
the model's choice, log 15): the row of the working image is exactly the entry, or the descriptor, whose content it was, and for
EXTRACT the writer moves from a former target to the new one (R22). Nothing else of the part changes but the staging record of the
port. At the loader a TRANSMIT, DISPLAY, SNAPSHOT LIST or GENERAL content that meets the checks of its rule is written in the same
way, in GENERAL with the move of the three producers. Any content of these six tables, at any index, is refused exactly when a check
fails, with the result of the first one that fails: a yes-or-no or a code out of its list gives BAD_VALUE before everything else
(R183), then the index and the checks of the table's rule follow in its order, with BAD_INDEX, BAD_VALUE or CONFLICT; what meets
them all is accepted. The open points of the checks, the order of those of SNAPSHOT LIST and GENERAL among them, are as the model
chose (log 14). -/
def Obligations.FrameAndExtractLoadsWrite : Prop :=
  (∀ (p : Port) (s : State), s.control.mode = .configuring → accessNow s = true → storeCommandRuns s = false →
    let img := s.image
    let done := fun (table index : Nat) (img' : Image) =>
      (s.heard.loaded p img').answer p 0x22 .done (byte table :: leBytes 2 index ++ [1])
    (∀ (n : Fin 128) (e : FrameEntry), e.minLen ≤ 8 → e.timeout < 256 → identFits e.kind e.ident.toNat = true →
        identFits e.kind e.mask.toNat = true → (∀ r, e.replacement = some r → identFits e.kind r.toNat = true) →
        e.forward.getLsbD e.port.val = false → faultOk e.fault →
        (∀ slot, ((img.extract.get n).get slot).target ≠ none →
          let d := (img.extract.get n).get slot
          fits d.order d.start d.length e.minLen = true) →
        (e.enabled = true → ∀ k, k ≠ n → (img.frames.get k).enabled = true → (img.frames.get k).port = e.port →
          (img.frames.get k).kind = e.kind → (img.frames.get k).mask = e.mask →
          (img.frames.get k).ident &&& e.mask ≠ e.ident &&& e.mask) →
        exec (.loadEntryFrame p (BitVec.ofNat 16 n.val) 0x01 (frameContent e)) s
          = .next (finish (done 1 n.val { img with frames := img.frames.set n e })))
    ∧ (∀ (n : Fin 128) (slot : Fin 8) (d : Descriptor), d.start ≤ 63 → 1 ≤ d.length → d.length ≤ 32 → d.shift ≤ 15 →
        -32768 ≤ d.gain → d.gain ≤ 32767 → -2147483648 ≤ d.offset → d.offset ≤ 2147483647 →
        (d.invalidCodes = true → d.signed = false ∧ 2 ≤ d.length) →
        fits d.order d.start d.length (img.frames.get n).minLen = true →
        img.free d.target (.frame n slot) = true →
        let former := ((img.extract.get n).get slot).target
        let written := { img with extract := img.extract.set n ((img.extract.get n).set slot d) }
        exec (.loadEntryExtract p (BitVec.ofNat 16 (8 * n.val + slot.val)) 0x01 (descriptorContent d)) s
          = .next (finish (done 2 (8 * n.val + slot.val) (written.retarget former d.target (.frame n slot))))))
    ∧ (∀ s : State,
      let img := s.image
      (∀ (n : Fin 16) (e : TransmitEntry), identFits e.kind e.ident.toNat = true → e.length ≤ 8 → 1 ≤ e.period →
          e.period < 256 →
          (let used := e.slots.list.filterMap id
           (∀ d ∈ used, d.start ≤ 63 ∧ 1 ≤ d.length ∧ d.length ≤ 32 ∧ d.shift ≤ 15 ∧ int32 d.offset
              ∧ (d.invalidCodes = true → 2 ≤ d.length) ∧ fits d.order d.start d.length e.length = true)
            ∧ (used.flatMap fun d => bitsOf d.order d.start d.length).Nodup) →
          s.loadEntry 12 n.val (transmitLoad e) = .ok { s with image := { img with transmit := img.transmit.set n e } })
      ∧ (∀ (n : Fin 64) (k : RecordKind),
          s.loadEntry 13 n.val (displayLoad k) = .ok { s with image := { img with display := img.display.set n k } })
      ∧ (∀ l : List (Fin 256), l.length ≤ 16 → l.Nodup →
          s.loadEntry 15 0 (snapshotListLoad l) = .ok { s with image := { img with snapshotList := l } })
      ∧ ∀ g : General, int32 g.movingThreshold → 2 ≤ g.scanPeriod → g.scanPeriod ≤ 20 → 50 ≤ g.stepInterval →
          g.stepInterval ≤ 250 → g.bulbCheck ≤ 5000 → 20 ≤ g.tone → g.tone ≤ 40 → 1 ≤ g.healLimit → g.healLimit < 256 →
          10 ≤ g.sleepDelay → g.sleepDelay ≤ 600 →
          2 ≤ g.bl0.length → g.bl0.length ≤ 4 → pointsOk 1000 g.bl0 →
          2 ≤ g.bl1.length → g.bl1.length ≤ 4 → pointsOk 1000 g.bl1 →
          (∀ q, let c := g.ports.get q
            10 ≤ c.recovery ∧ c.recovery < 256 ∧ faultOk c.fault ∧ identFits c.serviceKind c.request.toNat = true
              ∧ identFits c.serviceKind c.response.toNat = true) →
          img.free g.allClosed (.derived .allClosed) = true → img.free g.openMoving (.derived .openMoving) = true →
          img.free g.displayFault (.derived .displayFault) = true →
          ([g.allClosed, g.openMoving, g.displayFault].filterMap id).Nodup →
          let old := img.general
          s.loadEntry 16 0 (generalLoad g) = .ok { s with
            image := ((({ img with general := g }.retarget old.allClosed g.allClosed (.derived .allClosed)).retarget
              old.openMoving g.openMoving (.derived .openMoving)).retarget
              old.displayFault g.displayFault (.derived .displayFault)) })
    ∧ ∀ (s : State) (index : Nat) (content : List Byte),
      let img := s.image
      let f := fieldAt content
      let yesNo := fun o => f o 1 ≤ 1
      let signal := fun o => f o 2 = 0xFFFF ∨ f o 2 < 256
      let severity := fun o => f o 1 = 0xFF ∨ f o 1 ≤ 3
      let width := fun o => if f o 1 = 0 then 2048 else 536870912
      let order := fun o => if f o 1 = 0 then ByteOrder.little else ByteOrder.big
      let kind := if f 2 1 = 0 then IdKind.standard else IdKind.extended
      let slot := fun k : Fin 8 => 10 + 11 * k.val
      let used := fun k => f (slot k) 2 ≠ 0xFFFF
      let breakpoint := fun o j => toSigned 32 (f (o + 1 + 6 * j) 4)
      let port := fun q : Port => 76 + 16 * q.val
      let refused := fun (table : Nat) (checks : List (Prop × Result)) =>
        ∀ r, s.loadEntry table index content = .error r ↔ Refused checks r
      refused 1 [
          (yesNo 0 ∧ f 2 1 < 2 ∧ yesNo 18, .badValue),
          (index < 128, .badIndex),
          (f 1 1 < 3 ∧ f 11 1 ≤ 8 ∧ f 3 4 < width 2 ∧ f 7 4 < width 2 ∧ (f 14 4 = 0xFFFFFFFF ∨ f 14 4 < width 2)
            ∧ f 13 1 < 8 ∧ (f 13 1).testBit (f 1 1) = false, .badValue),
          (f 19 1 = 0xFF ∨ f 19 1 < 64, .badIndex),
          (severity 22, .badValue),
          (∀ (e : Fin 128) (k : Fin 8), index = e.val → ((img.extract.get e).get k).target ≠ none →
            let d := (img.extract.get e).get k
            fits d.order d.start d.length (f 11 1) = true, .badValue),
          (f 0 1 = 1 → ∀ k : Fin 128, index ≠ k.val → ¬((img.frames.get k).enabled = true
            ∧ (img.frames.get k).port.val = f 1 1 ∧ (img.frames.get k).kind = kind
            ∧ (img.frames.get k).mask.toNat = f 7 4
            ∧ (img.frames.get k).ident &&& (img.frames.get k).mask = BitVec.ofNat 29 (f 3 4) &&& (img.frames.get k).mask),
            .conflict)]
      ∧ refused 2 [
          (f 4 1 < 2 ∧ yesNo 5 ∧ yesNo 6, .badValue),
          (index < 1024 ∧ signal 0, .badIndex),
          (f 2 1 ≤ 63 ∧ 1 ≤ f 3 1 ∧ f 3 1 ≤ 32 ∧ f 9 1 ≤ 15 ∧ (f 6 1 = 1 → f 5 1 = 0 ∧ 2 ≤ f 3 1)
            ∧ ∀ e : Fin 128, index / 8 = e.val → fits (order 4) (f 2 1) (f 3 1) (img.frames.get e).minLen = true, .badValue),
          (∀ (i : Fin 256) (e : Fin 128) (k : Fin 8), f 0 2 = i.val → index = 8 * e.val + k.val →
            (img.signals.get i).source = .none ∨ (img.signals.get i).source = .frame e k, .conflict)]
      ∧ refused 12 [
          (yesNo 0 ∧ f 2 1 < 2 ∧ yesNo 9 ∧ ∀ k, f (slot k + 4) 1 < 2 ∧ yesNo (slot k + 10), .badValue),
          (index < 16 ∧ ∀ k, signal (slot k), .badIndex),
          (f 1 1 < 3 ∧ f 3 4 < width 2 ∧ f 7 1 ≤ 8 ∧ 1 ≤ f 8 1
            ∧ (∀ k, used k → f (slot k + 2) 1 ≤ 63 ∧ 1 ≤ f (slot k + 3) 1 ∧ f (slot k + 3) 1 ≤ 32 ∧ f (slot k + 5) 1 ≤ 15
              ∧ (f (slot k + 10) 1 = 1 → 2 ≤ f (slot k + 3) 1)
              ∧ fits (order (slot k + 4)) (f (slot k + 2) 1) (f (slot k + 3) 1) (f 7 1) = true)
            ∧ ∀ j k, used j → used k → j ≠ k →
              ∀ n ∈ bitsOf (order (slot j + 4)) (f (slot j + 2) 1) (f (slot j + 3) 1),
                n ∉ bitsOf (order (slot k + 4)) (f (slot k + 2) 1) (f (slot k + 3) 1), .badValue)]
      ∧ refused 13 [(f 0 1 < 8, .badValue), (index < 64 ∧ (f 0 1 = 1 → f 1 1 < 6), .badIndex)]
      ∧ refused 15 [
          (index = 0, .badIndex),
          (f 0 1 ≤ 16 ∧ ∀ j k : Fin 16, j < k → k.val < f 0 1 → f (1 + j.val) 1 ≠ f (1 + k.val) 1, .badValue)]
      ∧ refused 16 [
          (∀ q, yesNo (port q) ∧ f (port q + 1) 1 < 3 ∧ yesNo (port q + 6) ∧ f (port q + 7) 1 < 2, .badValue),
          (index = 0 ∧ signal 12 ∧ signal 14 ∧ signal 16, .badIndex),
          (2 ≤ f 18 1 ∧ f 18 1 ≤ 20 ∧ 50 ≤ f 19 1 ∧ f 19 1 ≤ 250 ∧ f 20 2 ≤ 5000 ∧ 20 ≤ f 22 1 ∧ f 22 1 ≤ 40
            ∧ 1 ≤ f 23 1 ∧ 10 ≤ f 24 2 ∧ f 24 2 ≤ 600
            ∧ (∀ o ∈ [26, 51], 2 ≤ f o 1 ∧ f o 1 ≤ 4
              ∧ (∀ j < 3, j + 1 < f o 1 → breakpoint o j < breakpoint o (j + 1)) ∧ ∀ j < 4, j < f o 1 → f (o + 5 + 6 * j) 2 ≤ 1000)
            ∧ ∀ q, 10 ≤ f (port q + 2) 1 ∧ severity (port q + 5) ∧ f (port q + 8) 4 < width (port q + 7)
              ∧ f (port q + 12) 4 < width (port q + 7), .badValue),
          (∀ i : Fin 256, let w := (img.signals.get i).source
            (f 12 2 = i.val → w = .none ∨ w = .derived .allClosed) ∧ (f 14 2 = i.val → w = .none ∨ w = .derived .openMoving)
            ∧ (f 16 2 = i.val → w = .none ∨ w = .derived .displayFault), .conflict),
          (∀ o ∈ [12, 14, 16], ∀ o' ∈ [12, 14, 16], o < o' → f o 2 = f o' 2 → f o 2 = 0xFFFF, .conflict)]

/-- R23, R40, R46, R52, R60, R83, R102, R126, R127, R151, R182, R183: a content in one part that meets the checks of its rule is
written field by field and answered DONE with one part (that this number is the part count is the model's choice, log 15), for
SIGNAL, INPUT, ANALOG, PATTERN and ATTRIBUTE. A SIGNAL load gives its signal the limits and cuts own and held value to them at once;
without a constant it drops a constant source, with one the signal holds that constant, VALID and unclamped. At the loader a
SUBSTITUTION, DOOR, GAUGE, WARNING or LAMP content that meets the checks of its rule is written in the same way, for SUBSTITUTION
with the resolution of the signal it names, for DOOR with the move of the door's state signal. Any content of these ten tables, at
any index, is refused exactly when a check fails, with the result of the first one that fails: a yes-or-no or a code out of its list
gives BAD_VALUE before everything else (R183), then the index and the checks of the table's rule follow in its order, with
BAD_INDEX, BAD_VALUE or CONFLICT; what meets them all is accepted. The open points of the checks, the order of those of PATTERN and
ATTRIBUTE among them, are as the model chose (log 14). -/
def Obligations.ChannelLoadsWrite : Prop :=
  (∀ (p : Port) (s : State), s.control.mode = .configuring → accessNow s = true → storeCommandRuns s = false →
    let img := s.image
    let done := fun (table index : Nat) (img' : Image) =>
      (s.heard.loaded p img').answer p 0x22 .done (byte table :: leBytes 2 index ++ [1])
    (∀ (i : Fin 256) (lo hi : Int), -2147483648 ≤ lo → lo ≤ hi → hi ≤ 2147483647 →
        let before := s.signals.get i
        let wrote := fun (v : State) (constant : Option Int) (source : Source) =>
          exec (.loadEntrySignal p (BitVec.ofNat 16 i.val) 0x01 (signalLoad lo hi constant)) s
              = .next (finish (v.answer p 0x22 .done (3 :: leBytes 2 i.val ++ [1])))
            ∧ v = { s.heard.setStaging p none with image := v.image, signals := v.signals, mail := v.mail }
            ∧ v.image = { img with signals := img.signals.set i ⟨source, lo, hi⟩ }
            ∧ v.signals.get i = resolved v.image v.signals i
            ∧ lo ≤ (v.signals.get i).held ∧ (v.signals.get i).held ≤ hi
            ∧ ((v.signals.get i).eff.status = .valid → (v.signals.get i).held = (v.signals.get i).own)
            ∧ ((v.signals.get i).eff.status = .invalid → (v.signals.get i).held = clamp lo hi before.held)
        (∃ v : State,
          wrote v none (match (img.signals.get i).source with | .constant _ => .none | w => w)
            ∧ (v.signals.get i).own = clamp lo hi before.own ∧ (v.signals.get i).written = before.written
            ∧ (v.signals.get i).qual = (before.qual || decide (clamp lo hi before.own ≠ before.own)))
        ∧ ∀ c : Int, lo ≤ c → c ≤ hi →
            ((img.signals.get i).source = .none ∨ ∃ c', (img.signals.get i).source = .constant c') →
            ∃ v : State, wrote v (some c) (.constant c)
              ∧ (v.signals.get i).own = c ∧ (v.signals.get i).written = .valid ∧ (v.signals.get i).qual = false)
    ∧ (∀ (n : Fin 24) (c : DiscreteConfig), 1 ≤ c.debounce → c.debounce ≤ 15 → faultOk c.fault →
        img.free c.target (.discrete n) = true →
        (c.wake = true → (List.finRange 24).countP (fun k => k != n && (img.discretes.get k).wake) ≤ 3) →
        exec (.loadEntryInput p (BitVec.ofNat 16 n.val) 0x01 (discreteContent c)) s
          = .next (finish (done 5 n.val ({ img with discretes := img.discretes.set n c }.retarget
              (img.discretes.get n).target c.target (.discrete n)))))
    ∧ (∀ (n : Fin 8) (c : AnalogConfig), c.averaging = 1 ∨ c.averaging = 2 ∨ c.averaging = 4 ∨ c.averaging = 8 →
        c.low ≤ c.high → c.high ≤ 4095 → c.shift ≤ 15 → -32768 ≤ c.gain → c.gain ≤ 32767 → -2147483648 ≤ c.offset →
        c.offset ≤ 2147483647 → faultOk c.fault → img.free c.target (.analog n) = true →
        exec (.loadEntryAnalog p (BitVec.ofNat 16 n.val) 0x01 (analogContent c)) s
          = .next (finish (done 6 n.val ({ img with analogs := img.analogs.set n c }.retarget
              (img.analogs.get n).target c.target (.analog n)))))
    ∧ (∀ (n : Fin 8) (x : Pattern), n ≠ 0 → 1 ≤ x.period → x.period ≤ 16 →
        exec (.loadEntryPattern p (BitVec.ofNat 16 n.val) 0x01 (patternContent x)) s
          = .next (finish (done 11 n.val { img with patterns := img.patterns.set n x })))
    ∧ (∀ (t : Fin 16) (c : AttrConfig), c.threshold < 4294967296 → faultOk c.fault →
        (c.kind = .ignitionCycle → c.source = none) →
        (∀ x, c.source = some x → x < c.kind.sources) →
        exec (.loadEntryAttribute p (BitVec.ofNat 16 t.val) 0x01 (attrContent c)) s
          = .next (finish (done 14 t.val { img with attrs := img.attrs.set t c }))))
    ∧ (∀ s : State,
      let img := s.image
      (∀ (n : Fin 16) (e : SubEntry),
          (e.inUse = true → e.alternate ≠ .signal e.signal ∧ (e.forced = true ∨ e.alternate ≠ .none)
            ∧ ∀ k, k ≠ n → ¬((img.substitution.get k).inUse = true ∧ (img.substitution.get k).signal = e.signal)) →
          (∀ c, e.alternate = .constant c →
            int32 c ∧ (img.signals.get e.signal).min ≤ c ∧ c ≤ (img.signals.get e.signal).max) →
          ∃ v : State, s.loadEntry 4 n.val (substitutionLoad e) = .ok v
            ∧ v = { s with image := v.image, signals := v.signals, mail := v.mail }
            ∧ v.image = { img with substitution := img.substitution.set n e }
            ∧ (e.inUse = true → v.signals.get e.signal = resolved v.image v.signals e.signal))
      ∧ (∀ (d : Fin 6) (c : DoorConfig), 5 ≤ c.travel → c.travel ≤ 100 → c.slow ≤ 100 → faultOk c.fault →
          (c.opened ≠ none ∨ c.release ≠ none) →
          (let sensors := [some c.closed, c.opened, c.edge, c.handle, c.release].filterMap id
           sensors.Nodup ∧ ∀ i, c.stateSignal = some i → i ∉ sensors) →
          img.free c.stateSignal (.derived (.door d)) = true →
          s.loadEntry 7 d.val (doorLoad c) = .ok { s with
            image := ({ img with doors := img.doors.set d c }.retarget (img.doors.get d).stateSignal c.stateSignal
              (.derived (.door d))) })
      ∧ (∀ (g : Fin 6) (c : GaugeConfig), 100 ≤ c.fs → c.fs ≤ 4095 → 2 ≤ c.points.length → c.points.length ≤ 8 →
          pointsOk c.fs c.points → c.rest ≤ c.fs → c.damping ≤ 7 → 1 ≤ c.slew → c.slew < 256 →
          (∀ v, c.fallback = .position v → v ≤ c.fs) → c.overrun ≤ 1023 →
          s.loadEntry 8 g.val (gaugeLoad c) = .ok { s with image := { img with gauges := img.gauges.set g c } })
      ∧ (∀ (w : Fin 64) (c : WarningConfig), int32 c.threshold → 0 ≤ c.hysteresis → int32 c.hysteresis →
          (∀ q, c.qualifier = some q → int32 q.threshold) → c.level ≤ 7 → c.onDelay < 256 → c.offDelay < 256 →
          c.message < 65536 → c.minimum ≤ 100 → c.autoDismiss ≤ 60 →
          (∀ x n, c.buzzer = some (x, n) → 1 ≤ n ∧ n < 256) → faultOk c.fault →
          s.loadEntry 9 w.val (warningLoad c) = .ok { s with image := { img with warnings := img.warnings.set w c } })
      ∧ ∀ (l : Fin 24) (c : LampConfig), (c.owner = .signal → c.signal ≠ none ∧ c.pattern ≠ none) →
          (c.owner = .door → c.door ≠ none) → faultOk c.fault →
          s.loadEntry 10 l.val (lampLoad c) = .ok { s with image := { img with lamps := img.lamps.set l c } })
    ∧ ∀ (s : State) (index : Nat) (content : List Byte),
      let img := s.image
      let f := fieldAt content
      let yesNo := fun o => f o 1 ≤ 1
      let signal := fun o => f o 2 = 0xFFFF ∨ f o 2 < 256
      let severity := fun o => f o 1 = 0xFF ∨ f o 1 ≤ 3
      let free := fun (o : Nat) (writer : Source) => ∀ i : Fin 256, f o 2 = i.val →
        (img.signals.get i).source = .none ∨ (img.signals.get i).source = writer
      let roles := [(1, 1), (2, 2), (4, 2), (6, 2), (8, 2)]
      let breakpoint := fun j => toSigned 32 (f (5 + 6 * j) 4)
      let refused := fun (table : Nat) (checks : List (Prop × Result)) =>
        ∀ r, s.loadEntry table index content = .error r ↔ Refused checks r
      refused 3 [
          (yesNo 8, .badValue),
          (index < 256, .badIndex),
          (let lo := toSigned 32 (f 0 4)
            let hi := toSigned 32 (f 4 4)
            let v := toSigned 32 (f 9 4)
            lo ≤ hi ∧ (f 8 1 = 1 → lo ≤ v ∧ v ≤ hi), .badValue),
          (f 8 1 = 1 → ∀ i : Fin 256, index = i.val →
            (img.signals.get i).source = .none ∨ ∃ c, (img.signals.get i).source = .constant c, .conflict)]
      ∧ refused 4 [
          (yesNo 0 ∧ f 2 1 < 3 ∧ yesNo 8, .badValue),
          (index < 16, .badIndex),
          (f 0 1 = 1 → (f 2 1 = 1 → f 3 1 ≠ f 1 1) ∧ (f 8 1 = 0 → f 2 1 ≠ 0), .badValue),
          (f 0 1 = 1 → ∀ k : Fin 16, index ≠ k.val →
            ¬((img.substitution.get k).inUse = true ∧ (img.substitution.get k).signal.val = f 1 1), .conflict)]
      ∧ refused 5 [
          (yesNo 0 ∧ yesNo 1 ∧ yesNo 5, .badValue),
          (index < 24 ∧ signal 3, .badIndex),
          (1 ≤ f 2 1 ∧ f 2 1 ≤ 15 ∧ severity 8, .badValue),
          (∀ n : Fin 24, index = n.val → free 3 (.discrete n), .conflict),
          (f 5 1 = 1 → (List.finRange 24).countP (fun k => k.val != index && (img.discretes.get k).wake) ≤ 3, .conflict)]
      ∧ refused 6 [
          (index < 8 ∧ signal 12, .badIndex),
          ((f 0 1 = 1 ∨ f 0 1 = 2 ∨ f 0 1 = 4 ∨ f 0 1 = 8) ∧ f 1 2 ≤ f 3 2 ∧ f 3 2 ≤ 4095 ∧ f 7 1 ≤ 15 ∧ severity 16, .badValue),
          (∀ n : Fin 8, index = n.val → free 12 (.analog n), .conflict)]
      ∧ refused 7 [
          (yesNo 0, .badValue),
          (index < 6 ∧ signal 2 ∧ signal 4 ∧ signal 6 ∧ signal 8 ∧ signal 12
            ∧ ∀ k < 9, f (17 + k) 1 = 0xFF ∨ f (17 + k) 1 < 8, .badIndex),
          (5 ≤ f 10 1 ∧ f 10 1 ≤ 100 ∧ f 11 1 ≤ 100 ∧ severity 16 ∧ (f 2 2 ≠ 0xFFFF ∨ f 8 2 ≠ 0xFFFF)
            ∧ (∀ a ∈ roles, ∀ b ∈ roles, a ≠ b → f a.1 a.2 = f b.1 b.2 → f a.1 a.2 = 0xFFFF)
            ∧ ∀ a ∈ roles, f a.1 a.2 = f 12 2 → f 12 2 = 0xFFFF, .badValue),
          (∀ d : Fin 6, index = d.val → free 12 (.derived (.door d)), .conflict)]
      ∧ refused 8 [
          (yesNo 0 ∧ f 57 1 < 3 ∧ yesNo 62, .badValue),
          (index < 6, .badIndex),
          (100 ≤ f 2 2 ∧ f 2 2 ≤ 4095 ∧ 2 ≤ f 4 1 ∧ f 4 1 ≤ 8
            ∧ (∀ j < 7, j + 1 < f 4 1 → breakpoint j < breakpoint (j + 1)) ∧ (∀ j < 8, j < f 4 1 → f (9 + 6 * j) 2 ≤ f 2 2)
            ∧ f 53 2 ≤ f 2 2 ∧ f 55 1 ≤ 7 ∧ 1 ≤ f 56 1 ∧ f 58 2 ≤ f 2 2 ∧ f 60 2 ≤ 1023, .badValue)]
      ∧ refused 9 [
          (yesNo 0 ∧ yesNo 1 ∧ f 3 1 < 4 ∧ f 14 1 < 4 ∧ yesNo 22, .badValue),
          (index < 64 ∧ signal 12 ∧ (f 29 1 = 0xFF ∨ (f 29 1 < 24 ∧ f 30 1 < 8)) ∧ (f 27 1 = 0xFF ∨ f 27 1 < 8), .badIndex),
          (f 19 1 ≤ 7 ∧ 0 ≤ toSigned 32 (f 8 4) ∧ f 25 1 ≤ 100 ∧ f 26 1 ≤ 60 ∧ (f 27 1 ≠ 0xFF → 1 ≤ f 28 1) ∧ severity 33,
            .badValue)]
      ∧ refused 10 [
          (f 0 1 < 4 ∧ yesNo 5, .badValue),
          (index < 24 ∧ signal 1 ∧ (f 4 1 = 0xFF ∨ f 4 1 < 6) ∧ (f 3 1 = 0xFF ∨ f 3 1 < 8), .badIndex),
          ((f 0 1 = 2 → f 1 2 ≠ 0xFFFF ∧ f 3 1 ≠ 0xFF) ∧ (f 0 1 = 3 → f 4 1 ≠ 0xFF) ∧ severity 8, .badValue)]
      ∧ refused 11 [(1 ≤ index ∧ index ≤ 7, .badIndex), (1 ≤ f 0 1 ∧ f 0 1 ≤ 16, .badValue)]
      ∧ refused 14 [
          (yesNo 0 ∧ f 1 1 < 10, .badValue),
          (index < 16 ∧ (f 1 1 < 9 → f 2 1 = 0xFF ∨ f 2 1 < ([6, 6, 6, 32, 24, 3, 3, 128, 6][f 1 1]?).getD 0), .badIndex),
          ((f 1 1 = 9 → f 2 1 = 0xFF) ∧ severity 9, .badValue)]

/-- R180, R181: an admitted COMMIT PROFILE of slot 1 to 3 or SELECT PROFILE of slot 0 to 3 takes the timed-command slot for its
port, is answered PENDING, and its store operation begins at once when none runs or waits, and joins the tail of those that wait
when one runs. A commit begins with the erasure of its slot (R187); that the slot is erased within the step that begins the commit
is the model's choice (log 10). COMMIT PROFILE of slot 0 is BAD_VALUE, a slot above 3 BAD_INDEX. -/
def Obligations.CommitSelectAccepted : Prop :=
  ∀ (p : Port) (s : State), s.Admits [.configuring] →
    let h := s.heard
    let joins := fun (c : TimedCommand) (r : StoreRequest) (u : State) =>
      u.service.slot = some (c, p) ∧ u.mail = h.mail ++ [.respond p c.code .pending []]
        ∧ (∀ op, s.store.operation = some op → u.store = { s.store with waiting := s.store.waiting ++ [r] })
        ∧ u = { h with service := u.service, store := u.store, faults := u.faults, mail := u.mail }
    (∀ n : Fin 4, n ≠ 0 → ∃ u, exec (.commitProfile p [byte n.val]) s = .next (finish u) ∧ joins .commit (.commit n) u
        ∧ (s.store.operation = none → s.store.waiting = [] →
            u.store = { s.store with
              slots := s.store.slots.set n ⟨none, false⟩, status := s.store.status.set n false
              operation := some (.commit n .erase) }))
    ∧ (∀ n : Fin 4, ∃ u, exec (.selectProfile p [byte n.val]) s = .next (finish u) ∧ joins .select (.select n) u
        ∧ (s.store.operation = none → s.store.waiting = [] →
            u.store = { s.store with operation := some (.selectRead n) }))
    ∧ exec (.commitProfile p [0]) s = .next (finish (h.answer p 0x23 .badValue []))
    ∧ (∀ b : Byte, 4 ≤ b.toNat →
        exec (.commitProfile p [b]) s = .next (finish (h.answer p 0x23 .badIndex []))
          ∧ exec (.selectProfile p [b]) s = .next (finish (h.answer p 0x24 .badIndex [])))

/-- R184, R185: an admitted OUTPUT TEST of 1 to 30 s takes the slot, is answered PENDING and runs its timer for its duration; any
other duration is BAD_VALUE. STOP TEST ends a running test: the final result DONE goes to the port of the test, then STOP TEST's own
answer; with none running it is only answered. The timer's expiry ends the test with DONE. -/
def Obligations.OutputTestRuns : Prop :=
  ∀ (p : Port) (s : State),
    (s.Admits [.active] →
      (∀ n : Fin 256, 1 ≤ n.val → n.val ≤ 30 →
        exec (.outputTest p [byte n.val]) s = .next (finish { s.heard with
          service := { s.heard.service with slot := some (.outputTest, p), testTimer := some (s.now + n.val * 1000) }
          mail := s.heard.mail ++ [.respond p 0x30 .pending [], .testStart] }))
      ∧ ∀ n : Fin 256, n.val = 0 ∨ 30 < n.val →
        exec (.outputTest p [byte n.val]) s = .next (finish (s.heard.answer p 0x30 .badValue [])))
    ∧ (s.control.mode ∈ servingModes → accessNow s = true →
        (∀ q, s.service.slot = some (.outputTest, q) →
          exec (.stopTest p []) s = .next (finish { s.heard with
            service := { s.heard.service with slot := none, testTimer := none }
            mail := s.heard.mail ++ [.respond q 0x30 .done [], .testEnd, .respond p 0x31 .done []] }))
        ∧ ((∀ q, s.service.slot ≠ some (.outputTest, q)) →
          exec (.stopTest p []) s = .next (finish (s.heard.answer p 0x31 .done []))))
    ∧ ∀ t q, s.service.testTimer = some t → s.service.slot = some (.outputTest, q) →
        exec .testTimerExpiry s = .next (finish { s.advanceTo t with
          service := { s.service with slot := none, testTimer := none }
          mail := s.mail ++ [.respond q 0x30 .done [], .testEnd] })

/-! ### Profile Store -/

/-- R187, R189, R190, R192: a commit completes: its slot holds the working image with a good check and its status flag; the current
copy of the persistent area is a new one, with a save number one above the former current copy, which stands as the other copy, and
with the committed slot as active slot; the slot is active, every MODE record shows it and the fallback flag is clear; the timed
command ends with DONE. The items are those its save took when it began; a commit whose completion comes while it stands in an
earlier step has done its steps by then, and its save takes the items at that moment and clears the changed flag (the model's
choice, log 10, log 27). A persistence save completes: the copy it wrote, with the items and the slot it took when it began, is
current in the same way. Each clears the store-failure flag and a reported 0xF003. A waiting operation begins before the reports
sent here are taken (the model's choice, log 46). -/
def Obligations.CommitAndSaveComplete : Prop :=
  ∀ s : State,
    let cleared : List Notice := if s.store.reportedFailure then [.report (.clear 0xF003 .profileStore)] else []
    let ends := fun (n : Fin 4) (items : Persistent) (v : State) =>
      exec .commitComplete s = .next (finish v.beginOperation)
        ∧ v = { s with
            store := v.store, control := v.control, faults := v.faults, service := v.service, mail := v.mail
            display := v.display }
        ∧ s.OnlyModeWritten { s with control := v.control, display := v.display }
        ∧ v.store.current = ⟨items, n, s.store.current.number + 1, true⟩ ∧ v.store.other = s.store.current
        ∧ v.store.operation = none ∧ v.store.waiting = s.store.waiting ∧ v.store.failure = false
        ∧ v.store.reportedFailure = false ∧ v.store.reportedFallback = false
        ∧ v.control = { s.control with activeSlot := n, fallback := false } ∧ v.service.slot = none
        ∧ (∀ c p, s.service.slot = some (c, p) → .respond p c.code .done [] ∈ v.mail)
        ∧ (∀ m ∈ cleared, m ∈ v.mail)
        ∧ (s.store.reportedFallback = true → .report (.clear 0xF001 .profileStore) ∈ v.mail)
    (∀ n items, s.store.operation = some (.commitSave n items) → ∃ v : State, ends n items v
        ∧ v.store.slots = s.store.slots ∧ v.store.status = s.store.status ∧ v.faults = s.faults)
    ∧ (∀ n k, s.store.operation = some (.commit n k) → ∃ v : State, ends n s.faults.items v
        ∧ v.store.slots = s.store.slots.set n ⟨some s.image, true⟩ ∧ v.store.status = s.store.status.set n true
        ∧ v.faults = { s.faults with changed := false })
    ∧ ∀ items slot, s.store.operation = some (.save items slot) →
      ∃ v : State, exec .persistenceSaveComplete s = .next (finish v.beginOperation)
        ∧ v.store.current = ⟨items, slot, s.store.current.number + 1, true⟩ ∧ v.store.other = s.store.current
        ∧ v.store.operation = none ∧ v.store.waiting = s.store.waiting ∧ v.store.failure = false
        ∧ v.store.slots = s.store.slots ∧ v.store.status = s.store.status ∧ v.mail = s.mail ++ cleared
        ∧ v = { s with store := v.store, mail := v.mail }

/-- R188: a select read that finds a bad check, or no image, clears the slot's flag and ends with STORE_FAILED, mode, image and
active slot unchanged. One that finds a good image sets the flag and goes on to the save of the slot number. The operand that says
whether the save is done in the same step is the model's (log 11). A waiting operation begins before the reports sent here are taken
(the model's choice, log 46). -/
def Obligations.SelectReadCompletes : Prop :=
  ∀ (n : Fin 4) (saved : Bool) (s : State), s.store.operation = some (.selectRead n) →
    let slot := s.store.slots.get n
    (slot.image = none ∨ slot.checkAgrees = false →
      ∃ v : State, exec (.selectReadComplete saved) s = .next (finish v.beginOperation)
        ∧ v.store = { s.store with
            status := s.store.status.set n false, operation := none, failure := false, reportedFailure := false }
        ∧ v = { s with store := v.store, service := v.service, mail := v.mail } ∧ v.service.slot = none
        ∧ ∀ c p, s.service.slot = some (c, p) → .respond p c.code .storeFailed [] ∈ v.mail)
    ∧ (∀ image, slot.image = some image → slot.checkAgrees = true →
      exec (.selectReadComplete false) s = .next (finish { s with
        store := { s.store.spoil with
          status := s.store.status.set n true, operation := some (.selectSave n s.faults.items) }
        faults := { s.faults with changed := false } }))

/-- R188, R193: with the save of the slot number done (by its own completion, or within the step of a good read) the image is the
working image and the running configuration, its slot is active, and the part has left CONFIGURING by the ignition as it stood; the
saved copy is current; the timed command is over. The two ways to its end are the model's choice (log 11). A waiting operation
begins before the reports sent here are taken (the model's choice, log 46). -/
def Obligations.SelectCompletes : Prop :=
  ∀ (n : Fin 4) (items : Persistent) (image : Image) (s : State), s.control.mode = .configuring →
    (s.store.slots.get n).image = some image →
    let ends := fun (o : Host.Outcome State Fault Refusal) => ∃ v : State, o = .next (finish v.beginOperation)
      ∧ v.image = image ∧ v.running = image
      ∧ v.control.mode = (if s.ignition then .active else .standby)
      ∧ v.control.activeSlot = n ∧ v.control.fallback = false
      ∧ v.store.current = ⟨items, n, s.store.current.number + 1, true⟩
      ∧ v.service.slot = none ∧ v.service.endDue = false
      ∧ ∀ c p, s.service.slot = some (c, p) → .respond p c.code .done [] ∈ v.mail
    (s.store.operation = some (.selectSave n items) → ends (exec .persistenceSaveComplete s))
    ∧ (s.store.operation = some (.selectRead n) → (s.store.slots.get n).checkAgrees = true → items = s.faults.items →
        ends (exec (.selectReadComplete true) s))

/-- R186 to R190: a write failure ends the running operation, sets the store-failure flag and raises 0xF003 once. A commit that
fails before its save leaves its slot without a valid image; one that fails in its save leaves the slot valid. A failed save, of a
commit or a select too, leaves the copy it was writing not valid, the current copy as it was, and the changed flag set. Active slot,
fallback flag, mode and working image stand, and a timed command ends with STORE_FAILED. The operand that says which step failed is
the model's: a commit that stands in an earlier step has gone on to it by then (log 10, log 11). A waiting operation begins before
the reports sent here are taken (the model's choice, log 46). -/
def Obligations.StoreFailureLeaves : Prop :=
  ∀ (op : StoreOperation) (failed : StoreStep) (s : State), s.store.operation = some op → (∀ n, op ≠ .selectRead n) →
    let early := (∃ n k, op = .commit n k) ∧ failed ≠ .save
    ∃ v : State, exec (.storeWriteFailure failed) s = .next (finish v.beginOperation)
      ∧ v.store.operation = none ∧ v.store.waiting = s.store.waiting
      ∧ v.store.failure = true ∧ v.store.reportedFailure = true
      ∧ (s.store.reportedFailure = false → .report (.raise 0xF003 .profileStore 2) ∈ v.mail)
      ∧ v = { s with store := v.store, faults := v.faults, service := v.service, mail := v.mail }
      ∧ v.store.current = s.store.current
      ∧ (early → v.store.other = s.store.other ∧ v.faults = s.faults)
      ∧ (¬early → v.store.other = { s.store.other with valid := false } ∧ v.faults = { s.faults with changed := true })
      ∧ (∀ n k, op = .commit n k →
          (∀ m, m ≠ n → v.store.slots.get m = s.store.slots.get m ∧ v.store.status.get m = s.store.status.get m)
          ∧ (failed ≠ .save → (v.store.slots.get n).checkAgrees = false ∧ v.store.status.get n = false)
          ∧ (failed = .save → v.store.slots.get n = ⟨some s.image, true⟩ ∧ v.store.status.get n = true))
      ∧ ((∀ n k, op ≠ .commit n k) → v.store.slots = s.store.slots ∧ v.store.status = s.store.status)
      ∧ ((∀ items slot, op ≠ .save items slot) → v.service.slot = none
          ∧ ∀ c p, s.service.slot = some (c, p) → .respond p c.code .storeFailed [] ∈ v.mail)
      ∧ (∀ items slot, op = .save items slot → v.service = s.service)

/-! ### Sleep and running time -/

/-- R144, R189, R192: the sleep timer's expiry takes the part to SLEEP when the all-closed summary last reported is 1: the ports on
the bus listen, receive timers, queues, frames in flight and the scan stop, the SLEEP scan starts, the display link is IDLE, the
interlock asserted. Otherwise the timer starts anew by the sleep delay of the working image and nothing else happens. In ACTIVE the
running time advances by one second when the remainder reaches 1000 ms: the remainder returns to 0, the count saturates at
4294967295 and a change of it marks the changed flag. An update event of the ignition takes STANDBY to ACTIVE when it makes the
ignition asserted, and ACTIVE to STANDBY when it carries the value 0, VALID or SUBSTITUTED; no other update event changes the mode.
An entry to a mode sets it, stops the sleep timer, starts it in STANDBY and writes the MODE records. An entry to ACTIVE sends the
wear event IGNITION_CYCLE, which the Fault Unit counts, and has it make its heal pass after that; one to STANDBY, or to SLEEP with
the changed flag set, requests a save, which joins one that waits, waits behind a running operation, or begins at once with the
items as they stand, before the blocks' reports of the change of mode are taken (the model's choice, log 7). A wake in SLEEP
re-initializes the part on the working image, and the ignition as it stands then decides between ACTIVE and STANDBY; the listening
ports return to the bus by their counters. Outside SLEEP a wake does nothing. -/
def Obligations.SleepAndRunningTime : Prop :=
  (∀ (s : State) (t : Nat), s.control.sleepTimer = some t →
    let v := s.advanceTo t
    (s.control.allClosed = false → exec .sleepTimerExpiry s = .next (finish { v with
        control := { v.control with sleepTimer := some (v.now + s.image.general.sleepDelay * 1000) } }))
    ∧ (s.control.allClosed = true → ∃ u, exec .sleepTimerExpiry s = .next (finish u)
        ∧ u.control.mode = .sleep ∧ u.control.sleepTimer = none ∧ u.doors.interlock = true
        ∧ (∀ p, (u.frames.ports.get p).state = (match (s.frames.ports.get p).state with
            | .errorActive | .errorPassive => .listen
            | st => st))
        ∧ (∀ e, (u.frames.entries.get e).timer = .stopped)
        ∧ (∀ p, (u.outbound.ports.get p).forward = [] ∧ (u.outbound.ports.get p).response = []
            ∧ (u.outbound.ports.get p).flight = none)
        ∧ (∀ e, u.outbound.schedule.get e = ⟨0, none⟩)
        ∧ u.inputs.scanTimer = none ∧ u.inputs.sleepTimer = some (v.now + 100) ∧ u.gauges.updateTimer = none
        ∧ (∀ p, u.service.ports.get p = ⟨none, none, none⟩)
        ∧ u.display.link = .idle ∧ u.display.refresh = none ∧ u.display.stall = none
        ∧ u.lamps.stepTimer = none ∧ u.lamps.bulbTimer = none ∧ u.image = s.image ∧ u.signals = s.signals))
  ∧ (∀ s : State, s.control.mode = .active → s.control.remainder ≤ 1000 → s.faults.items.seconds ≤ 4294967295 →
    ∃ u, exec .runningTimeSecond s = .next (finish u)
      ∧ u.control = { s.control with remainder := 0 } ∧ u.now = s.now + (1000 - s.control.remainder)
      ∧ u.faults.items = { s.faults.items with seconds := min 4294967295 (s.faults.items.seconds + 1) }
      ∧ u.faults.changed = (s.faults.changed || decide (s.faults.items.seconds < 4294967295))
      ∧ u = { s with
          now := u.now, control := u.control, faults := u.faults
          warnings := { s.warnings with stack := u.warnings.stack } })
  ∧ (∀ (m : Mode) (s : State), (s.enterMode m).control = { s.control with
        mode := m, sleepTimer := if m = .standby then some (s.now + s.image.general.sleepDelay * 1000) else none }
      ∧ (s.enterMode m).image = s.image ∧ (s.enterMode m).running = s.running ∧ (s.enterMode m).signals = s.signals
      ∧ s.ShowsMode (s.enterMode m)
      ∧ (m = .active → (s.enterMode m).store = s.store
          ∧ (s.faults.started = true → let b := ignitionCycle s (takeWear .ignitionCycle 0 s ⟨s.faults, []⟩)
              (s.enterMode m).faults = b.st ∧ ∃ rest, (s.enterMode m).mail = s.mail ++ b.out ++ rest))
      ∧ (m = .standby ∨ (m = .sleep ∧ s.faults.changed = true) →
          (.save ∈ s.store.waiting → (s.enterMode m).store = s.store ∧ (s.enterMode m).faults = s.faults)
          ∧ (.save ∉ s.store.waiting → s.store.operation ≠ none → (s.enterMode m).faults = s.faults
              ∧ (s.enterMode m).store = { s.store with waiting := s.store.waiting ++ [.save] })
          ∧ (s.store.waiting = [] → s.store.operation = none →
              (s.enterMode m).faults = { s.faults with changed := false }
              ∧ ∃ slot, (s.enterMode m).store.operation = some (.save s.faults.items slot)
                ∧ (s.control.fallback = false → slot = s.control.activeSlot)
                ∧ (s.enterMode m).store.waiting = [] ∧ (s.enterMode m).store.current = s.store.current
                ∧ (s.enterMode m).store.other = { s.store.other with valid := false }
                ∧ (s.enterMode m).store.slots = s.store.slots ∧ (s.enterMode m).store.status = s.store.status))
      ∧ (m = .configuring ∨ (m = .sleep ∧ s.faults.changed = false) →
          (s.enterMode m).store = s.store ∧ (s.enterMode m).faults = s.faults))
  ∧ (∀ (i : Fin 256) (e : Effective) (s : State),
      let ignition := s.running.general.ignition = i
      (ignition → s.control.mode = .standby → e.status ≠ .invalid → e.value ≠ 0 →
          s.followIgnition i e = s.enterMode .active)
      ∧ (ignition → s.control.mode = .active → e.status ≠ .invalid → e.value = 0 →
          s.followIgnition i e = s.enterMode .standby)
      ∧ (¬ignition ∨ e.status = .invalid ∨ (s.control.mode ≠ .standby ∧ s.control.mode ≠ .active)
          ∨ (s.control.mode = .standby ∧ e.value = 0) ∨ (s.control.mode = .active ∧ e.value ≠ 0) →
          s.followIgnition i e = s))
  ∧ ∀ s : State, (s.control.mode ≠ .sleep → handle .wake s = s)
      ∧ (s.control.mode = .sleep →
          let u := handle .wake s
          u.image = s.image ∧ u.running = s.image
          ∧ (∀ i, u.signals.get i = resolved s.image u.signals i)
          ∧ u.control.mode = (if u.ignition then .active else .standby)
          ∧ (∀ e, u.frames.entries.get e =
              let cfg := s.image.frames.get e
              ⟨.waiting, if cfg.enabled ∧ cfg.timeout ≠ 0 then .running (s.now + cfg.timeout * 10) else .stopped, 0, 0, none⟩)
          ∧ (∀ p, let r := s.frames.ports.get p
              u.frames.ports.get p = (if r.state = .listen then
                { r with state := if 128 ≤ r.transmitErrors ∨ 128 ≤ r.receiveErrors then .errorPassive else .errorActive }
              else r)))

/-! ### Wired inputs -/

/-- R45, R47, R48, R53 to R55, R58: at a scan each covered discrete channel compares the class of its sample with its candidate,
counts it up to the debounce count, and takes it when the count is reached; each covered analog channel adds its sample to the last
ones, and with enough of them its fault latch is whether their floored mean lies outside the limits. A channel that the scan does
not cover stands. What each channel sends is sent; the next scan is one scan period later. An analog channel sends: with its mean in
the window the write of the mean scaled by its gain, shift and offset and cut to the target's limits, with the qualifier, and the
clear of a standing report under a set latch; with its mean outside the write of WIRE_FAULT, INPUT_WIRE_FAULT when the latch was
clear, and the raise when there is a code and no report; its target is written only while its source names the channel, and with too
few samples nothing is written. Nothing else is sent, but the re-report of a channel that is due (log 22). -/
def Obligations.ScanSamples : Prop :=
  (∀ (levels : Tab 24 Nat) (samples : Tab 8 Nat) (t : Nat) (s : State), s.inputs.scanTimer = some t →
    ∃ u, exec (.scan levels samples) s = .next (finish u)
      ∧ u.inputs.scanTimer = some (u.now + s.running.general.scanPeriod) ∧ u.now = max s.now t
      ∧ (∀ n, let cfg := s.running.discretes.get n
          let before := s.inputs.discretes.get n
          let after := u.inputs.discretes.get n
          let c := classify cfg.supervised (levels.get n)
          (cfg.target = none → cfg.wake = false → after = before)
          ∧ (cfg.target ≠ none ∨ cfg.wake = true →
              let a := sampleDiscrete s.image n cfg (levels.get n) before
              after = a.1 ∧ (∀ m ∈ a.2, m ∈ u.mail)
              ∧ after.candidate = some c
              ∧ after.count = (if before.candidate = some c then min cfg.debounce (before.count + 1) else 1)
              ∧ after.taken = (if after.count = cfg.debounce then some c else before.taken)))
      ∧ (∀ n, let cfg := s.running.analogs.get n
          let before := s.inputs.analogs.get n
          let after := u.inputs.analogs.get n
          let history := before.history ++ [samples.get n]
          (cfg.target = none → after = before)
          ∧ (∀ i, cfg.target = some i →
              let a := sampleAnalog s.image n cfg i (samples.get n) before
              after = a.1 ∧ ∀ m ∈ a.2, m ∈ u.mail)
          ∧ (cfg.target ≠ none → before.history.length ≤ cfg.averaging → 1 ≤ cfg.averaging →
              (history.length ≤ cfg.averaging → after.history = history)
              ∧ (history.length = cfg.averaging + 1 → after.history = history.tail)
              ∧ (after.history.length < cfg.averaging → after.latch = before.latch)
              ∧ (after.history.length = cfg.averaging →
                  let mean := after.history.sum / cfg.averaging
                  after.latch = decide (mean < cfg.low ∨ cfg.high < mean))))
      ∧ (∀ m, m ∈ u.mail → m ∈ s.mail
          ∨ (∃ n, let cfg := s.running.discretes.get n
              (cfg.target ≠ none ∨ cfg.wake = true)
                ∧ m ∈ (sampleDiscrete s.image n cfg (levels.get n) (s.inputs.discretes.get n)).2)
          ∨ ∃ n i, (s.running.analogs.get n).target = some i
              ∧ m ∈ (sampleAnalog s.image n (s.running.analogs.get n) i (samples.get n) (s.inputs.analogs.get n)).2)
      ∧ u = { s.advanceTo t with inputs := u.inputs, mail := u.mail })
    ∧ ∀ (img : Image) (n : Fin 8) (cfg : AnalogConfig) (i : Fin 256) (sample : Nat) (r : AnalogRun), cfg.target = some i →
        let a := sampleAnalog img n cfg i sample r
        let enough := cfg.averaging ≤ a.1.history.length
        let mean : Nat := a.1.history.sum / cfg.averaging
        let inside := cfg.low ≤ mean ∧ mean ≤ cfg.high
        let named := (img.signals.get i).source = .analog n
        (enough → inside →
            (named →
              let limits := img.signals.get i
              let v := scale cfg.gain cfg.shift cfg.offset mean
              .write i (.converted (clamp limits.min limits.max v) (decide (clamp limits.min limits.max v ≠ v))) ∈ a.2)
            ∧ (r.latch = true → a.1.reported = none)
            ∧ ∀ code, r.latch = true → r.reported = some code → .report (.clear code (.analog n)) ∈ a.2)
        ∧ (enough → ¬inside →
            (named → .write i (.status .wireFault) ∈ a.2)
            ∧ (.report (.wear .inputWireFault (24 + n.val)) ∈ a.2 ↔ r.latch = false)
            ∧ ∀ f, cfg.fault = some f → r.reported = none → r.due = false →
                a.1.reported = some f.code ∧ .report (.raise f.code (.analog n) f.severity) ∈ a.2)
        ∧ (¬enough ∨ ¬named → ∀ j w, .write j w ∉ a.2)
        ∧ (r.due = false ∨ r.latch = false →
            let writes := fun w : SignalWrite => if named then [Notice.write i w] else []
            (¬enough → a.2 = [])
            ∧ (enough → inside → a.2 = writes (converted (img.signals.get i) (scale cfg.gain cfg.shift cfg.offset mean))
                ++ (match r.latch, r.reported with | true, some code => [.report (.clear code (.analog n))] | _, _ => []))
            ∧ (enough → ¬inside → a.2 = writes (.status .wireFault)
                ++ (if r.latch then [] else [.report (.wear .inputWireFault (24 + n.val))])
                ++ (match r.reported, cfg.fault with
                    | none, some f => [.report (.raise f.code (.analog n) f.severity)]
                    | _, _ => [])))
        ∧ (r.due = true → r.latch = true → ∀ m, m ∈ a.2 →
            (∃ w, m = .write i w) ∨ (∃ code, m = .report (.clear code (.analog n)))
              ∨ (∃ f, (img.analogs.get n).fault = some f ∧ m = .report (.raise f.code (.analog n) f.severity))
              ∨ ∃ f, cfg.fault = some f ∧ m = .report (.raise f.code (.analog n) f.severity))

/-- R47 with Table 3-4, R49 to R51, R58, R59: the class limits; and what a taken class does: LOW and HIGH clear the latch, end the
report and write 1 or 0 by the active level; a wire fault writes WIRE_FAULT, sets the latch, counts INPUT_WIRE_FAULT when the latch
was clear and raises the fault when it is not reported. The target is written only while its source names the channel: a channel
without a target, or whose target has another source, does the rest and writes nothing. A channel that is due to report again, by
CLEAR FAULTS or by a re-initialization that changed its code, does so at its next scan if its latch is set and its report clear,
under the working image's code, and is not due after it (the mark of this is the model's, log 22); one that is not due, or whose
latch is clear, sends nothing while its sample is of the class taken or of a class still bouncing. -/
def Obligations.DiscreteClassTaken : Prop :=
  (∀ level, (classify true level = .groundShort ↔ level < 100) ∧ (classify true level = .low ↔ 100 ≤ level ∧ level < 450)
      ∧ (classify true level = .high ↔ 450 ≤ level ∧ level < 850) ∧ (classify true level = .openWire ↔ 850 ≤ level)
      ∧ (classify false level = .low ↔ level < 500) ∧ (classify false level = .high ↔ 500 ≤ level))
    ∧ (∀ (img : Image) (n : Fin 24) (cfg : DiscreteConfig) (r : DiscreteRun),
        let writes := fun w : SignalWrite => match cfg.target with
          | some i => if (img.signals.get i).source = .discrete n then [Notice.write i w] else []
          | none => []
        (∀ c, c = .low ∨ c = .high →
          takeClass img n cfg c r = ({ r with taken := some c, latch := false, reported := none },
            writes (.bare (if decide (c = .high) = cfg.activeHigh then 1 else 0))
              ++ (match r.reported with | some code => [.report (.clear code (.discrete n))] | none => [])))
        ∧ (∀ c, c = .groundShort ∨ c = .openWire →
          let a := takeClass img n cfg c r
          a.1.taken = some c ∧ a.1.latch = true
          ∧ (∀ w, w ∈ writes (.status .wireFault) → w ∈ a.2)
          ∧ (∀ i w, .write i w ∈ a.2 → .write i w ∈ writes (.status .wireFault))
          ∧ (.report (.wear .inputWireFault n.val) ∈ a.2 ↔ r.latch = false)
          ∧ (∀ f, cfg.fault = some f → r.reported = none →
              a.1.reported = some f.code ∧ .report (.raise f.code (.discrete n) f.severity) ∈ a.2))
        ∧ (∀ i, cfg.target = some i → (img.signals.get i).source = .discrete n → ∀ w, writes w = [.write i w])
        ∧ ((∀ i, cfg.target = some i → (img.signals.get i).source ≠ .discrete n) → ∀ c i w,
            .write i w ∉ (takeClass img n cfg c r).2))
    ∧ ∀ (img : Image) (n : Fin 24) (cfg : DiscreteConfig) (level : Nat) (r : DiscreteRun),
        let a := sampleDiscrete img n cfg level r
        a.1.due = false
        ∧ (r.due = true → r.latch = true → r.reported = none → ∀ f, (img.discretes.get n).fault = some f →
            .report (.raise f.code (.discrete n) f.severity) ∈ a.2)
        ∧ (r.due = false ∨ r.latch = false →
            r.taken = some (classify cfg.supervised level) ∨ a.1.count ≠ cfg.debounce →
            a.2 = [] ∧ a.1.reported = r.reported ∧ a.1.latch = r.latch ∧ a.1.taken = r.taken)

/-- R56: at a scan in SLEEP each wake-capable channel debounces its class beside its wake reference; a debounced class becomes the
reference, and where it differs from the one before it is a wake report. A scan that finds no such difference sends nothing, and
none sends anything but wake reports. No other channel changes. -/
def Obligations.SleepScanWatches : Prop :=
  ∀ (levels : Tab 24 Nat) (t : Nat) (s : State), s.inputs.sleepTimer = some t →
    ∃ u, exec (.sleepScan levels) s = .next (finish u)
      ∧ u.inputs.sleepTimer = some (u.now + 100) ∧ u.inputs.scanTimer = s.inputs.scanTimer
      ∧ u.inputs.analogs = s.inputs.analogs ∧ u = { s.advanceTo t with inputs := u.inputs, mail := u.mail }
      ∧ (∀ n, let cfg := s.running.discretes.get n
          let before := s.inputs.discretes.get n
          let after := u.inputs.discretes.get n
          let c := classify cfg.supervised (levels.get n)
          (cfg.wake = false → after = before)
          ∧ (cfg.wake = true →
              after.taken = before.taken ∧ after.latch = before.latch ∧ after.wakeCandidate = some c
              ∧ after.wakeCount = (if before.wakeCandidate = some c then min cfg.debounce (before.wakeCount + 1) else 1)
              ∧ after.wakeRef = (if after.wakeCount = cfg.debounce then some c else before.wakeRef)
              ∧ (∀ ref, before.wakeRef = some ref → after.wakeCount = cfg.debounce → ref ≠ c → .wake ∈ u.mail)))
      ∧ (∀ m, m ∈ u.mail → m ∈ s.mail ∨ m = .wake)
      ∧ ((∀ n ref, (s.running.discretes.get n).wake = true → (s.inputs.discretes.get n).wakeRef = some ref →
            (u.inputs.discretes.get n).wakeCount = (s.running.discretes.get n).debounce →
            ref = classify (s.running.discretes.get n).supervised (levels.get n)) →
          u.mail = s.mail)

/-! ### Doors -/

/-- R66, R70, R71: the expiry of a door's travel timer or plausibility timer takes the door to FAULT, with neither timer running,
and where it was not in FAULT it sends DOOR_FAULT and the activity report. No other door changes. A re-report that CLEAR FAULTS had
made due is not due after it (the mark `due` of that is the model's own, log 18). -/
def Obligations.DoorTimersFault : Prop :=
  ∀ (d : Fin 6) (t : Nat) (s : State),
    let ends := fun (o : Host.Outcome State Fault Refusal) => ∃ u : State, o = .next (finish u)
      ∧ u = { s.advanceTo t with doors := u.doors, mail := u.mail }
      ∧ (u.doors.doors.get d).state = .fault ∧ (u.doors.doors.get d).travel = none
      ∧ (u.doors.doors.get d).plausibility = none ∧ (u.doors.doors.get d).due = false
      ∧ (u.doors.doors.get d).views = (s.doors.doors.get d).views
      ∧ (∀ k, k ≠ d → u.doors.doors.get k = s.doors.doors.get k)
      ∧ ((s.doors.doors.get d).state ≠ .fault →
          .report (.wear .doorFault d.val) ∈ u.mail ∧ .activity ∈ u.mail
          ∧ (∀ f, (s.image.doors.get d).fault = some f → (s.doors.doors.get d).reported = none →
              .report (.raise f.code (.door d) f.severity) ∈ u.mail)
          ∧ ((s.running.doors.get d).enabled = true → u.doors.allClosed = false ∧ u.doors.interlock = true))
    ((s.doors.doors.get d).travel = some t → ends (exec (.travelTimerExpiry d) s))
      ∧ ((s.doors.doors.get d).plausibility = some t → ends (exec (.plausibilityTimerExpiry d) s))

/-- R64 to R79: the state after an evaluation. An asserted handle gives EMERGENCY from any state. Else an invalid required sensor
gives UNKNOWN but leaves EMERGENCY and FAULT. Else both sensors asserted change no state and start the plausibility timer. Else a
closed picture gives RELEASED while the release is asserted and CLOSED otherwise, from any state; an open one OPEN, but EMERGENCY
stays; a midway one takes CLOSED and RELEASED to OPENING (with an open sensor), leaves OPENING, EMERGENCY and FAULT, and gives any
other state CLOSING, or REVERSING while the edge is asserted. The edges are read as log 18 says. At the first evaluation after CLEAR
FAULTS a door in FAULT raises its fault again (R74), and no evaluation after that does; an evaluation that changes no state sends
nothing else. A state change stops the plausibility timer, starts the travel timer on entry to a transit state and stops it
otherwise, takes the closing start on entry to CLOSING, and sets or clears the reached-open flag; it sends the lamp map entry, the
door activity, the state signal's code where that signal's source names the door, DOOR_CYCLE for a completed closing with the flag
set, DOOR_SLOW_CLOSE for one longer than the threshold (of a closing start that stands: log 18) and never DOOR_FAULT, and clears a
standing report on leaving FAULT. After a state change, and only then, the summaries are evaluated: all-closed and
open-while-moving, the interlock, each signal written and the Mode Controller told where its value has changed, and the DOORS
records written. The Mode Controller takes the all-closed summary as told, and nothing else changes for it. -/
def Obligations.DoorEvaluated : Prop :=
  (∀ (img : Image) (d : Fin 6) (cfg : DoorConfig) (now : Nat) (r : DoorRun),
    let v := r.views
    let u := (evaluateDoor img d cfg now r).1
    let sent := (evaluateDoor img d cfg now r).2
    let required := v.closed = some .invalid
      ∨ (if cfg.opened ≠ none then v.opened = some .invalid else v.release = some .invalid)
    let both := cfg.opened ≠ none ∧ v.closed = some .asserted ∧ v.opened = some .asserted
    let openNow := if cfg.opened ≠ none then v.opened = some .asserted
      else v.closed = some .notAsserted ∧ v.release = some .asserted
    let closedNow := v.closed = some .asserted
    let moving : DoorState := if v.edge = some .asserted then .reversing else .closing
    (v.handle = some .asserted → u.state = .emergency)
    ∧ (v.handle ≠ some .asserted → required →
        u.state = (if r.state = .emergency ∨ r.state = .fault then r.state else .unknown) ∧ u.plausibility = none)
    ∧ (v.handle ≠ some .asserted → ¬required → both → u.state = r.state
        ∧ (r.state ≠ .fault → r.plausibility = none → u.plausibility = some (now + 200)))
    ∧ (v.handle ≠ some .asserted → ¬required → ¬both →
        u.plausibility = none
        ∧ (¬openNow → closedNow → u.state = (if v.release = some .asserted then .released else .closed))
        ∧ (openNow → u.state = (if r.state = .emergency then .emergency else .opened))
        ∧ (¬openNow → ¬closedNow →
            (r.state = .opening ∨ r.state = .emergency ∨ r.state = .fault → u.state = r.state)
            ∧ (r.state = .closed ∨ r.state = .released →
                u.state = (if cfg.opened ≠ none then .opening else moving))
            ∧ (r.state = .unknown ∨ r.state = .opened ∨ r.state = .closing ∨ r.state = .reversing → u.state = moving)))
    ∧ u.due = false
    ∧ (r.due = true → r.state = .fault → r.reported = none → ∀ f, (img.doors.get d).fault = some f →
        .report (.raise f.code (.door d) f.severity) ∈ sent ∧ (u.state = .fault → u.reported = some f.code))
    ∧ (r.due = false ∨ r.state ≠ .fault → u.state = r.state → sent = [] ∧ u.reported = r.reported)
    ∧ (u.state = r.state →
        u = { r with reported := u.reported, due := false, plausibility := u.plausibility })
    ∧ (u.state ≠ r.state →
        let lamp := (cfg.lampMap.list[u.state.code]?).getD none
        let completed := (r.state = .closing ∨ r.state = .reversing) ∧ (u.state = .closed ∨ u.state = .released)
        u = { r with
            state := u.state, plausibility := none, due := false, request := lamp, reported := u.reported
            travel := if u.state = .opening ∨ u.state = .closing ∨ u.state = .reversing then some (now + cfg.travel * 100)
              else none
            closingStart := if u.state = .closing then some now else r.closingStart
            reachedOpen := if u.state = .opened then true
              else if u.state = .closed ∨ u.state = .released ∨ u.state = .unknown then false else r.reachedOpen }
        ∧ .doorRequest d lamp ∈ sent ∧ .activity ∈ sent
        ∧ (∀ i x, .write i x ∈ sent ↔ cfg.stateSignal = some i ∧ (img.signals.get i).source = .derived (.door d)
            ∧ x = .bare u.state.code)
        ∧ (.report (.wear .doorCycle d.val) ∈ sent ↔ completed ∧ r.reachedOpen = true)
        ∧ (.report (.wear .doorSlowClose d.val) ∈ sent ↔ completed ∧ cfg.slow ≠ 0
            ∧ ∃ t, r.closingStart = some t ∧ cfg.slow * 100 < now - t)
        ∧ .report (.wear .doorFault d.val) ∉ sent
        ∧ (∀ code, r.state = .fault → r.reported = some code →
            .report (.clear code (.door d)) ∈ sent ∧ u.reported = none)
        ∧ (r.state ≠ .fault → u.reported = r.reported)))
  ∧ (∀ (img : Image) (target : Option (Fin 256)) (p : Producer) (v : Int),
    derivedWrite img target p v = match target with
      | some i => if (img.signals.get i).source = .derived p then [.write i (.bare v)] else []
      | none => [])
  ∧ (∀ (d : Fin 6) (f : DoorRun → Told DoorRun) (s : State) (a : Acc Doors),
    let r := a.st.doors.get d
    let b : Acc Doors := ⟨{ a.st with doors := a.st.doors.set d (f r).1 }, a.out ++ (f r).2⟩
    Doors.onDoor d f s a = if (f r).1.state = r.state then b else summarize false s b)
  ∧ ∀ (always : Bool) (s : State) (a : Acc Doors),
    let u := summarize always s a
    let enabled := fun d => (s.running.doors.get d).enabled = true
    let st := fun d => (a.st.doors.get d).state
    (u.st.allClosed = true ↔ ∀ d, enabled d → st d = .closed)
    ∧ (u.st.openMoving = true ↔ s.moving = true ∧ ∃ d, enabled d ∧ st d ≠ .closed ∧ st d ≠ .released)
    ∧ (u.st.interlock = false ↔ (s.control.mode = .active ∨ s.control.mode = .standby) ∧ u.st.allClosed = true)
    ∧ u.st.doors = a.st.doors
    ∧ u.out = a.out
        ++ (if always = true ∨ u.st.allClosed ≠ a.st.allClosed then
            derivedWrite s.image s.running.general.allClosed .allClosed (if u.st.allClosed then 1 else 0)
              ++ [.allClosed u.st.allClosed]
          else [])
        ++ (if always = true ∨ u.st.openMoving ≠ a.st.openMoving then
            derivedWrite s.image s.running.general.openMoving .openMoving (if u.st.openMoving then 1 else 0)
          else [])
        ++ [.record .doors ([byte (st 0).code, byte (st 1).code, byte (st 2).code, byte (st 3).code, byte (st 4).code,
            byte (st 5).code, flagByte u.st.allClosed] ++ List.replicate 5 0)]
    ∧ ∀ b, handle (.allClosed b) s = { s with control := { s.control with allClosed := b } }

/-! ### Gauges -/

/-- R84 to R101: a gauge update handles every gauge in use once and starts the next period, 20 ms later; the homing timer's expiry
puts an in-use gauge at position, filter, demand and target 0 and into SETTLING, or SWEEP with a sweep pending, in ACTIVE, and into
PARKING in any other mode. No other gauge changes. An update leaves an UNHOMED, HOMING or PARKED gauge as it stands. In TRACKING the
target is the characteristic's, the filter damped toward it, the demand floor((F + 8) / 16) but FS at most; in FALLBACK target and
demand stand (HOLD) or are the rest position or the fallback value; in SETTLING, PARKING and the phases of SWEEP they are the phase
target, and at that target the state or the phase goes on. The position moves to the demand by the slew at most. An update event of
the source gives the view, and takes TRACKING to FALLBACK and FALLBACK to TRACKING, reseeded. A change of mode acts by Table 5-7,
with GAUGE_HOMING for a gauge that begins homing and none else; an output test begins and ends a test sweep; a re-initialization
leaves an unchanged gauge but for its view and makes a changed one UNHOMED at 0, and starts the update timer. A GAUGE record shows
every change of position, demand or state. An entry to a mode and a re-initialization do this to the gauges; the notices of a start
and of an end of an output test do it and have the lamps and the buzzer resolved, and nothing else (that the gauges come first is
the model's choice, log 6). -/
def Obligations.GaugeTimersExpire : Prop :=
  (∀ (t : Nat) (s : State),
    let v := s.advanceTo t
    (s.gauges.updateTimer = some t → ∃ u, exec .gaugeUpdate s = .next (finish u)
      ∧ u = { v with gauges := u.gauges, mail := u.mail } ∧ u.gauges.updateTimer = some (v.now + 20)
      ∧ ∀ g, let cfg := s.running.gauges.get g
          u.gauges.gauges.get g = (if cfg.inUse then updateGauge cfg (s.gauges.gauges.get g) else s.gauges.gauges.get g))
    ∧ ∀ g, (s.gauges.gauges.get g).homing = some t → (s.running.gauges.get g).inUse = true →
        ∃ u, exec (.homingTimerExpiry g) s = .next (finish u)
          ∧ u = { v with gauges := u.gauges, mail := u.mail }
          ∧ (∀ k, k ≠ g → u.gauges.gauges.get k = s.gauges.gauges.get k) ∧ u.gauges.updateTimer = s.gauges.updateTimer
          ∧ let r := s.gauges.gauges.get g
            let r' := u.gauges.gauges.get g
            r'.position = 0 ∧ r'.filter = 0 ∧ r'.demand = 0 ∧ r'.target = 0 ∧ r'.homing = none ∧ r'.view = r.view
            ∧ r'.state = (if s.control.mode = .active then (if r.sweepPending then .sweep else .settling) else .parking)
            ∧ (s.control.mode = .active → r'.sweepPending = false ∧ (r.sweepPending = true → r'.phase = .up)))
  ∧ (∀ (cfg : GaugeConfig) (r : GaugeRun),
    let u := updateGauge cfg r
    let reached := fun d : Nat =>
      if r.position ≤ d then min d (r.position + cfg.slew) else max d (r.position - cfg.slew)
    let moved := fun d : Nat => { r with target := d, demand := d, position := reached d }
    (r.state = .tracking →
      let t := interpolate cfg.points r.view.value
      let f := damp cfg.damping t r.filter
      let d := min cfg.fs ((f + 8) / 16)
      u = { r with target := t, filter := f, demand := d, position := reached d })
    ∧ (r.state = .fallback →
      (cfg.fallback = .hold → u = { r with position := reached r.demand })
      ∧ (cfg.fallback = .rest → u = moved cfg.rest)
      ∧ ∀ v, cfg.fallback = .position v → u = moved v)
    ∧ (r.state = .settling →
      (reached cfg.rest ≠ cfg.rest → u = moved cfg.rest)
      ∧ (reached cfg.rest = cfg.rest → u = if r.sweepPending then (moved cfg.rest).sweeping else (moved cfg.rest).showing))
    ∧ (r.state = .sweep → r.phase = .up →
      u = if reached cfg.fs = cfg.fs then { moved cfg.fs with phase := .down } else moved cfg.fs)
    ∧ (r.state = .sweep → r.phase = .down →
      u = if reached cfg.rest = cfg.rest then (moved cfg.rest).showing else moved cfg.rest)
    ∧ (r.state = .parking →
      u = if reached cfg.rest = cfg.rest then { moved cfg.rest with state := .parked, coils := false } else moved cfg.rest)
    ∧ (r.state = .unhomed ∨ r.state = .homing ∨ r.state = .parked → u = r))
  ∧ (∀ s : State,
    let tested := fun f : State → Acc Gauges → Acc Gauges =>
      let a := f s ⟨s.gauges, []⟩
      let b := relight s ⟨s.lamps, []⟩
      { s with gauges := a.st, lamps := b.st, mail := s.mail ++ a.out ++ b.out }
    handle .testStart s = tested gaugeTestStart ∧ handle .testEnd s = tested gaugeTestEnd
    ∧ (∀ m, let a := gaugeMode s.control.mode m s ⟨s.gauges, []⟩
        (s.enterMode m).gauges = a.st ∧ ∃ before after, (s.enterMode m).mail = s.mail ++ before ++ a.out ++ after)
    ∧ ∀ starting, let v := s.reinit starting
        let a := reinitGauges s.running v ⟨s.gauges, []⟩
        v.gauges = a.st ∧ ∃ before after, v.mail = s.mail ++ before ++ a.out ++ after)
  ∧ ∀ (s : State) (a : Acc Gauges) (g : Fin 6),
    let cfg := s.running.gauges.get g
    let r := a.st.gauges.get g
    let at' := fun u : Acc Gauges => u.st.gauges.get g
    let record := fun x : GaugeRun =>
      Notice.record (.gauge g) (leBytes 2 x.position ++ leBytes 2 x.demand ++ [byte x.state.code, byte g.val]
        ++ List.replicate 6 0)
    let shows := fun u : Acc Gauges =>
      (at' u).position ≠ r.position ∨ (at' u).demand ≠ r.demand ∨ (at' u).state ≠ r.state → record (at' u) ∈ u.out
    (cfg.inUse = false → (∀ i e, at' (gaugeSignal i e s a) = r) ∧ (∀ m m', at' (gaugeMode m m' s a) = r)
      ∧ at' (gaugeTestStart s a) = r ∧ at' (gaugeTestEnd s a) = r)
    ∧ shows (takeGaugeUpdate s a) ∧ shows (gaugeTestStart s a) ∧ shows (gaugeTestEnd s a) ∧ shows (homed g s a)
    ∧ (∀ i e, shows (gaugeSignal i e s a)) ∧ (∀ m m', shows (gaugeMode m m' s a))
    ∧ (cfg.inUse = true →
      (∀ i e, let x := { r with view := e }
        (cfg.source ≠ i → at' (gaugeSignal i e s a) = r)
        ∧ (cfg.source = i → r.state = .tracking → at' (gaugeSignal i e s a)
            = if e.status = .invalid then { x with state := .fallback, coils := true } else x)
        ∧ (cfg.source = i → r.state = .fallback → at' (gaugeSignal i e s a) = if e.status = .invalid then x else x.showing)
        ∧ (cfg.source = i → r.state ≠ .tracking → r.state ≠ .fallback → at' (gaugeSignal i e s a) = x))
      ∧ (∀ old, let due := cfg.sweep && old != .configuring
        let u := gaugeMode old .active s a
        (r.state = .unhomed → .report (.wear .gaugeHoming g.val) ∈ u.out ∧ at' u =
          { r with state := .homing, coils := true, homing := some (s.now + cfg.fs + cfg.overrun)
                   sweepPending := r.sweepPending || due })
        ∧ (r.state ≠ .unhomed → .report (.wear .gaugeHoming g.val) ∈ u.out → .report (.wear .gaugeHoming g.val) ∈ a.out)
        ∧ (r.state = .homing → at' u = { r with sweepPending := r.sweepPending || due })
        ∧ (r.state = .parking ∨ r.state = .parked → at' u = if due then r.sweeping else r.showing))
      ∧ (∀ old new, new = .standby ∨ new = .configuring ∨ new = .sleep →
        let u := gaugeMode old new s a
        let x := { r with sweepPending := false }
        (r.state = .tracking ∨ r.state = .fallback ∨ r.state = .settling ∨ r.state = .sweep → new ≠ .sleep →
          at' u = { x with state := .parking, coils := true })
        ∧ (r.state = .homing →
          at' u = if new = .standby then x else { x with state := .unhomed, coils := false, homing := none })
        ∧ (r.state = .parking → new ≠ .configuring →
          at' u = if new = .sleep then { x with state := .unhomed, coils := false } else x)
        ∧ (r.state = .unhomed ∨ r.state = .parked → new ≠ .configuring → at' u = x)
        ∧ u.st.updateTimer = if new = .sleep then none else a.st.updateTimer)
      ∧ (r.state = .tracking ∨ r.state = .fallback ∨ r.state = .sweep →
          at' (gaugeTestStart s a) = { r.sweeping with testSweep := true })
      ∧ (r.state = .settling ∨ r.state = .homing →
          at' (gaugeTestStart s a) = { r with sweepPending := true, testSweep := true })
      ∧ (r.testSweep = false → at' (gaugeTestEnd s a) = r)
      ∧ (r.testSweep = true → let x := { r with testSweep := false, sweepPending := false }
          at' (gaugeTestEnd s a) = if r.state = .sweep then x.showing else x))
    ∧ ∀ old : Image,
      let u := reinitGauges old s a
      let view := if cfg.inUse then s.eff cfg.source else r.view
      (old.gauges.get g = cfg → at' u = { r with view := view })
      ∧ (old.gauges.get g ≠ cfg → ∃ phase, at' u = ⟨.unhomed, view, 0, 0, 0, 0, phase, false, false, none, false⟩)
      ∧ u.st.updateTimer = some (s.now + 20) ∧ record (at' u) ∈ u.out

/-- R89: with a configuration that the loader accepts, an update keeps target, demand and position in 0 to FS and the filter state
in 0 to 16 FS, in every state of the gauge. Every step of the part keeps every gauge there, mode changes, homing, loads, resets and
re-initializations among them, and keeps working image, running configuration and slots such that their gauges in use are ones the
loader accepts (R83). Every step keeps each gauge's coils energized exactly in the states of Table 5-3 that energize them: off in
UNHOMED and PARKED, on in every other (R92, R97 to R100). -/
def Obligations.GaugeStaysWithinScale : Prop :=
  (∀ (cfg : GaugeConfig) (r : GaugeRun), cfg.Sound → r.Within cfg.fs → (updateGauge cfg r).Within cfg.fs)
    ∧ (∀ s t : State, s.GaugesWithin → step s = .next t → t.GaugesWithin)
    ∧ ∀ s t : State, s.CoilsFollow → step s = .next t → t.CoilsFollow

/-- R88: the damping filter. With k = 0 it is at the target at once; else it moves by the quotient truncated toward zero, by 1 at
the least; it never passes the target, and reaches it in a finite number of updates. -/
def Obligations.DampingReachesTarget : Prop :=
  ∀ k t f : Nat,
    damp 0 t f = 16 * t
    ∧ (1 ≤ k → let d : Int := 16 * (t : Int) - f
        let step := d.tdiv (2 ^ k)
        ((damp k t f : Nat) : Int) = f + (if step ≠ 0 ∨ d = 0 then step else if 0 < d then 1 else -1))
    ∧ (f ≤ 16 * t → f ≤ damp k t f ∧ damp k t f ≤ 16 * t) ∧ (16 * t ≤ f → 16 * t ≤ damp k t f ∧ damp k t f ≤ f)
    ∧ (f ≠ 16 * t → damp k t f ≠ f)
    ∧ (∃ n, Nat.repeat (damp k t) n f = 16 * t)
    ∧ ∀ fs, t ≤ fs → f ≤ 16 * fs → damp k t f ≤ 16 * fs

/-- R87: the characteristic. Below the first breakpoint its ordinate, above the last its ordinate, and between two neighbours the
ordinate of the lower plus the correction truncated toward zero, which lies between their ordinates. -/
def Obligations.InterpolationFollows : Prop :=
  ∀ (points : List (Int × Nat)) (v : Int), increasing points = true →
    (∀ x p rest, points = (x, p) :: rest → v ≤ x → interpolate points v = p)
    ∧ (∀ x p, points.getLast? = some (x, p) → x ≤ v → interpolate points v = p)
    ∧ (∀ (i : Nat) (x x' : Int) (p p' : Nat), points[i]? = some (x, p) → points[i + 1]? = some (x', p') → x ≤ v → v < x' →
        ((interpolate points v : Nat) : Int) = p + ((v - x) * ((p' : Int) - p)).tdiv (x' - x)
        ∧ min p p' ≤ interpolate points v ∧ interpolate points v ≤ max p p')
    ∧ ∀ fs, (∀ b ∈ points, b.2 ≤ fs) → interpolate points v ≤ fs

/-! ### Warnings and lamps -/

/-- R104 to R108, R110 to R113: the on-delay's expiry takes an ARMING warning to ON, unacknowledged, with a stamp and a place in the
presentation, and gives its lamp request and its fault. The off-delay's expiry takes a RELEASING warning to LATCHED, which keeps its
place, when it is latching and unacknowledged, and else to OFF, out of the presentation, its fault reported cleared. An evaluation
forms the primary truth from the view (an INVALID_WATCH by its status, a COMPARE by its operator with the hysteresis against the
truth it has, false for a signal that has delivered nothing), and the condition truth with the qualifier, an INVALID one holding. A
condition that becomes true takes OFF to ARMING with the on-delay, or to ON with none, and RELEASING and LATCHED to ON; one that
becomes false takes ARMING to OFF and ON to RELEASING with the off-delay, or with none to LATCHED or OFF. One that has not changed
leaves everything but the truths alone, and no other warning changes its state. -/
def Obligations.WarningDelaysExpire : Prop :=
  (∀ (w : Fin 64) (t : Nat) (s : State), (s.warnings.recs.get w).delay = some t →
    let r := s.warnings.recs.get w
    let cfg := s.running.warnings.get w
    (r.state = .arming → ∃ u, exec (.onDelayExpiry w) s = .next (finish u)
      ∧ u = { s.advanceTo t with warnings := u.warnings, mail := u.mail }
      ∧ (∀ k, k ≠ w → (u.warnings.recs.get k).state = (s.warnings.recs.get k).state)
      ∧ (u.warnings.recs.get w).state = .on ∧ (u.warnings.recs.get w).delay = none
      ∧ (u.warnings.recs.get w).acked = false ∧ (u.warnings.recs.get w).stamp ≠ none ∧ w ∈ u.warnings.listed
      ∧ (∀ l p, cfg.lamp = some (l, p) → .lampGive l ⟨w, cfg.level, p⟩ ∈ u.mail)
      ∧ (∀ f, cfg.fault = some f → r.reported = none →
          (u.warnings.recs.get w).reported = some f.code ∧ .report (.raise f.code (.warning w) f.severity) ∈ u.mail))
    ∧ (r.state = .releasing → cfg.latching = true → r.acked = false →
        exec (.offDelayExpiry w) s = .next (finish (let v := s.advanceTo t
          { v with warnings := { v.warnings with
              recs := v.warnings.recs.set w { r with state := .latched, delay := none } } })))
    ∧ (r.state = .releasing → cfg.latching = false ∨ r.acked = true → s.StackSound →
        ∃ u, exec (.offDelayExpiry w) s = .next (finish u)
          ∧ u = { s.advanceTo t with warnings := u.warnings, mail := u.mail }
          ∧ (∀ k, k ≠ w → u.warnings.recs.get k = s.warnings.recs.get k)
          ∧ (u.warnings.recs.get w).state = .off ∧ (u.warnings.recs.get w).delay = none
          ∧ (u.warnings.recs.get w).acked = false ∧ (u.warnings.recs.get w).reported = none ∧ w ∉ u.warnings.listed
          ∧ (∀ l p, cfg.lamp = some (l, p) → .lampWithdraw l w ∈ u.mail)
          ∧ (∀ code, r.reported = some code → .report (.clear code (.warning w)) ∈ u.mail)))
    ∧ ∀ (w : Fin 64) (s : State) (a : Acc Warnings),
        let cfg := s.running.warnings.get w
        let r := a.st.recs.get w
        let view := a.st.views.get cfg.primary
        let v := view.eff.value
        let slack : Int := if r.primary = true then cfg.hysteresis else 0
        let compared : Prop := match cfg.op with
          | .above => cfg.threshold - slack < v
          | .below => v < cfg.threshold + slack
          | .equal => v = cfg.threshold
          | .notEqual => v ≠ cfg.threshold
        let unseen := view.eff.status = .invalid ∧ view.eff.reason = some .neverReceived ∧ view.delivered = false
        let primary := (cfg.watch = true ∧ view.eff.status = .invalid) ∨ (cfg.watch = false ∧ ¬unseen ∧ compared)
        let qualified : Prop := ∀ q, cfg.qualifier = some q →
          let e := (a.st.views.get q.signal).eff
          e.status = .invalid ∨ (match q.op with
            | .above => q.threshold < e.value
            | .below => e.value < q.threshold
            | .equal => e.value = q.threshold
            | .notEqual => e.value ≠ q.threshold)
        let condition := primary ∧ qualified
        let u := evaluateWarning w s a
        let r' := u.st.recs.get w
        (r'.primary = true ↔ primary) ∧ (r'.condition = true ↔ condition)
        ∧ (∀ k, k ≠ w → (u.st.recs.get k).state = (a.st.recs.get k).state)
        ∧ ((r.condition = true ↔ condition) →
            r' = { r with primary := r'.primary, condition := r'.condition }
            ∧ u = ⟨{ a.st with recs := a.st.recs.set w r' }, a.out⟩)
        ∧ (r.condition = false → condition →
            (r.state = .off → cfg.onDelay ≠ 0 → r'.state = .arming ∧ r'.delay = some (s.now + cfg.onDelay * 100))
            ∧ (r.state = .off → cfg.onDelay = 0 → r'.state = .on ∧ r'.acked = false)
            ∧ (r.state = .releasing ∨ r.state = .latched →
                r'.state = .on ∧ r'.delay = none ∧ r'.acked = r.acked ∧ r'.stamp = r.stamp
                  ∧ u.st.stack = a.st.stack ∧ u.st.waiting = a.st.waiting))
        ∧ (r.condition = true → ¬condition →
            (r.state = .arming → r'.state = .off ∧ r'.delay = none)
            ∧ (r.state = .on → cfg.offDelay ≠ 0 → r'.state = .releasing ∧ r'.delay = some (s.now + cfg.offDelay * 100))
            ∧ (r.state = .on → cfg.offDelay = 0 →
                r'.state = (if cfg.latching = true ∧ r.acked = false then .latched else .off)))

/-- R116, R117, R119 to R123: on becoming the top, by a push or by being uncovered, an entry starts its minimum timer if it is
acknowledge-pending and its shown time is below the minimum display time, and its auto-dismiss timer if the warning has one and the
shown time is below it, each for what is left; any other timer is stopped, and with nothing presented both are. The minimum timer's
expiry acknowledges the warning of the top entry. The auto-dismiss timer's expiry acts as an acknowledgement: at once when the
minimum display time has been reached, else the entry becomes acknowledge-pending and its minimum timer runs for what is left. A new
top with a buzzer pattern and repetitions left issues the request for that pattern under the next number modulo 256; any other has
no request, and the number stands; either way the Lamp Unit is told. A push makes the warning's new entry the top; the removal of
the top pushes the best unmasked waiting warning of a lower level number than the entry below, and uncovers that entry where there
is none. At each event of the Warning Engine the content last written to the PRESENT records is the presentation that it leaves:
message code and level of the top (0 and 0xFF with an empty stack), depth of the stack, number of warnings waiting, and whether a
request is in force. A new top, the start, a re-initialization, an entry to and a departure from ACTIVE write it in any case. -/
def Obligations.PresentationTimersExpire : Prop :=
  (∀ (t : Nat) (top : StackEntry) (rest : List StackEntry) (s : State), s.warnings.stack = top :: rest → s.StackSound →
    let v := s.advanceTo t
    let shown := top.shown + (t - s.now)
    let needed := minimumMs s top.warning
    (s.warnings.minTimer = some t → ∃ u, exec .minimumTimerExpiry s = .next (finish u)
      ∧ u = { v with warnings := u.warnings, mail := u.mail } ∧ Acknowledged top.warning s.warnings u.warnings)
    ∧ (s.warnings.autoTimer = some t →
        (top.ackPending = false → needed ≤ shown → ∃ u, exec .autoDismissTimerExpiry s = .next (finish u)
          ∧ u = { v with warnings := u.warnings, mail := u.mail } ∧ Acknowledged top.warning s.warnings u.warnings)
        ∧ (top.ackPending = false → shown < needed → exec .autoDismissTimerExpiry s = .next (finish { v with
            warnings := { v.warnings with
              autoTimer := none, minTimer := some (v.now + (needed - shown))
              stack := { top with shown := shown, ackPending := true } :: rest } }))
        ∧ (top.ackPending = true → exec .autoDismissTimerExpiry s = .next (finish { v with
            warnings := { v.warnings with autoTimer := none } }))))
    ∧ (∀ (s : State) (a : Acc Warnings),
        let u := (topChanged s a).st
        (a.st.stack = [] →
          u.minTimer = none ∧ u.autoTimer = none ∧ u.request = none ∧ u.requestNumber = a.st.requestNumber)
        ∧ (∀ top rest, a.st.stack = top :: rest →
            let needed := minimumMs s top.warning
            let auto := autoMs s top.warning
            (top.ackPending = true → top.shown < needed → u.minTimer = some (s.now + (needed - top.shown)))
            ∧ (top.ackPending = false ∨ needed ≤ top.shown → u.minTimer = none)
            ∧ (auto ≠ 0 → top.shown < auto → u.autoTimer = some (s.now + (auto - top.shown)))
            ∧ (auto = 0 ∨ auto ≤ top.shown → u.autoTimer = none)
            ∧ (∀ p n, (s.running.warnings.get top.warning).buzzer = some (p, n) → 0 < top.remaining →
                u.request = some p ∧ u.requestNumber = (a.st.requestNumber + 1) % 256)
            ∧ ((s.running.warnings.get top.warning).buzzer = none ∨ top.remaining = 0 →
                u.request = none ∧ u.requestNumber = a.st.requestNumber))
        ∧ u.stack = a.st.stack ∧ u.waiting = a.st.waiting ∧ u.recs = a.st.recs ∧ .buzzer ∈ (topChanged s a).out
        ∧ (∀ w, let cfg := s.running.warnings.get w
            let entry : StackEntry := ⟨w, cfg.level, 0, false, match cfg.buzzer with | some (_, n) => n | none => 0⟩
            push w s a = topChanged s ⟨{ a.st with stack := entry :: a.st.stack }, a.out⟩)
        ∧ ∀ top rest, a.st.stack = top :: rest →
            let left := fun waiting : List (Fin 64) => (⟨{ a.st with
              stack := rest, waiting := waiting
              recs := a.st.recs.set top.warning { a.st.recs.get top.warning with stamp := none } }, a.out⟩ : Acc Warnings)
            let hidden := fun x => masked s a.st (levelOf s x) = true
            (∀ before x after, a.st.waiting = before ++ x :: after → (∀ y ∈ before, hidden y) → ¬hidden x →
                (∀ e, rest.head? = some e → levelOf s x < e.level) →
                withdraw top.warning s a = push x s (left (before ++ after)))
            ∧ ((∀ x ∈ a.st.waiting, ¬hidden x → ∃ e, rest.head? = some e ∧ e.level ≤ levelOf s x) →
                withdraw top.warning s a = topChanged s (left a.st.waiting)))
    ∧ ∀ s : State,
        let content := fun v : Warnings =>
          (match v.stack with
            | [] => [0, 0, 0xFF]
            | top :: _ => leBytes 2 (s.running.warnings.get top.warning).message ++ [byte top.level])
          ++ [byte v.stack.length, byte v.waiting.length, flagByte v.request.isSome] ++ List.replicate 6 0
        let written := fun out : List Notice =>
          out.reverse.findSome? fun n => match n with | .record .present c => some c | _ => none
        let follows := fun f : State → Acc Warnings → Acc Warnings => ∀ v : Warnings,
          let u := f s ⟨v, []⟩
          (written u.out).getD (content v) = content u.st
        let writes := fun f : State → Acc Warnings → Acc Warnings => ∀ v : Warnings,
          let u := f s ⟨v, []⟩
          written u.out = some (content u.st)
        (∀ i e, follows (warningUpdate i e)) ∧ (∀ w, follows (enterOn w) ∧ follows (release w)) ∧ follows minimumReached
        ∧ follows autoDismissed ∧ follows acknowledgeTop ∧ (∀ n, follows (repetitionEnd n))
        ∧ (∀ m m', follows (warningMode m m')) ∧ writes topChanged ∧ writes reinitWarnings
        ∧ (∀ m, writes (warningMode m .active)) ∧ ∀ m, m ≠ .active → writes (warningMode .active m)

/-- R122, R128, R132, R134, R137: the step timer's expiry counts the step, starts again and sets each lamp by its pattern at the new
step; while the buzzer sounds a request it reports a repetition end with the request's number at each return of the request's
pattern to position 0, and else none. A repetition end under the number of the request in force takes 1 from the top entry's
remaining repetitions, unless they are 255, and withdraws the request at 0; any other is discarded. The Warning Engine alone takes
the report of one. The bulb check timer's ends the check; a sensing result of a driver that conducts sets or clears the lamp's fault
latch, SHORT forces its output off, and OPEN_LOAD and SHORT count LAMP_FAULT when the latch was clear. A driver that does not
conduct gives no result (log 20). -/
def Obligations.LampEventsTaken : Prop :=
  ∀ (t : Nat) (s : State),
    (s.lamps.stepTimer = some t → ∃ u, exec .stepTimerExpiry s = .next (finish u)
      ∧ u = { s.advanceTo t with lamps := u.lamps, mail := u.mail }
      ∧ u.lamps.step = (s.lamps.step + 1) % 65536
      ∧ u.lamps.stepTimer = some (u.now + s.running.general.stepInterval)
      ∧ (∀ l, (u.lamps.lamps.get l).output = litOn s.running u.lamps.step (u.lamps.lamps.get l).resolved)
      ∧ (∀ l, (u.lamps.lamps.get l).latch = (s.lamps.lamps.get l).latch)
      ∧ (∀ p, s.control.mode = .active → s.testRuns = false → s.warnings.request = some p →
          u.lamps.step % (patternOf s.running p).period = 0 → .repetition s.warnings.requestNumber ∈ u.mail)
      ∧ (s.control.mode ≠ .active ∨ s.testRuns = true ∨ (∀ p, s.warnings.request = some p →
          u.lamps.step % (patternOf s.running p).period ≠ 0) →
          ∀ n, .repetition n ∈ u.mail → .repetition n ∈ s.mail))
    ∧ (∀ (n : Nat) (p : Fin 8) (top : StackEntry) (rest : List StackEntry), s.warnings.stack = top :: rest →
        s.warnings.request = some p →
        let a := repetitionEnd n s ⟨s.warnings, []⟩
        let left := { top with remaining := top.remaining - 1 } :: rest
        (n ≠ s.warnings.requestNumber ∨ top.remaining = 255 → a = ⟨s.warnings, []⟩)
        ∧ (n = s.warnings.requestNumber → top.remaining ≠ 255 → 1 < top.remaining →
            a = ⟨{ s.warnings with stack := left }, []⟩)
        ∧ (n = s.warnings.requestNumber → top.remaining = 1 →
            a.st = { s.warnings with stack := left, request := none } ∧ .buzzer ∈ a.out))
    ∧ ((s.warnings.stack = [] ∨ s.warnings.request = none) → ∀ n, repetitionEnd n s ⟨s.warnings, []⟩ = ⟨s.warnings, []⟩)
    ∧ (∀ n, let a := repetitionEnd n s ⟨s.warnings, []⟩
        handle (.repetition n) s = { s with warnings := a.st, mail := s.mail ++ a.out })
    ∧ (s.lamps.bulbTimer = some t → ∃ u, exec .bulbCheckTimerExpiry s = .next (finish u)
      ∧ u = { s.advanceTo t with lamps := u.lamps, mail := u.mail }
      ∧ u.lamps.bulbTimer = none ∧ u.lamps.step = s.lamps.step
      ∧ ∀ l, (u.lamps.lamps.get l).resolved
          = resolvedPattern s.control.mode s.testRuns false (s.running.lamps.get l) (s.lamps.lamps.get l))
    ∧ ∀ l, let r := s.lamps.lamps.get l
        (r.output = false ∨ s.lamps.duty1 = 0 → ∀ q, exec (.lampSensingResult l q) s = .next s)
        ∧ (r.output = true → s.lamps.duty1 ≠ 0 → ∀ q, ∃ u, exec (.lampSensingResult l q) s = .next (finish u)
            ∧ u = { s with lamps := u.lamps, mail := u.mail }
            ∧ let r' := u.lamps.lamps.get l
              r'.latch = decide (q ≠ .loadPresent) ∧ (q = .loadPresent → r'.reported = none)
              ∧ r'.shortOff = (r.shortOff || decide (q = .short)) ∧ (q = .short → r'.output = false)
              ∧ (q ≠ .loadPresent → (.report (.wear .lampFault l.val) ∈ u.mail ↔
                  r.latch = false ∨ .report (.wear .lampFault l.val) ∈ s.mail))
              ∧ (∀ f, (s.running.lamps.get l).fault = some f → r.reported = none → r.latch = false → q ≠ .loadPresent →
                  r'.reported = some f.code ∧ .report (.raise f.code (.lamp l) f.severity) ∈ u.mail))

/-- Table 7-4, R129 to R131: after every resolution each lamp shows: OFF when short-off, without owner, or outside ACTIVE and
STANDBY; PT0 in ACTIVE while an output test or the bulb check runs; its owner pattern in ACTIVE otherwise, and in STANDBY when it is
marked for STANDBY or owned by a door. Its output follows the pattern at the sequencer's step, PT0 always on. The buzzer follows PT0
while an output test runs in ACTIVE, else in ACTIVE the Warning Engine's request: it sounds at the running buzzer tone while the
pattern's step is on, after a re-initialization at the tone then in force, and is silent otherwise (R137). An update event of the
dimmer sets both duties by their characteristics, or to 1000 when it is INVALID, and no other update event changes them; BL0 and BL1
are at their duties in ACTIVE and CONFIGURING and at 0 in every other mode (R136). The owner pattern is that of the request of
lowest level, then lowest warning, or OFF with none (owner WARNINGS); the signal pattern while the viewed signal is asserted
(SIGNAL); the request last handed by the door (DOOR). A request given to a lamp replaces that warning's request there and stands in
the order; one withdrawn goes; a door's request goes to every lamp it owns; and after each every lamp is resolved. The Lamp Unit
alone takes these requests as a warning or a door hands them, and resolves anew when the Warning Engine's buzzer request changes. A
resolution that changes which lamps are lit is written into the LAMPS records, with bit l set for each lamp l not resolved to OFF
(R138), one that changes none is not, and a re-initialization always writes them. -/
def Obligations.LampsResolved : Prop :=
  (∀ (s : State) (a : Acc Lamps) (l : Fin 24),
      let r := a.st.lamps.get l
      let r' := (relight s a).st.lamps.get l
      let cfg := s.running.lamps.get l
      let m := s.control.mode
      let lit := s.testRuns = true ∨ a.st.bulbTimer ≠ none
      (r.shortOff = true ∨ cfg.owner = .none ∨ (m ≠ .active ∧ m ≠ .standby) → r'.resolved = none)
      ∧ (r.shortOff = false → cfg.owner ≠ .none → m = .active → lit → r'.resolved = some 0)
      ∧ (r.shortOff = false → cfg.owner ≠ .none → m = .active → ¬lit → r'.resolved = ownerPattern cfg r)
      ∧ (r.shortOff = false → cfg.owner ≠ .none → m = .standby →
          r'.resolved = (if cfg.standby = true ∨ cfg.owner = .door then ownerPattern cfg r else none))
      ∧ r'.output = litOn s.running a.st.step r'.resolved
      ∧ r' = { r with resolved := r'.resolved, output := r'.output })
    ∧ (∀ (s : State) (a : Acc Lamps),
      let u := (relight s a).st
      (s.control.mode = .active → s.testRuns = true → u.buzzer = some 0)
      ∧ (s.control.mode = .active → s.testRuns = false → u.buzzer = s.warnings.request)
      ∧ (s.control.mode ≠ .active → u.buzzer = none)
      ∧ u.buzzerTone = (if litOn s.running a.st.step u.buzzer then some (100 * s.running.general.tone) else none)
      ∧ u.duty0 = a.st.duty0 ∧ u.duty1 = a.st.duty1)
    ∧ (∀ (s : State) (a : Acc Lamps),
      let u := (reinitLamps s a).st
      u.buzzer = buzzerPattern s ∧ u.step = a.st.step
      ∧ u.buzzerTone = (if litOn s.running u.step u.buzzer then some (100 * s.running.general.tone) else none))
    ∧ (∀ (i : Fin 256) (e : Effective) (s : State) (a : Acc Lamps),
      let u := (lampSignal i e s a).st
      let g := s.running.general
      (g.dimmer = i → e.status ≠ .invalid → u.duty0 = interpolate g.bl0 e.value ∧ u.duty1 = interpolate g.bl1 e.value)
      ∧ (g.dimmer = i → e.status = .invalid → u.duty0 = 1000 ∧ u.duty1 = 1000)
      ∧ (g.dimmer ≠ i → u.duty0 = a.st.duty0 ∧ u.duty1 = a.st.duty1))
    ∧ (∀ s : State, backlight s =
      if s.control.mode = .active ∨ s.control.mode = .configuring then (s.lamps.duty0, s.lamps.duty1) else (0, 0))
    ∧ (∀ p : Lit, ∀ (img : Image) (step : Nat), litOn img step p = (match p with | some p => patternOn img step p | none => false))
    ∧ (∀ (img : Image) (step : Nat), patternOn img step 0 = true)
    ∧ (∀ (img : Image) (step : Nat) (p : Fin 8), p ≠ 0 →
        patternOn img step p = (img.patterns.get p).steps.getLsbD (step % (img.patterns.get p).period))
    ∧ (∀ (cfg : LampConfig) (r : LampRun),
      (cfg.owner = .none → ownerPattern cfg r = none)
      ∧ (cfg.owner = .warnings → r.requests = [] → ownerPattern cfg r = none)
      ∧ (cfg.owner = .warnings → r.requests.Pairwise LampRequest.before → ∀ q ∈ r.requests,
          (∀ o ∈ r.requests, o ≠ q → q.before o) → ownerPattern cfg r = some q.pattern)
      ∧ (cfg.owner = .signal → ownerPattern cfg r
          = if r.view.status ≠ .invalid ∧ r.view.value ≠ 0 then cfg.pattern else none)
      ∧ (cfg.owner = .door → ownerPattern cfg r = r.doorRequest))
    ∧ (∀ (s : State) (a : Acc Lamps),
      let changed := fun (u : Acc Lamps) (f : Fin 24 → LampRun → LampRun) => ∃ lamps : Tab 24 LampRun,
        u = relight s ⟨{ a.st with lamps := lamps }, a.out⟩ ∧ ∀ k, lamps.get k = f k (a.st.lamps.get k)
      (∀ (l : Fin 24) (q : LampRequest), ∃ f, changed (giveLamp l q s a) f
        ∧ (∀ k, k ≠ l → ∀ r, f k r = r)
        ∧ ∀ r, f l r = { r with requests := (f l r).requests }
            ∧ (∀ o, o ∈ (f l r).requests ↔ o = q ∨ (o ∈ r.requests ∧ o.warning ≠ q.warning))
            ∧ (r.requests.Pairwise LampRequest.before → (f l r).requests.Pairwise LampRequest.before))
      ∧ (∀ (l : Fin 24) (w : Fin 64), changed (withdrawLamp l w s a) fun k r =>
          if k = l then { r with requests := r.requests.filter fun o => o.warning ≠ w } else r)
      ∧ ∀ (d : Fin 6) (p : Lit), changed (doorLamps d p s a) fun k r =>
          if (s.running.lamps.get k).owner = .door ∧ (s.running.lamps.get k).door = some d then { r with doorRequest := p }
          else r)
    ∧ (∀ s : State,
      let taken := fun f : State → Acc Lamps → Acc Lamps =>
        let a := f s ⟨s.lamps, []⟩
        { s with lamps := a.st, mail := s.mail ++ a.out }
      (∀ l q, handle (.lampGive l q) s = taken (giveLamp l q)) ∧ (∀ l w, handle (.lampWithdraw l w) s = taken (withdrawLamp l w))
      ∧ (∀ d p, handle (.doorRequest d p) s = taken (doorLamps d p)) ∧ handle .buzzer s = taken relight)
    ∧ ∀ (s : State) (a : Acc Lamps),
      let lit := fun (u : Lamps) (l : Fin 24) => decide ((u.lamps.get l).resolved ≠ none)
      let shows := fun (content : List Byte) (u : Lamps) =>
        content.length = 12 ∧ content.drop 3 = List.replicate 9 0
          ∧ ∀ l : Fin 24, ∃ b, content[l.val / 8]? = some b ∧ b.getLsbD (l.val % 8) = lit u l
      let u := relight s a
      let v := reinitLamps s a
      ((∀ l, lit u.st l = lit a.st l) → u.out = a.out)
      ∧ ((∃ l, lit u.st l ≠ lit a.st l) → ∃ content, shows content u.st ∧ u.out = a.out ++ [.record .lamps content])
      ∧ ∃ content sent, shows content v.st ∧ v.out = sent ++ [.record .lamps content]

/-! ### Display link -/

/-- R167 to R170: READY rises: a STALLED link runs again with every defined record dirty and 0xF002 cleared; it falls: link, records
and transfer in flight stand. A completed transfer that found the display processor alive takes the copy for sent, the record dirty
only if it has changed since, and writes the display fault bit to the display-fault signal, whose name is taken from the working
image and which is written only while its source is the display fault (the model's choice, log 24); without a refresh request the
other records stand. The last-sent content of a record that has become NONE since stays as it was (log 24). A transfer that was not
taken leaves the records as they are. The refresh timer makes every defined record dirty; the stall timer makes the link STALLED and
raises 0xF002 with severity 1. When the link takes the record kinds, a record of changed kind has empty contents and any other its
own, every defined record is dirty, and a record of kind NONE keeps its flag (R165, R166). -/
def Obligations.LinkEventsTaken : Prop :=
  ∀ (s : State) (t : Nat),
    let kind := fun i => s.running.display.get i
    (s.display.ready = false → ∃ u, exec .readyAsserted s = .next (finish u) ∧ u.display.ready = true
      ∧ u = { s with display := u.display, mail := u.mail }
      ∧ (s.display.link ≠ .stalled → u.display.link = s.display.link ∧ u.display.records = s.display.records)
      ∧ (s.display.link = .stalled → u.display.link = .running ∧ u.display.reported = false
          ∧ (∀ i, kind i ≠ .none → (u.display.records.get i).dirty = true)
          ∧ (s.display.reported = true → .report (.clear 0xF002 .displayLink) ∈ u.mail)))
    ∧ (s.display.ready = true → ∃ u, exec .readyDeasserted s = .next (finish u) ∧ u.display.ready = false
      ∧ u = { s with display := u.display }
      ∧ u.display.link = s.display.link ∧ u.display.records = s.display.records ∧ u.display.flight = s.display.flight)
    ∧ (∀ (f : Transfer) (status : Byte), s.display.flight = some f →
        ∃ u, exec (.transferComplete status) s = .next (finish u) ∧ u.display.flight = none
          ∧ u = { s with display := u.display, mail := u.mail }
          ∧ (status.getLsbD 0 = false → u.display.records = s.display.records)
          ∧ (status.getLsbD 0 = true → kind f.index ≠ .none →
              (u.display.records.get f.index).lastSent = f.copy)
          ∧ (status.getLsbD 0 = true → kind f.index = .none →
              (u.display.records.get f.index).lastSent = (s.display.records.get f.index).lastSent)
          ∧ (status.getLsbD 0 = true →
              (u.display.records.get f.index).current = (s.display.records.get f.index).current
              ∧ (u.display.records.get f.index).dirty
                  = ((status.getLsbD 1 && kind f.index != .none)
                      || (s.display.records.get f.index).current != f.copy))
          ∧ (status.getLsbD 0 = true → status.getLsbD 1 = false → ∀ i, i ≠ f.index →
              u.display.records.get i = s.display.records.get i)
          ∧ (status.getLsbD 0 = true → status.getLsbD 1 = true → ∀ i, kind i ≠ .none →
              (u.display.records.get i).dirty = true)
          ∧ (status.getLsbD 0 = true → ∀ i, s.image.general.displayFault = some i →
              (s.image.signals.get i).source = .derived .displayFault →
              .write i (.bare (if status.getLsbD 2 then 1 else 0)) ∈ u.mail))
    ∧ (s.display.refresh = some t → ∃ u, exec .refreshTimerExpiry s = .next (finish u)
      ∧ u = { s.advanceTo t with display := u.display }
      ∧ u.display.refresh = some (u.now + 1000) ∧ (∀ i, kind i ≠ .none → (u.display.records.get i).dirty = true)
      ∧ ∀ i, (u.display.records.get i).current = (s.display.records.get i).current
          ∧ (kind i = .none → u.display.records.get i = s.display.records.get i))
    ∧ (s.display.stall = some t → ∃ u, exec .stallTimerExpiry s = .next (finish u)
      ∧ u = { s.advanceTo t with display := u.display, mail := u.mail }
      ∧ u.display.link = .stalled ∧ u.display.stall = none ∧ u.display.reported = true
      ∧ u.display.records = s.display.records
      ∧ (s.display.reported = false → .report (.raise 0xF002 .displayLink 1) ∈ u.mail))
    ∧ ∀ (old : Image) (a : Acc Display) (i : Fin 64),
        let r := a.st.records.get i
        let r' := (takeKinds old s a).st.records.get i
        (kind i ≠ old.display.get i → r'.current = List.replicate 12 0 ∧ r'.lastSent = List.replicate 12 0)
        ∧ (kind i = old.display.get i → r'.current = r.current ∧ r'.lastSent = r.lastSent)
        ∧ (kind i ≠ .none → r'.dirty = true) ∧ (kind i = .none → r'.dirty = r.dirty)

/-- R16, R165 to R167, R170: an owner's write of the records of a kind, and a mirror's of a record that is RAW, puts a content that
differs from the record's current one in its place and sets the dirty flag, and leaves a record that holds that content already as
it is; the last-sent content stands. No other record changes, a record of kind NONE is never written, and nothing else of the part
changes but the stall timer. The record sent next is a dirty record of a defined kind such that no other comes before it, by the
order PRESENT, DOORS, GAUGE, LAMPS, VALUE, RAW, MODE and then by index; there is one exactly when a defined record is dirty. A
transfer starts, at the end of a step (log 31), with the link RUNNING in ACTIVE or CONFIGURING, READY asserted, none in flight and
such a record, whose kind, index and current content it carries; else nothing starts. The stall timer runs while the link is RUNNING
in ACTIVE or CONFIGURING, READY is deasserted and a record is dirty: each event of the link, each write of a record and each change
of mode leaves it so, running on where it ran, or started to expire 500 ms later, and stopped otherwise. -/
def Obligations.RecordOrder : Prop :=
  (∀ (kinds : Tab 64 RecordKind) (records : Tab 64 DisplayRecord),
    let waits := fun i => (records.get i).dirty = true ∧ kinds.get i ≠ .none
    (nextRecord kinds records = none ↔ ∀ i, ¬waits i)
    ∧ ∀ i, nextRecord kinds records = some i ↔
        waits i ∧ ∀ j, waits j →
          (kinds.get i).rank < (kinds.get j).rank ∨ ((kinds.get i).rank = (kinds.get j).rank ∧ i ≤ j))
    ∧ (∀ (g g' : Fin 6) (i i' : Fin 256),
        RecordKind.present.rank < RecordKind.doors.rank ∧ RecordKind.doors.rank < (RecordKind.gauge g).rank
        ∧ (RecordKind.gauge g).rank < RecordKind.lamps.rank ∧ RecordKind.lamps.rank < (RecordKind.value i).rank
        ∧ (RecordKind.value i).rank < RecordKind.raw.rank ∧ RecordKind.raw.rank < RecordKind.mode.rank
        ∧ (RecordKind.gauge g).rank = (RecordKind.gauge g').rank ∧ (RecordKind.value i).rank = (RecordKind.value i').rank)
    ∧ (∀ (s : State) (a : Acc Display),
        let may := a.st.link = .running ∧ (s.control.mode = .active ∨ s.control.mode = .configuring)
          ∧ a.st.ready = true ∧ a.st.flight = none
        let next := nextRecord s.running.display a.st.records
        (∀ i, may → next = some i → startTransfer s a = ⟨{ a.st with
            flight := some ⟨i, (s.running.display.get i).code, (a.st.records.get i).current⟩ }, a.out⟩)
        ∧ (¬may ∨ next = none → startTransfer s a = a))
    ∧ (∀ s : State, s.pump.display = (startTransfer s ⟨s.display, []⟩).st)
    ∧ (∀ (s : State) (a : Acc Display),
        let runs := a.st.link = .running ∧ (s.control.mode = .active ∨ s.control.mode = .configuring)
          ∧ a.st.ready = false ∧ ∃ i, (a.st.records.get i).dirty = true
        (runs → restall s a = ⟨{ a.st with stall := some (a.st.stall.getD (s.now + 500)) }, a.out⟩)
        ∧ (¬runs → restall s a = ⟨{ a.st with stall := none }, a.out⟩))
    ∧ (∀ (s : State) (a : Acc Display) (k : RecordKind) (content : List Byte) (i : Fin 64) (status : Byte) (old : Image)
        (m m' : Mode),
        let settled := fun a' : Acc Display =>
          restall s a' = a' ∧ ∀ t, a'.st.stall = some t → a.st.stall = some t ∨ t = s.now + 500
        settled (readyOn s a) ∧ settled (readyOff s a) ∧ settled (takeStall s a) ∧ settled (takeRefresh s a)
        ∧ settled (writeKind k content s a) ∧ settled (writeMirror i content s a) ∧ settled (takeKinds old s a)
        ∧ (m' ≠ .starting → settled (displayMode m m' s a)) ∧ (a.st.flight ≠ none → settled (completeTransfer status s a)))
    ∧ ∀ (s : State) (content : List Byte),
      let wrote := fun (u : State) (a : Acc Display) (taken : Fin 64 → Prop) =>
        u = { s with display := { s.display with records := u.display.records, stall := u.display.stall } }
        ∧ u.display = a.st
        ∧ ∀ i, let r := s.display.records.get i
          let r' := u.display.records.get i
          (taken i → content ≠ r.current → r' = { r with current := content, dirty := true })
          ∧ (¬taken i ∨ content = r.current → r' = r)
      (∀ k, wrote (handle (.record k content) s) (writeKind k content s ⟨s.display, []⟩) fun i =>
        s.running.display.get i = k ∧ k ≠ .none)
      ∧ ∀ j, wrote (handle (.mirror j content) s) (writeMirror j content s ⟨s.display, []⟩) fun i =>
        i = j ∧ s.running.display.get i = .raw

/-! ### Values -/

/-- R27 to R30: step 5 of the conversion: the exact product of the raw field and the gain, divided by 2 to the shift with rounding
toward minus infinity, plus the offset; a gain of 0 gives the offset, a negative gain reverses the sense, and with the widths of the
manual no intermediate leaves 48 bits and no result 64. The two highest codes of a field with invalid codes are statuses; any other
field is scaled, with a sign where it has one, and cut to the signal's limits with its qualifier. -/
def Obligations.ConversionScales : Prop :=
  (∀ lo hi v : Int, (v < lo → clamp lo hi v = lo) ∧ (lo ≤ v → hi < v → clamp lo hi v = hi)
      ∧ (lo ≤ v → v ≤ hi → clamp lo hi v = v))
    ∧ (∀ (gain : Int) (shift : Nat) (offset raw : Int),
      let p := raw * gain
      let q := p / (2 : Int) ^ shift
      (q * 2 ^ shift ≤ p ∧ p < (q + 1) * 2 ^ shift) ∧ scale gain shift offset raw = q + offset
      ∧ (-4294967296 < raw → raw < 4294967296 → -32768 ≤ gain → gain ≤ 32768 →
          -2147483648 ≤ offset → offset ≤ 2147483647 →
          -140737488355328 ≤ p ∧ p ≤ 140737488355328
            ∧ -9223372036854775808 ≤ scale gain shift offset raw
            ∧ scale gain shift offset raw ≤ 9223372036854775807)
      ∧ (gain = 0 → scale gain shift offset raw = offset)
      ∧ (gain < 0 → ∀ raw', raw ≤ raw' → scale gain shift offset raw' ≤ scale gain shift offset raw))
    ∧ ∀ (d : Descriptor) (cfg : SignalConfig) (data : List Byte), 1 ≤ d.length →
        let n := field d.order d.start d.length data
        (d.invalidCodes = true → n + 1 = 2 ^ d.length → convert d cfg data = .status .notAvailable)
        ∧ (d.invalidCodes = true → n + 2 = 2 ^ d.length → convert d cfg data = .status .senderError)
        ∧ (d.invalidCodes = false ∨ n + 2 < 2 ^ d.length →
            let raw : Int := if d.signed = true ∧ 2 ^ (d.length - 1) ≤ n then (n : Int) - 2 ^ d.length else n
            let v := scale d.gain d.shift d.offset raw
            convert d cfg data = .converted (clamp cfg.min cfg.max v) (decide (clamp cfg.min cfg.max v ≠ v)))

/-- R25 to R27 with R162: a value packed into its place among the bytes of a frame is the field extracted from it in the same byte
order, whatever the place, also when the frame is cut to a length that the field fits (R26). The field of a packing slot is all ones
for an INVALID signal under the invalid-codes flag; else it is the difference of value and offset, divided by 2 to the shift with
rounding toward minus infinity, and cut to 0 and to the top code, which is 2^ℓ - 3 with the flag and 2^ℓ - 1 without. In the data of
an own frame whose fields fit and share no bit, as the loader has it (R156), every slot's field holds its value and every other bit
is 0. -/
def Obligations.PackedFieldsExtract : Prop :=
  (∀ (order : ByteOrder) (start length value m : Nat), 1 ≤ length → fits order start length m = true →
    value < 2 ^ length →
    field order start length ((placeField order start value).take m) = value
      ∧ (placeField order start value).length = 8
      ∧ ∀ start' length', 1 ≤ length' → fits order start' length' 8 = true →
          start + length ≤ start' ∨ start' + length' ≤ start →
          field order start' length' (placeField order start value) = 0)
  ∧ (∀ (slot : PackSlot) (e : Effective),
    let top : Nat := if slot.invalidCodes then 2 ^ slot.length - 3 else 2 ^ slot.length - 1
    let packed := packValue slot e
    (e.status = .invalid → slot.invalidCodes = true → packed = 2 ^ slot.length - 1)
    ∧ (e.status ≠ .invalid ∨ slot.invalidCodes = false → ∀ raw : Int,
        raw * 2 ^ slot.shift ≤ e.value - slot.offset → e.value - slot.offset < (raw + 1) * 2 ^ slot.shift →
        (raw < 0 → packed = 0) ∧ (0 ≤ raw → raw ≤ top → (packed : Int) = raw) ∧ ((top : Int) < raw → packed = top)))
  ∧ ∀ (eff : Fin 256 → Effective) (e : TransmitEntry),
    let data := packFrame eff e
    let bits := fun x : PackSlot => bitsOf x.order x.start x.length
    e.length ≤ 8 →
    (∀ k x, e.slots.get k = some x → 1 ≤ x.length ∧ fits x.order x.start x.length e.length = true) →
    (∀ k m x y, k ≠ m → e.slots.get k = some x → e.slots.get m = some y → ∀ n ∈ bits x, n ∉ bits y) →
    data.length = e.length
    ∧ (∀ k x, e.slots.get k = some x → field x.order x.start x.length data = packValue x (eff x.signal))
    ∧ ∀ (j n : Nat) (b : Byte), data[j]? = some b → n < 8 → (∀ k x, e.slots.get k = some x → 8 * j + n ∉ bits x) →
        b.getLsbD n = false

/-- R140 with R141, R142, R147, R148: a raise that matches a record is a reoccurrence of it, and every other record and every
snapshot stands as it was. A raise that matches none makes a record at the end of a memory of fewer than 32: ACTIVE, occurrence 1,
seen now, raised this cycle. With a snapshot list it takes the lowest-numbered empty slot, else the one of the smallest capture
number, whose owner loses it, and captures the signals of the list in order; the capture counter goes on by 1, and at its end the
filled slots are renumbered by age and counting goes on from their number. At 32 records the PASSIVE record of lowest severity, the
oldest among equals, leaves for it with its snapshot; with none PASSIVE the ACTIVE one of lowest severity, the oldest among equals,
if that is below the raise's; and with neither the raise is not recorded and sets the overflow indicator. A report that reaches the
Fault Unit before its start is held behind those held already (R146); at the start ACTIVE records become PASSIVE and the reports
held are taken in the order of their arrival, as it is to be seen with no attribute that has a fault. After the start a raise goes
to the Fault Memory in this way, with the snapshot list taken last and the effective states as they stand; a change of the items
sets the changed flag (R155), and one of the record count or of the overflow indicator is handed to the Mode Controller (R149). -/
def Obligations.RaiseIsReoccurrence : Prop :=
  (∀ (code : Nat) (source : FaultSource) (severity : Nat) (list : List (Fin 256)) (eff : Fin 256 → Effective)
      (p : Persistent),
    let known := ∃ r ∈ p.records, r.code = code ∧ r.source = source
    let p' := raiseItem code source severity list eff p
    let record := fun slot : Option (Fin 8) =>
      (⟨code, source, severity, true, 1, p.seconds, p.seconds, 0, true, slot⟩ : FaultRecord)
    (known →
      p'.records.length = p.records.length ∧ p'.slots = p.slots ∧ p'.captures = p.captures ∧ p'.overflow = p.overflow
      ∧ p'.attrValues = p.attrValues ∧ p'.seconds = p.seconds
      ∧ ∀ (i : Nat) (r : FaultRecord), p.records[i]? = some r →
          (r.code = code → r.source = source → r.occurrences ≤ 255 → p'.records[i]? = some
            ⟨code, source, severity, true, min 255 (r.occurrences + 1), r.firstSeen, p.seconds, 0, true, r.slot⟩)
          ∧ (r.code ≠ code ∨ r.source ≠ source → p'.records[i]? = some r))
    ∧ (¬known → p.records.length < 32 →
        (list = [] → p' = { p with records := p.records ++ [record none] })
        ∧ (list ≠ [] → ∃ k : Fin 8,
            let shot : Snapshot := ⟨code, source, p.captures, p.seconds, list.map fun i => (i, eff i)⟩
            let slots := p.slots.set k (some shot)
            ((p.slots.get k = none ∧ ∀ j, j < k → p.slots.get j ≠ none)
              ∨ ((∀ j, p.slots.get j ≠ none)
                ∧ ∀ j x y, p.slots.get k = some x → p.slots.get j = some y → x.number ≤ y.number))
            ∧ p'.records = (p.records.map fun r => if r.slot = some k then { r with slot := none } else r) ++ [record (some k)]
            ∧ p' = { p with records := p'.records, slots := p'.slots, captures := p'.captures }
            ∧ (p.captures < 4294967295 → p'.captures = p.captures + 1 ∧ p'.slots = slots)
            ∧ (4294967295 ≤ p.captures → p'.captures = (slots.list.filter (·.isSome)).length
                ∧ ∀ j, p'.slots.get j = (slots.get j).map fun x =>
                    { x with number := (slots.list.filter fun o => o.any fun y => decide (y.number < x.number)).length })))
    ∧ (¬known → p.records.length = 32 →
        let first := fun (i : Nat) (r : FaultRecord) (among : FaultRecord → Prop) =>
          p.records[i]? = some r ∧ among r ∧ ∀ (j : Nat) (o : FaultRecord), p.records[j]? = some o → among o →
            r.severity < o.severity ∨ (r.severity = o.severity ∧ i ≤ j)
        let leaves := fun (i : Nat) (r : FaultRecord) =>
          first i r (fun o => o.active = false)
            ∨ ((∀ o ∈ p.records, o.active = true) ∧ r.severity < severity ∧ first i r (fun _ => True))
        (∀ i r, leaves i r → p' = raiseItem code source severity list eff { p with
            records := p.records.eraseIdx i
            slots := match r.slot with | some k => p.slots.set k none | none => p.slots })
        ∧ ((∀ i r, ¬leaves i r) → p' = { p with overflow := true })))
  ∧ (∀ (r : Report) (s : State), s.faults.started = false →
      handle (.report r) s = { s with faults := { s.faults with held := s.faults.held ++ [r] } })
  ∧ (∀ (items : Persistent) (changed : Bool) (s : State) (u : FaultUnit) (out : List Notice),
      (∀ t, (s.running.attrs.get t).fault = none) →
      let began := fun held : List Report => startFaults items changed s ⟨{ u with held := held }, out⟩
      let passive := { items with records := items.records.map fun r => { r with active := false } }
      (began []).st = ⟨passive, (began []).st.changed, true, [], Tab.replicate 16 none⟩
      ∧ ∀ (held : List Report) (r : Report), began (held ++ [r]) = takeReport r s (began held))
  ∧ ∀ (code : Nat) (source : FaultSource) (severity : Nat) (s : State), s.faults.started = true →
      let items := s.faults.items
      let now := raiseItem code source severity s.running.snapshotList (fun i => (s.signals.get i).eff) items
      handle (.report (.raise code source severity)) s = { s with
        faults := { s.faults with items := now, changed := s.faults.changed || decide (now ≠ items) }
        mail := s.mail ++ if now.records.length ≠ items.records.length ∨ now.overflow ≠ items.overflow then
          [.faultCount now.records.length now.overflow] else [] }

/-- R143 with R144, R152: a clear makes the record of its code and source PASSIVE and changes nothing else; matching none, it does
nothing. A heal pass ages by 1 every PASSIVE record that was not raised this cycle, drops it at the heal limit with its snapshot,
and clears the mark of the others, whose order stands. A wear event adds 1 to every attribute in use of its kind whose source is the
event's or ANY, saturating, and sets the flag of one that is then at its threshold, has a fault code and was not reported; it
changes no other attribute. Each attribute whose flag it sets raises its fault into the Fault Memory, with its severity and itself
as source: the items are what these raises, one for each, leave of the items with the new values (in which order several are taken
R152 leaves open), and a change of the items sets the changed flag (R155). A clear and a wear event that reach the Fault Unit after
its start are taken in this way, and nothing but the Fault Unit and what it hands to the Mode Controller changes. -/
def Obligations.ClearMakesPassive : Prop :=
  (∀ (code : Nat) (source : FaultSource) (p : Persistent),
    let p' := clearItem code source p
    p' = { p with records := p'.records } ∧ p'.records.length = p.records.length
    ∧ (∀ (i : Nat) (r : FaultRecord), p.records[i]? = some r →
        (r.code = code → r.source = source → p'.records[i]? = some { r with active := false })
        ∧ (r.active = false ∨ r.code ≠ code ∨ r.source ≠ source → p'.records[i]? = some r))
    ∧ ((∀ r ∈ p.records, r.code ≠ code ∨ r.source ≠ source) → p' = p))
  ∧ (∀ (limit : Nat) (p : Persistent),
    let p' := healItems limit p
    let ages := fun r : FaultRecord => r.active = false ∧ r.raisedThisCycle = false
    p' = { p with records := p'.records, slots := p'.slots }
    ∧ p'.records = p.records.filterMap (fun r =>
        if ages r then (if r.heal + 1 < limit then some { r with heal := r.heal + 1 } else none)
        else some { r with raisedThisCycle := false })
    ∧ ∀ k, ((∃ r ∈ p.records, ages r ∧ limit ≤ r.heal + 1 ∧ r.slot = some k) → p'.slots.get k = none)
        ∧ ((∀ r ∈ p.records, ages r → limit ≤ r.heal + 1 → r.slot ≠ some k) → p'.slots.get k = p.slots.get k))
  ∧ (∀ (kind : WearKind) (index : Nat) (s : State) (a : Acc FaultUnit) (t : Fin 16),
    let cfg := s.running.attrs.get t
    let u := (takeWear kind index s a).st
    let value := a.st.items.attrValues.get t
    let counts := cfg.inUse = true ∧ cfg.kind = kind ∧ (cfg.source = none ∨ cfg.source = some index)
    value ≤ 4294967295 →
    (counts → u.items.attrValues.get t = min 4294967295 (value + 1)
      ∧ u.attrReported.get t = (if a.st.attrReported.get t = none ∧ cfg.threshold ≠ 0
            ∧ cfg.threshold ≤ min 4294967295 (value + 1) then cfg.fault.map (·.code)
          else a.st.attrReported.get t))
    ∧ (¬counts → u.items.attrValues.get t = value ∧ u.attrReported.get t = a.st.attrReported.get t)
    ∧ u.items.seconds = a.st.items.seconds)
  ∧ (∀ (kind : WearKind) (index : Nat) (s : State) (a : Acc FaultUnit),
    let u := (takeWear kind index s a).st
    let raised := fun (p : Persistent) (t : Fin 16) => match (s.running.attrs.get t).fault with
      | some f => raiseItem f.code (.attr t) f.severity s.running.snapshotList (fun i => (s.signals.get i).eff) p
      | none => p
    (∃ order : List (Fin 16), order.Nodup
      ∧ (∀ t, t ∈ order ↔ a.st.attrReported.get t = none ∧ u.attrReported.get t ≠ none)
      ∧ u.items = order.foldl raised { a.st.items with attrValues := u.items.attrValues })
    ∧ (a.st.changed = true ∨ u.items ≠ a.st.items → u.changed = true)
    ∧ u.started = a.st.started ∧ u.held = a.st.held)
  ∧ ∀ s : State, s.faults.started = true →
    (∀ (code : Nat) (source : FaultSource),
      let now := clearItem code source s.faults.items
      handle (.report (.clear code source)) s = { s with faults := { s.faults with
        items := now, changed := s.faults.changed || decide (now ≠ s.faults.items) } })
    ∧ ∀ (kind : WearKind) (index : Nat),
      let b := takeWear kind index s ⟨s.faults, []⟩
      handle (.report (.wear kind index)) s = { s with faults := b.st, mail := s.mail ++ b.out }
      ∧ ∀ n ∈ b.out, ∃ count overflow, n = .faultCount count overflow

/-! ### What no command changes, and what every step keeps -/

/-- The working image changes at a reset, at the end of STARTING, by loads and substitutions, as commands or in frames, and at the
completion of a select: every other command leaves all sixteen tables and the general settings as they are, whatever state it finds. -/
def Obligations.ImageKeptByOthers : Prop :=
  ∀ (c : Instr) (s t : State), mayChangeImage c = false → exec c s = .next t → t.image = s.image

/-- The properties of `Sys2Proof/Safety.lean` that every step keeps (interlock, fault memory, queues, display records, presentation,
signals, store operations, coils, gauges, the stall timer, lamp requests) hold right after reset. The state after reset rests here
on the model's own values where the manual gives none (log 5, log 8). -/
def Obligations.InvariantsHoldAtReset : Prop :=
  State.reset.InterlockSafe ∧ State.reset.FaultsSound ∧ State.reset.QueuesBounded ∧ State.reset.RecordsSound
    ∧ State.reset.PresentationSound ∧ State.reset.SignalsResolved ∧ State.reset.FactorySafe ∧ State.reset.StartsIdle
    ∧ State.reset.CoilsFollow ∧ State.reset.GaugesWithin ∧ State.reset.StallFollows ∧ State.reset.LampRequestsOrdered

/-- R75, R77: every step keeps the door interlock safe. So the interlock is released only in ACTIVE or STANDBY while every enabled
door is CLOSED. -/
def Obligations.InterlockKept : Prop :=
  (∀ s t : State, s.InterlockSafe → step s = .next t → t.InterlockSafe)
    ∧ ∀ s : State, s.InterlockSafe → s.doors.interlock = false →
        (s.control.mode = .active ∨ s.control.mode = .standby)
          ∧ ∀ d, (s.running.doors.get d).enabled = true → (s.doors.doors.get d).state = .closed

/-- Sections 8.2 and 8.4: every step keeps the Fault Memory and the Snapshot Ring sound, in use and in the store: at most 32
records, no two of one code and source, and slots and records naming each other. -/
def Obligations.FaultsSoundKept : Prop :=
  ∀ s t : State, s.FaultsSound → step s = .next t → t.FaultsSound

/-- R129, R157 to R159, R165, R166, R170: every step keeps the queues within 16 copies and 8 segments and the backlogs within 15,
and every display record dirty or sent as it stands, those of kind NONE empty. The stall timer runs exactly under the conditions of
R170, and every lamp's requests stand in the order of level and warning index, one for a warning at most (R129). -/
def Obligations.QueuesAndRecordsKept : Prop :=
  (∀ s t : State, s.QueuesBounded → step s = .next t → t.QueuesBounded)
    ∧ (∀ s t : State, s.RecordsSound → step s = .next t → t.RecordsSound)
    ∧ (∀ s t : State, s.StallFollows → step s = .next t → t.StallFollows)
    ∧ ∀ s t : State, s.LampRequestsOrdered → step s = .next t → t.LampRequestsOrdered

/-- R114, R125: every step keeps the stack sound: level numbers strictly rising from the top down, each presentable warning on the
stack or waiting and in one place alone, and nothing presented outside ACTIVE. -/
def Obligations.StackSoundKept : Prop :=
  ∀ s t : State, s.StackSound → step s = .next t → t.StackSound

/-- R114 to R118: every step keeps, beside a sound stack, the Waiting List in the order of levels, and no unmasked warning waiting
above the top of the stack or beside an empty one. -/
def Obligations.PresentationSoundKept : Prop :=
  ∀ s t : State, s.PresentationSound → step s = .next t → t.PresentationSound

/-- R31, R33, R44: every step keeps every signal's effective state and held value those that resolution gives for its own state and
its substitution entry: the own value, VALID with its qualifier, where no FORCED entry names it and its own status is VALID; else
what its entry offers, a constant or the own value of a signal whose own status is VALID, cut to its limits, SUBSTITUTED; else the
held value, INVALID with the own status as reason, or BLOCKED where that is VALID (Table 2-4). The first two set the held value
(R32). That a dependent is resolved also when its alternate is loaded, blocked or unblocked, which R33 does not list, is deduced
(log 16). -/
def Obligations.SignalsResolvedKept : Prop :=
  (∀ s t : State, s.SignalsResolved → step s = .next t → t.SignalsResolved)
    ∧ (∀ (img : Image) (t : Tab 256 SignalRun) (i : Fin 256),
        let r := t.get i
        (∀ k, (img.substitution.get k).inUse = true → (img.substitution.get k).signal ≠ i) →
          ownStatus img i r = r.written
          ∧ (r.written = .valid → resolved img t i = { r with eff := ⟨r.own, .valid, none, r.qual⟩, held := r.own })
          ∧ (r.written ≠ .valid → resolved img t i = { r with eff := ⟨r.held, .invalid, some r.written, false⟩ }))
    ∧ ∀ (img : Image) (t : Tab 256 SignalRun) (k : Fin 16),
        let x := img.substitution.get k
        let i := x.signal
        let r := t.get i
        let cfg := img.signals.get i
        let own := ownStatus img i r
        let offered : Option Int := match x.alternate with
          | .none => none
          | .constant v => some v
          | .signal j => if ownStatus img j (t.get j) = .valid then some (t.get j).own else none
        x.inUse = true → (∀ m, m ≠ k → (img.substitution.get m).inUse = true → (img.substitution.get m).signal ≠ i) →
          own = (if x.forced = true ∧ x.alternate = .none then .blocked else r.written)
          ∧ (x.forced = false → own = .valid →
              resolved img t i = { r with eff := ⟨r.own, .valid, none, r.qual⟩, held := r.own })
          ∧ (x.forced = true ∨ own ≠ .valid →
              (∀ v, offered = some v → let c := clamp cfg.min cfg.max v
                resolved img t i = { r with eff := ⟨c, .substituted, none, decide (c ≠ v)⟩, held := c })
              ∧ (offered = none → resolved img t i =
                  { r with eff := ⟨r.held, .invalid, some (if own = .valid then .blocked else own), false⟩ }))

/-- R181, R187: no step begins a commit of slot 0, so the factory slot keeps its image and its check through every step, resets and
write failures among them. And no store operation runs or waits in STARTING. -/
def Obligations.StoreOperationsKept : Prop :=
  (∀ s t : State, s.FactorySafe → step s = .next t →
      t.FactorySafe ∧ t.store.slots.get 0 = s.store.slots.get 0)
    ∧ ∀ s t : State, s.StartsIdle → step s = .next t → t.StartsIdle
end

