-- ==== Sys2Proof/Laws/Basic.lean ====
section
/-! SUPPORT. Laws/Basic: tables, accumulators, arithmetic and reported flags: everything each of them can do. -/

namespace Sys2Proof

/-! ### Tables -/

namespace Tab
variable {n : Nat} {α β : Type}

theorem ext_get {t u : Tab n α} (h : ∀ i, t.get i = u.get i) : t = u := by
  obtain ⟨t, ht⟩ := t
  obtain ⟨u, hu⟩ := u
  have : t = u := by
    apply List.ext_getElem (ht.trans hu.symm)
    intro i h₁ _
    exact h ⟨i, ht ▸ h₁⟩
  subst this
  rfl

@[simp] theorem get_set_self (t : Tab n α) (i : Fin n) (a : α) : (t.set i a).get i = a := by
  simp [get, set]

theorem get_set_ne (t : Tab n α) {i j : Fin n} (a : α) (h : j ≠ i) : (t.set i a).get j = t.get j := by
  have : i.val ≠ j.val := fun e => h (Fin.ext e.symm)
  simp [get, set, List.getElem_set_ne this]

theorem get_set (t : Tab n α) (i j : Fin n) (a : α) : (t.set i a).get j = if j = i then a else t.get j := by
  split
  · next h => subst h; simp
  · next h => exact get_set_ne t a h

@[simp] theorem get_modify (t : Tab n α) (i j : Fin n) (f : α → α) :
    (t.modify i f).get j = if j = i then f (t.get i) else t.get j := get_set t i j _

@[simp] theorem get_replicate (a : α) (i : Fin n) : (replicate n a).get i = a := by simp [get, replicate]

@[simp] theorem get_map (f : α → β) (t : Tab n α) (i : Fin n) : (t.map f).get i = f (t.get i) := by simp [get, map]

@[simp] theorem get_mapIdx (f : Fin n → α → β) (t : Tab n α) (i : Fin n) : (t.mapIdx f).get i = f i (t.get i) := by
  simp [get, mapIdx]

@[simp] theorem set_get (t : Tab n α) (i : Fin n) : t.set i (t.get i) = t :=
  ext_get fun j => by rw [get_set]; split <;> simp_all

theorem get_of_mem {t : Tab n α} {a : α} (h : a ∈ t.list) : ∃ i, t.get i = a := by
  obtain ⟨k, hk, rfl⟩ := List.getElem_of_mem h
  exact ⟨⟨k, t.ok ▸ hk⟩, rfl⟩

end Tab

namespace Machine

/-! ### Rows that take an event -/

section
variable {n : Nat} {α : Type}

@[simp] theorem tellRow_fst (t : Tab n α) (i : Fin n) (f : α → Told α) : (tellRow t i f).1 = t.set i (f (t.get i)).1 := rfl

@[simp] theorem tellRow_snd (t : Tab n α) (i : Fin n) (f : α → Told α) : (tellRow t i f).2 = (f (t.get i)).2 := rfl

@[simp] theorem tellRows_get (t : Tab n α) (f : Fin n → α → Told α) (i : Fin n) :
    (tellRows t f).1.get i = (f i (t.get i)).1 := by simp [tellRows]

/-- What the rows of a table send is what each of them sends. -/
theorem tellRows_mem {t : Tab n α} {f : Fin n → α → Told α} {m : Notice} :
    m ∈ (tellRows t f).2 ↔ ∃ i, m ∈ (f i (t.get i)).2 := by
  simp only [tellRows, List.mem_flatMap]
  constructor
  · rintro ⟨row, hr, hm⟩
    obtain ⟨i, rfl⟩ := Tab.get_of_mem hr
    exact ⟨i, by rwa [Tab.get_mapIdx] at hm⟩
  · rintro ⟨i, hm⟩
    exact ⟨(t.mapIdx f).get i, List.getElem_mem _, by rwa [Tab.get_mapIdx]⟩

end

/-! ### Accumulators -/

section
variable {β : Type}

@[simp] theorem say_st (x : Notice) (a : Acc β) : (a.say x).st = a.st := rfl

@[simp] theorem sayAll_st (l : List Notice) (a : Acc β) : (a.sayAll l).st = a.st := rfl

@[simp] theorem sayIf_st (b : Bool) (x : Notice) (a : Acc β) : (a.sayIf b x).st = a.st := by
  simp only [Acc.sayIf]; split <;> rfl

@[simp] theorem upd_st (f : β → β) (a : Acc β) : (a.upd f).st = f a.st := rfl

@[simp] theorem upd_out (f : β → β) (a : Acc β) : (a.upd f).out = a.out := rfl

/-- A property of the block that every row's turn keeps is kept by all of them. -/
theorem each_keeps {n : Nat} {P : β → Prop} {f : Fin n → Acc β → Acc β} (h : ∀ i a, P a.st → P (f i a).st) (a : Acc β)
    (ha : P a.st) : P (a.each n f).st := by
  simp only [Acc.each]
  generalize List.finRange n = l
  induction l generalizing a with
  | nil => exact ha
  | cons i l ih => exact ih _ (h i a ha)

/-- The same for the items of a list. -/
theorem eachOf_keeps {α : Type} {P : β → Prop} {f : α → Acc β → Acc β} (h : ∀ x a, P a.st → P (f x a).st) (l : List α)
    (a : Acc β) (ha : P a.st) : P (a.eachOf l f).st := by
  simp only [Acc.eachOf]
  induction l generalizing a with
  | nil => exact ha
  | cons x l ih => exact ih _ (h x a ha)

end

/-! ### Arithmetic -/

theorem clamp_ge {lo hi : Int} (h : lo ≤ hi) (v : Int) : lo ≤ clamp lo hi v := by
  unfold clamp; split
  · omega
  · split <;> omega

theorem clamp_le {lo hi : Int} (h : lo ≤ hi) (v : Int) : clamp lo hi v ≤ hi := by
  unfold clamp; split
  · omega
  · split <;> omega

theorem clamp_within {lo hi v : Int} (h₁ : lo ≤ v) (h₂ : v ≤ hi) : clamp lo hi v = v := by
  unfold clamp; split
  · omega
  · split <;> omega

theorem satSucc_le {top n : Nat} (h : n ≤ top) : satSucc top n ≤ top := by unfold satSucc; split <;> omega

@[simp] theorem leBytes_length (n v : Nat) : (leBytes n v).length = n := by
  induction n generalizing v with
  | zero => rfl
  | succ n ih => simp [leBytes, ih]

/-- Bytes written least significant first read back as the number. -/
theorem leNat_leBytes (n v : Nat) : leNat (leBytes n v) = v % 256 ^ n := by
  induction n generalizing v with
  | zero => simp [leBytes, leNat, Nat.mod_one]
  | succ n ih =>
    simp only [leBytes, leNat, ih, BitVec.toNat_ofNat]
    rw [show 256 ^ (n + 1) = 256 * 256 ^ n from by rw [Nat.pow_succ, Nat.mul_comm], Nat.mod_mul]

/-! ### Reported flags -/

theorem raiseFlag_set (code : Nat) (fault : Option FaultCode) (source : FaultSource) :
    raiseFlag (some code) fault source = (some code, []) := by cases fault <;> rfl

theorem raiseFlag_absent (reported : Option Nat) (source : FaultSource) : raiseFlag reported none source = (reported, []) := by
  cases reported <;> rfl

theorem raiseFlag_clear (f : FaultCode) (source : FaultSource) :
    raiseFlag none (some f) source = (some f.code, [.report (.raise f.code source f.severity)]) := rfl

@[simp] theorem clearFlag_fst (reported : Option Nat) (source : FaultSource) : (clearFlag reported source).1 = none := by
  cases reported <;> rfl

/-- A clear of a flag sends the clear of the code reported, if one is, and nothing else. -/
theorem clearFlag_mem {reported : Option Nat} {source : FaultSource} {m : Notice} :
    m ∈ (clearFlag reported source).2 ↔ ∃ code, reported = some code ∧ m = .report (.clear code source) := by
  cases reported <;> simp [clearFlag]

/-- A raise sends the raise of the configured code, if there is one and none is reported, and nothing else. -/
theorem raiseFlag_mem {reported : Option Nat} {fault : Option FaultCode} {source : FaultSource} {m : Notice} :
    m ∈ (raiseFlag reported fault source).2 ↔
      reported = none ∧ ∃ f, fault = some f ∧ m = .report (.raise f.code source f.severity) := by
  cases reported <;> cases fault <;> simp [raiseFlag]

theorem clearFlag_set (code : Nat) (source : FaultSource) :
    clearFlag (some code) source = (none, [.report (.clear code source)]) := rfl

end Machine
end Sys2Proof
end

