-- ==== Sys2Proof/Laws/State.lean ====
section
/-! SUPPORT. Laws/State: what each update of the state leaves alone and what it sets, one lemma for each field, by `rfl`. -/

namespace Sys2Proof.Machine

variable (s : State)

/-! ### runFrames -/

section
variable (f : State → Acc FrameEngine → Acc FrameEngine)

@[simp] theorem runFrames_pending : (s.runFrames f).pending = s.pending := rfl
@[simp] theorem runFrames_now : (s.runFrames f).now = s.now := rfl
@[simp] theorem runFrames_control : (s.runFrames f).control = s.control := rfl
@[simp] theorem runFrames_image : (s.runFrames f).image = s.image := rfl
@[simp] theorem runFrames_running : (s.runFrames f).running = s.running := rfl
@[simp] theorem runFrames_frames : (s.runFrames f).frames = (f s ⟨s.frames, []⟩).st := rfl
@[simp] theorem runFrames_signals : (s.runFrames f).signals = s.signals := rfl
@[simp] theorem runFrames_inputs : (s.runFrames f).inputs = s.inputs := rfl
@[simp] theorem runFrames_doors : (s.runFrames f).doors = s.doors := rfl
@[simp] theorem runFrames_gauges : (s.runFrames f).gauges = s.gauges := rfl
@[simp] theorem runFrames_warnings : (s.runFrames f).warnings = s.warnings := rfl
@[simp] theorem runFrames_lamps : (s.runFrames f).lamps = s.lamps := rfl
@[simp] theorem runFrames_faults : (s.runFrames f).faults = s.faults := rfl
@[simp] theorem runFrames_outbound : (s.runFrames f).outbound = s.outbound := rfl
@[simp] theorem runFrames_display : (s.runFrames f).display = s.display := rfl
@[simp] theorem runFrames_service : (s.runFrames f).service = s.service := rfl
@[simp] theorem runFrames_store : (s.runFrames f).store = s.store := rfl
@[simp] theorem runFrames_mail : (s.runFrames f).mail = s.mail ++ (f s ⟨s.frames, []⟩).out := rfl

end

/-! ### runSignals -/

section
variable (f : State → Acc (Tab 256 SignalRun) → Acc (Tab 256 SignalRun))

@[simp] theorem runSignals_pending : (s.runSignals f).pending = s.pending := rfl
@[simp] theorem runSignals_now : (s.runSignals f).now = s.now := rfl
@[simp] theorem runSignals_control : (s.runSignals f).control = s.control := rfl
@[simp] theorem runSignals_image : (s.runSignals f).image = s.image := rfl
@[simp] theorem runSignals_running : (s.runSignals f).running = s.running := rfl
@[simp] theorem runSignals_frames : (s.runSignals f).frames = s.frames := rfl
@[simp] theorem runSignals_signals : (s.runSignals f).signals = (f s ⟨s.signals, []⟩).st := rfl
@[simp] theorem runSignals_inputs : (s.runSignals f).inputs = s.inputs := rfl
@[simp] theorem runSignals_doors : (s.runSignals f).doors = s.doors := rfl
@[simp] theorem runSignals_gauges : (s.runSignals f).gauges = s.gauges := rfl
@[simp] theorem runSignals_warnings : (s.runSignals f).warnings = s.warnings := rfl
@[simp] theorem runSignals_lamps : (s.runSignals f).lamps = s.lamps := rfl
@[simp] theorem runSignals_faults : (s.runSignals f).faults = s.faults := rfl
@[simp] theorem runSignals_outbound : (s.runSignals f).outbound = s.outbound := rfl
@[simp] theorem runSignals_display : (s.runSignals f).display = s.display := rfl
@[simp] theorem runSignals_service : (s.runSignals f).service = s.service := rfl
@[simp] theorem runSignals_store : (s.runSignals f).store = s.store := rfl
@[simp] theorem runSignals_mail : (s.runSignals f).mail = s.mail ++ (f s ⟨s.signals, []⟩).out := rfl

end

/-! ### runInputs -/

section
variable (f : State → Acc Inputs → Acc Inputs)

@[simp] theorem runInputs_pending : (s.runInputs f).pending = s.pending := rfl
@[simp] theorem runInputs_now : (s.runInputs f).now = s.now := rfl
@[simp] theorem runInputs_control : (s.runInputs f).control = s.control := rfl
@[simp] theorem runInputs_image : (s.runInputs f).image = s.image := rfl
@[simp] theorem runInputs_running : (s.runInputs f).running = s.running := rfl
@[simp] theorem runInputs_frames : (s.runInputs f).frames = s.frames := rfl
@[simp] theorem runInputs_signals : (s.runInputs f).signals = s.signals := rfl
@[simp] theorem runInputs_inputs : (s.runInputs f).inputs = (f s ⟨s.inputs, []⟩).st := rfl
@[simp] theorem runInputs_doors : (s.runInputs f).doors = s.doors := rfl
@[simp] theorem runInputs_gauges : (s.runInputs f).gauges = s.gauges := rfl
@[simp] theorem runInputs_warnings : (s.runInputs f).warnings = s.warnings := rfl
@[simp] theorem runInputs_lamps : (s.runInputs f).lamps = s.lamps := rfl
@[simp] theorem runInputs_faults : (s.runInputs f).faults = s.faults := rfl
@[simp] theorem runInputs_outbound : (s.runInputs f).outbound = s.outbound := rfl
@[simp] theorem runInputs_display : (s.runInputs f).display = s.display := rfl
@[simp] theorem runInputs_service : (s.runInputs f).service = s.service := rfl
@[simp] theorem runInputs_store : (s.runInputs f).store = s.store := rfl
@[simp] theorem runInputs_mail : (s.runInputs f).mail = s.mail ++ (f s ⟨s.inputs, []⟩).out := rfl

end

/-! ### runDoors -/

section
variable (f : State → Acc Doors → Acc Doors)

@[simp] theorem runDoors_pending : (s.runDoors f).pending = s.pending := rfl
@[simp] theorem runDoors_now : (s.runDoors f).now = s.now := rfl
@[simp] theorem runDoors_control : (s.runDoors f).control = s.control := rfl
@[simp] theorem runDoors_image : (s.runDoors f).image = s.image := rfl
@[simp] theorem runDoors_running : (s.runDoors f).running = s.running := rfl
@[simp] theorem runDoors_frames : (s.runDoors f).frames = s.frames := rfl
@[simp] theorem runDoors_signals : (s.runDoors f).signals = s.signals := rfl
@[simp] theorem runDoors_inputs : (s.runDoors f).inputs = s.inputs := rfl
@[simp] theorem runDoors_doors : (s.runDoors f).doors = (f s ⟨s.doors, []⟩).st := rfl
@[simp] theorem runDoors_gauges : (s.runDoors f).gauges = s.gauges := rfl
@[simp] theorem runDoors_warnings : (s.runDoors f).warnings = s.warnings := rfl
@[simp] theorem runDoors_lamps : (s.runDoors f).lamps = s.lamps := rfl
@[simp] theorem runDoors_faults : (s.runDoors f).faults = s.faults := rfl
@[simp] theorem runDoors_outbound : (s.runDoors f).outbound = s.outbound := rfl
@[simp] theorem runDoors_display : (s.runDoors f).display = s.display := rfl
@[simp] theorem runDoors_service : (s.runDoors f).service = s.service := rfl
@[simp] theorem runDoors_store : (s.runDoors f).store = s.store := rfl
@[simp] theorem runDoors_mail : (s.runDoors f).mail = s.mail ++ (f s ⟨s.doors, []⟩).out := rfl

end

/-! ### runGauges -/

section
variable (f : State → Acc Gauges → Acc Gauges)

@[simp] theorem runGauges_pending : (s.runGauges f).pending = s.pending := rfl
@[simp] theorem runGauges_now : (s.runGauges f).now = s.now := rfl
@[simp] theorem runGauges_control : (s.runGauges f).control = s.control := rfl
@[simp] theorem runGauges_image : (s.runGauges f).image = s.image := rfl
@[simp] theorem runGauges_running : (s.runGauges f).running = s.running := rfl
@[simp] theorem runGauges_frames : (s.runGauges f).frames = s.frames := rfl
@[simp] theorem runGauges_signals : (s.runGauges f).signals = s.signals := rfl
@[simp] theorem runGauges_inputs : (s.runGauges f).inputs = s.inputs := rfl
@[simp] theorem runGauges_doors : (s.runGauges f).doors = s.doors := rfl
@[simp] theorem runGauges_gauges : (s.runGauges f).gauges = (f s ⟨s.gauges, []⟩).st := rfl
@[simp] theorem runGauges_warnings : (s.runGauges f).warnings = s.warnings := rfl
@[simp] theorem runGauges_lamps : (s.runGauges f).lamps = s.lamps := rfl
@[simp] theorem runGauges_faults : (s.runGauges f).faults = s.faults := rfl
@[simp] theorem runGauges_outbound : (s.runGauges f).outbound = s.outbound := rfl
@[simp] theorem runGauges_display : (s.runGauges f).display = s.display := rfl
@[simp] theorem runGauges_service : (s.runGauges f).service = s.service := rfl
@[simp] theorem runGauges_store : (s.runGauges f).store = s.store := rfl
@[simp] theorem runGauges_mail : (s.runGauges f).mail = s.mail ++ (f s ⟨s.gauges, []⟩).out := rfl

end

/-! ### runWarnings -/

section
variable (f : State → Acc Warnings → Acc Warnings)

@[simp] theorem runWarnings_pending : (s.runWarnings f).pending = s.pending := rfl
@[simp] theorem runWarnings_now : (s.runWarnings f).now = s.now := rfl
@[simp] theorem runWarnings_control : (s.runWarnings f).control = s.control := rfl
@[simp] theorem runWarnings_image : (s.runWarnings f).image = s.image := rfl
@[simp] theorem runWarnings_running : (s.runWarnings f).running = s.running := rfl
@[simp] theorem runWarnings_frames : (s.runWarnings f).frames = s.frames := rfl
@[simp] theorem runWarnings_signals : (s.runWarnings f).signals = s.signals := rfl
@[simp] theorem runWarnings_inputs : (s.runWarnings f).inputs = s.inputs := rfl
@[simp] theorem runWarnings_doors : (s.runWarnings f).doors = s.doors := rfl
@[simp] theorem runWarnings_gauges : (s.runWarnings f).gauges = s.gauges := rfl
@[simp] theorem runWarnings_warnings : (s.runWarnings f).warnings = (f s ⟨s.warnings, []⟩).st := rfl
@[simp] theorem runWarnings_lamps : (s.runWarnings f).lamps = s.lamps := rfl
@[simp] theorem runWarnings_faults : (s.runWarnings f).faults = s.faults := rfl
@[simp] theorem runWarnings_outbound : (s.runWarnings f).outbound = s.outbound := rfl
@[simp] theorem runWarnings_display : (s.runWarnings f).display = s.display := rfl
@[simp] theorem runWarnings_service : (s.runWarnings f).service = s.service := rfl
@[simp] theorem runWarnings_store : (s.runWarnings f).store = s.store := rfl
@[simp] theorem runWarnings_mail : (s.runWarnings f).mail = s.mail ++ (f s ⟨s.warnings, []⟩).out := rfl

end

/-! ### runLamps -/

section
variable (f : State → Acc Lamps → Acc Lamps)

@[simp] theorem runLamps_pending : (s.runLamps f).pending = s.pending := rfl
@[simp] theorem runLamps_now : (s.runLamps f).now = s.now := rfl
@[simp] theorem runLamps_control : (s.runLamps f).control = s.control := rfl
@[simp] theorem runLamps_image : (s.runLamps f).image = s.image := rfl
@[simp] theorem runLamps_running : (s.runLamps f).running = s.running := rfl
@[simp] theorem runLamps_frames : (s.runLamps f).frames = s.frames := rfl
@[simp] theorem runLamps_signals : (s.runLamps f).signals = s.signals := rfl
@[simp] theorem runLamps_inputs : (s.runLamps f).inputs = s.inputs := rfl
@[simp] theorem runLamps_doors : (s.runLamps f).doors = s.doors := rfl
@[simp] theorem runLamps_gauges : (s.runLamps f).gauges = s.gauges := rfl
@[simp] theorem runLamps_warnings : (s.runLamps f).warnings = s.warnings := rfl
@[simp] theorem runLamps_lamps : (s.runLamps f).lamps = (f s ⟨s.lamps, []⟩).st := rfl
@[simp] theorem runLamps_faults : (s.runLamps f).faults = s.faults := rfl
@[simp] theorem runLamps_outbound : (s.runLamps f).outbound = s.outbound := rfl
@[simp] theorem runLamps_display : (s.runLamps f).display = s.display := rfl
@[simp] theorem runLamps_service : (s.runLamps f).service = s.service := rfl
@[simp] theorem runLamps_store : (s.runLamps f).store = s.store := rfl
@[simp] theorem runLamps_mail : (s.runLamps f).mail = s.mail ++ (f s ⟨s.lamps, []⟩).out := rfl

end

/-! ### runFaults -/

section
variable (f : State → Acc FaultUnit → Acc FaultUnit)

@[simp] theorem runFaults_pending : (s.runFaults f).pending = s.pending := rfl
@[simp] theorem runFaults_now : (s.runFaults f).now = s.now := rfl
@[simp] theorem runFaults_control : (s.runFaults f).control = s.control := rfl
@[simp] theorem runFaults_image : (s.runFaults f).image = s.image := rfl
@[simp] theorem runFaults_running : (s.runFaults f).running = s.running := rfl
@[simp] theorem runFaults_frames : (s.runFaults f).frames = s.frames := rfl
@[simp] theorem runFaults_signals : (s.runFaults f).signals = s.signals := rfl
@[simp] theorem runFaults_inputs : (s.runFaults f).inputs = s.inputs := rfl
@[simp] theorem runFaults_doors : (s.runFaults f).doors = s.doors := rfl
@[simp] theorem runFaults_gauges : (s.runFaults f).gauges = s.gauges := rfl
@[simp] theorem runFaults_warnings : (s.runFaults f).warnings = s.warnings := rfl
@[simp] theorem runFaults_lamps : (s.runFaults f).lamps = s.lamps := rfl
@[simp] theorem runFaults_faults : (s.runFaults f).faults = (f s ⟨s.faults, []⟩).st := rfl
@[simp] theorem runFaults_outbound : (s.runFaults f).outbound = s.outbound := rfl
@[simp] theorem runFaults_display : (s.runFaults f).display = s.display := rfl
@[simp] theorem runFaults_service : (s.runFaults f).service = s.service := rfl
@[simp] theorem runFaults_store : (s.runFaults f).store = s.store := rfl
@[simp] theorem runFaults_mail : (s.runFaults f).mail = s.mail ++ (f s ⟨s.faults, []⟩).out := rfl

end

/-! ### runOutbound -/

section
variable (f : State → Acc Outbound → Acc Outbound)

@[simp] theorem runOutbound_pending : (s.runOutbound f).pending = s.pending := rfl
@[simp] theorem runOutbound_now : (s.runOutbound f).now = s.now := rfl
@[simp] theorem runOutbound_control : (s.runOutbound f).control = s.control := rfl
@[simp] theorem runOutbound_image : (s.runOutbound f).image = s.image := rfl
@[simp] theorem runOutbound_running : (s.runOutbound f).running = s.running := rfl
@[simp] theorem runOutbound_frames : (s.runOutbound f).frames = s.frames := rfl
@[simp] theorem runOutbound_signals : (s.runOutbound f).signals = s.signals := rfl
@[simp] theorem runOutbound_inputs : (s.runOutbound f).inputs = s.inputs := rfl
@[simp] theorem runOutbound_doors : (s.runOutbound f).doors = s.doors := rfl
@[simp] theorem runOutbound_gauges : (s.runOutbound f).gauges = s.gauges := rfl
@[simp] theorem runOutbound_warnings : (s.runOutbound f).warnings = s.warnings := rfl
@[simp] theorem runOutbound_lamps : (s.runOutbound f).lamps = s.lamps := rfl
@[simp] theorem runOutbound_faults : (s.runOutbound f).faults = s.faults := rfl
@[simp] theorem runOutbound_outbound : (s.runOutbound f).outbound = (f s ⟨s.outbound, []⟩).st := rfl
@[simp] theorem runOutbound_display : (s.runOutbound f).display = s.display := rfl
@[simp] theorem runOutbound_service : (s.runOutbound f).service = s.service := rfl
@[simp] theorem runOutbound_store : (s.runOutbound f).store = s.store := rfl
@[simp] theorem runOutbound_mail : (s.runOutbound f).mail = s.mail ++ (f s ⟨s.outbound, []⟩).out := rfl

end

/-! ### runDisplay -/

section
variable (f : State → Acc Display → Acc Display)

@[simp] theorem runDisplay_pending : (s.runDisplay f).pending = s.pending := rfl
@[simp] theorem runDisplay_now : (s.runDisplay f).now = s.now := rfl
@[simp] theorem runDisplay_control : (s.runDisplay f).control = s.control := rfl
@[simp] theorem runDisplay_image : (s.runDisplay f).image = s.image := rfl
@[simp] theorem runDisplay_running : (s.runDisplay f).running = s.running := rfl
@[simp] theorem runDisplay_frames : (s.runDisplay f).frames = s.frames := rfl
@[simp] theorem runDisplay_signals : (s.runDisplay f).signals = s.signals := rfl
@[simp] theorem runDisplay_inputs : (s.runDisplay f).inputs = s.inputs := rfl
@[simp] theorem runDisplay_doors : (s.runDisplay f).doors = s.doors := rfl
@[simp] theorem runDisplay_gauges : (s.runDisplay f).gauges = s.gauges := rfl
@[simp] theorem runDisplay_warnings : (s.runDisplay f).warnings = s.warnings := rfl
@[simp] theorem runDisplay_lamps : (s.runDisplay f).lamps = s.lamps := rfl
@[simp] theorem runDisplay_faults : (s.runDisplay f).faults = s.faults := rfl
@[simp] theorem runDisplay_outbound : (s.runDisplay f).outbound = s.outbound := rfl
@[simp] theorem runDisplay_display : (s.runDisplay f).display = (f s ⟨s.display, []⟩).st := rfl
@[simp] theorem runDisplay_service : (s.runDisplay f).service = s.service := rfl
@[simp] theorem runDisplay_store : (s.runDisplay f).store = s.store := rfl
@[simp] theorem runDisplay_mail : (s.runDisplay f).mail = s.mail ++ (f s ⟨s.display, []⟩).out := rfl

end

/-! ### runService -/

section
variable (f : State → Acc Service → Acc Service)

@[simp] theorem runService_pending : (s.runService f).pending = s.pending := rfl
@[simp] theorem runService_now : (s.runService f).now = s.now := rfl
@[simp] theorem runService_control : (s.runService f).control = s.control := rfl
@[simp] theorem runService_image : (s.runService f).image = s.image := rfl
@[simp] theorem runService_running : (s.runService f).running = s.running := rfl
@[simp] theorem runService_frames : (s.runService f).frames = s.frames := rfl
@[simp] theorem runService_signals : (s.runService f).signals = s.signals := rfl
@[simp] theorem runService_inputs : (s.runService f).inputs = s.inputs := rfl
@[simp] theorem runService_doors : (s.runService f).doors = s.doors := rfl
@[simp] theorem runService_gauges : (s.runService f).gauges = s.gauges := rfl
@[simp] theorem runService_warnings : (s.runService f).warnings = s.warnings := rfl
@[simp] theorem runService_lamps : (s.runService f).lamps = s.lamps := rfl
@[simp] theorem runService_faults : (s.runService f).faults = s.faults := rfl
@[simp] theorem runService_outbound : (s.runService f).outbound = s.outbound := rfl
@[simp] theorem runService_display : (s.runService f).display = s.display := rfl
@[simp] theorem runService_service : (s.runService f).service = (f s ⟨s.service, []⟩).st := rfl
@[simp] theorem runService_store : (s.runService f).store = s.store := rfl
@[simp] theorem runService_mail : (s.runService f).mail = s.mail ++ (f s ⟨s.service, []⟩).out := rfl

end

/-! ### runStore -/

section
variable (f : State → Acc Store → Acc Store)

@[simp] theorem runStore_pending : (s.runStore f).pending = s.pending := rfl
@[simp] theorem runStore_now : (s.runStore f).now = s.now := rfl
@[simp] theorem runStore_control : (s.runStore f).control = s.control := rfl
@[simp] theorem runStore_image : (s.runStore f).image = s.image := rfl
@[simp] theorem runStore_running : (s.runStore f).running = s.running := rfl
@[simp] theorem runStore_frames : (s.runStore f).frames = s.frames := rfl
@[simp] theorem runStore_signals : (s.runStore f).signals = s.signals := rfl
@[simp] theorem runStore_inputs : (s.runStore f).inputs = s.inputs := rfl
@[simp] theorem runStore_doors : (s.runStore f).doors = s.doors := rfl
@[simp] theorem runStore_gauges : (s.runStore f).gauges = s.gauges := rfl
@[simp] theorem runStore_warnings : (s.runStore f).warnings = s.warnings := rfl
@[simp] theorem runStore_lamps : (s.runStore f).lamps = s.lamps := rfl
@[simp] theorem runStore_faults : (s.runStore f).faults = s.faults := rfl
@[simp] theorem runStore_outbound : (s.runStore f).outbound = s.outbound := rfl
@[simp] theorem runStore_display : (s.runStore f).display = s.display := rfl
@[simp] theorem runStore_service : (s.runStore f).service = s.service := rfl
@[simp] theorem runStore_store : (s.runStore f).store = (f s ⟨s.store, []⟩).st := rfl
@[simp] theorem runStore_mail : (s.runStore f).mail = s.mail ++ (f s ⟨s.store, []⟩).out := rfl

end

/-! ### runControl -/

section
variable (f : State → Acc Controller → Acc Controller)

@[simp] theorem runControl_pending : (s.runControl f).pending = s.pending := rfl
@[simp] theorem runControl_now : (s.runControl f).now = s.now := rfl
@[simp] theorem runControl_control : (s.runControl f).control = (f s ⟨s.control, []⟩).st := rfl
@[simp] theorem runControl_image : (s.runControl f).image = s.image := rfl
@[simp] theorem runControl_running : (s.runControl f).running = s.running := rfl
@[simp] theorem runControl_frames : (s.runControl f).frames = s.frames := rfl
@[simp] theorem runControl_signals : (s.runControl f).signals = s.signals := rfl
@[simp] theorem runControl_inputs : (s.runControl f).inputs = s.inputs := rfl
@[simp] theorem runControl_doors : (s.runControl f).doors = s.doors := rfl
@[simp] theorem runControl_gauges : (s.runControl f).gauges = s.gauges := rfl
@[simp] theorem runControl_warnings : (s.runControl f).warnings = s.warnings := rfl
@[simp] theorem runControl_lamps : (s.runControl f).lamps = s.lamps := rfl
@[simp] theorem runControl_faults : (s.runControl f).faults = s.faults := rfl
@[simp] theorem runControl_outbound : (s.runControl f).outbound = s.outbound := rfl
@[simp] theorem runControl_display : (s.runControl f).display = s.display := rfl
@[simp] theorem runControl_service : (s.runControl f).service = s.service := rfl
@[simp] theorem runControl_store : (s.runControl f).store = s.store := rfl
@[simp] theorem runControl_mail : (s.runControl f).mail = s.mail ++ (f s ⟨s.control, []⟩).out := rfl

end

/-! ### send, answer, setStaging, advance -/

@[simp] theorem send_pending (n : Notice) : (s.send n).pending = s.pending := rfl
@[simp] theorem send_now (n : Notice) : (s.send n).now = s.now := rfl
@[simp] theorem send_control (n : Notice) : (s.send n).control = s.control := rfl
@[simp] theorem send_image (n : Notice) : (s.send n).image = s.image := rfl
@[simp] theorem send_running (n : Notice) : (s.send n).running = s.running := rfl
@[simp] theorem send_frames (n : Notice) : (s.send n).frames = s.frames := rfl
@[simp] theorem send_signals (n : Notice) : (s.send n).signals = s.signals := rfl
@[simp] theorem send_inputs (n : Notice) : (s.send n).inputs = s.inputs := rfl
@[simp] theorem send_doors (n : Notice) : (s.send n).doors = s.doors := rfl
@[simp] theorem send_gauges (n : Notice) : (s.send n).gauges = s.gauges := rfl
@[simp] theorem send_warnings (n : Notice) : (s.send n).warnings = s.warnings := rfl
@[simp] theorem send_lamps (n : Notice) : (s.send n).lamps = s.lamps := rfl
@[simp] theorem send_faults (n : Notice) : (s.send n).faults = s.faults := rfl
@[simp] theorem send_outbound (n : Notice) : (s.send n).outbound = s.outbound := rfl
@[simp] theorem send_display (n : Notice) : (s.send n).display = s.display := rfl
@[simp] theorem send_service (n : Notice) : (s.send n).service = s.service := rfl
@[simp] theorem send_store (n : Notice) : (s.send n).store = s.store := rfl
@[simp] theorem send_mail (n : Notice) : (s.send n).mail = s.mail ++ [n] := rfl

@[simp] theorem answer_pending (p : Port) (c : Nat) (r : Result) (d : List Byte) : (s.answer p c r d).pending = s.pending := rfl
@[simp] theorem answer_now (p : Port) (c : Nat) (r : Result) (d : List Byte) : (s.answer p c r d).now = s.now := rfl
@[simp] theorem answer_control (p : Port) (c : Nat) (r : Result) (d : List Byte) : (s.answer p c r d).control = s.control := rfl
@[simp] theorem answer_image (p : Port) (c : Nat) (r : Result) (d : List Byte) : (s.answer p c r d).image = s.image := rfl
@[simp] theorem answer_running (p : Port) (c : Nat) (r : Result) (d : List Byte) : (s.answer p c r d).running = s.running := rfl
@[simp] theorem answer_frames (p : Port) (c : Nat) (r : Result) (d : List Byte) : (s.answer p c r d).frames = s.frames := rfl
@[simp] theorem answer_signals (p : Port) (c : Nat) (r : Result) (d : List Byte) : (s.answer p c r d).signals = s.signals := rfl
@[simp] theorem answer_inputs (p : Port) (c : Nat) (r : Result) (d : List Byte) : (s.answer p c r d).inputs = s.inputs := rfl
@[simp] theorem answer_doors (p : Port) (c : Nat) (r : Result) (d : List Byte) : (s.answer p c r d).doors = s.doors := rfl
@[simp] theorem answer_gauges (p : Port) (c : Nat) (r : Result) (d : List Byte) : (s.answer p c r d).gauges = s.gauges := rfl
@[simp] theorem answer_warnings (p : Port) (c : Nat) (r : Result) (d : List Byte) : (s.answer p c r d).warnings = s.warnings := rfl
@[simp] theorem answer_lamps (p : Port) (c : Nat) (r : Result) (d : List Byte) : (s.answer p c r d).lamps = s.lamps := rfl
@[simp] theorem answer_faults (p : Port) (c : Nat) (r : Result) (d : List Byte) : (s.answer p c r d).faults = s.faults := rfl
@[simp] theorem answer_outbound (p : Port) (c : Nat) (r : Result) (d : List Byte) : (s.answer p c r d).outbound = s.outbound := rfl
@[simp] theorem answer_display (p : Port) (c : Nat) (r : Result) (d : List Byte) : (s.answer p c r d).display = s.display := rfl
@[simp] theorem answer_service (p : Port) (c : Nat) (r : Result) (d : List Byte) : (s.answer p c r d).service = s.service := rfl
@[simp] theorem answer_store (p : Port) (c : Nat) (r : Result) (d : List Byte) : (s.answer p c r d).store = s.store := rfl
@[simp] theorem answer_mail (p : Port) (c : Nat) (r : Result) (d : List Byte) :
    (s.answer p c r d).mail = s.mail ++ [.respond p c r d] := rfl

@[simp] theorem setStaging_pending (p : Port) (g : Option Staging) : (s.setStaging p g).pending = s.pending := rfl
@[simp] theorem setStaging_now (p : Port) (g : Option Staging) : (s.setStaging p g).now = s.now := rfl
@[simp] theorem setStaging_control (p : Port) (g : Option Staging) : (s.setStaging p g).control = s.control := rfl
@[simp] theorem setStaging_image (p : Port) (g : Option Staging) : (s.setStaging p g).image = s.image := rfl
@[simp] theorem setStaging_running (p : Port) (g : Option Staging) : (s.setStaging p g).running = s.running := rfl
@[simp] theorem setStaging_frames (p : Port) (g : Option Staging) : (s.setStaging p g).frames = s.frames := rfl
@[simp] theorem setStaging_signals (p : Port) (g : Option Staging) : (s.setStaging p g).signals = s.signals := rfl
@[simp] theorem setStaging_inputs (p : Port) (g : Option Staging) : (s.setStaging p g).inputs = s.inputs := rfl
@[simp] theorem setStaging_doors (p : Port) (g : Option Staging) : (s.setStaging p g).doors = s.doors := rfl
@[simp] theorem setStaging_gauges (p : Port) (g : Option Staging) : (s.setStaging p g).gauges = s.gauges := rfl
@[simp] theorem setStaging_warnings (p : Port) (g : Option Staging) : (s.setStaging p g).warnings = s.warnings := rfl
@[simp] theorem setStaging_lamps (p : Port) (g : Option Staging) : (s.setStaging p g).lamps = s.lamps := rfl
@[simp] theorem setStaging_faults (p : Port) (g : Option Staging) : (s.setStaging p g).faults = s.faults := rfl
@[simp] theorem setStaging_outbound (p : Port) (g : Option Staging) : (s.setStaging p g).outbound = s.outbound := rfl
@[simp] theorem setStaging_display (p : Port) (g : Option Staging) : (s.setStaging p g).display = s.display := rfl
@[simp] theorem setStaging_store (p : Port) (g : Option Staging) : (s.setStaging p g).store = s.store := rfl
@[simp] theorem setStaging_mail (p : Port) (g : Option Staging) : (s.setStaging p g).mail = s.mail := rfl

@[simp] theorem advance_pending (dt : Nat) : (s.advance dt).pending = s.pending := rfl
@[simp] theorem advance_image (dt : Nat) : (s.advance dt).image = s.image := rfl
@[simp] theorem advance_running (dt : Nat) : (s.advance dt).running = s.running := rfl
@[simp] theorem advance_frames (dt : Nat) : (s.advance dt).frames = s.frames := rfl
@[simp] theorem advance_signals (dt : Nat) : (s.advance dt).signals = s.signals := rfl
@[simp] theorem advance_inputs (dt : Nat) : (s.advance dt).inputs = s.inputs := rfl
@[simp] theorem advance_doors (dt : Nat) : (s.advance dt).doors = s.doors := rfl
@[simp] theorem advance_gauges (dt : Nat) : (s.advance dt).gauges = s.gauges := rfl
@[simp] theorem advance_lamps (dt : Nat) : (s.advance dt).lamps = s.lamps := rfl
@[simp] theorem advance_faults (dt : Nat) : (s.advance dt).faults = s.faults := rfl
@[simp] theorem advance_outbound (dt : Nat) : (s.advance dt).outbound = s.outbound := rfl
@[simp] theorem advance_display (dt : Nat) : (s.advance dt).display = s.display := rfl
@[simp] theorem advance_service (dt : Nat) : (s.advance dt).service = s.service := rfl
@[simp] theorem advance_store (dt : Nat) : (s.advance dt).store = s.store := rfl
@[simp] theorem advance_mail (dt : Nat) : (s.advance dt).mail = s.mail := rfl
@[simp] theorem advance_now (dt : Nat) : (s.advance dt).now = s.now + dt := rfl

@[simp] theorem advanceTo_pending (t : Nat) : (s.advanceTo t).pending = s.pending := rfl
@[simp] theorem advanceTo_image (t : Nat) : (s.advanceTo t).image = s.image := rfl
@[simp] theorem advanceTo_running (t : Nat) : (s.advanceTo t).running = s.running := rfl
@[simp] theorem advanceTo_frames (t : Nat) : (s.advanceTo t).frames = s.frames := rfl
@[simp] theorem advanceTo_signals (t : Nat) : (s.advanceTo t).signals = s.signals := rfl
@[simp] theorem advanceTo_inputs (t : Nat) : (s.advanceTo t).inputs = s.inputs := rfl
@[simp] theorem advanceTo_doors (t : Nat) : (s.advanceTo t).doors = s.doors := rfl
@[simp] theorem advanceTo_gauges (t : Nat) : (s.advanceTo t).gauges = s.gauges := rfl
@[simp] theorem advanceTo_lamps (t : Nat) : (s.advanceTo t).lamps = s.lamps := rfl
@[simp] theorem advanceTo_faults (t : Nat) : (s.advanceTo t).faults = s.faults := rfl
@[simp] theorem advanceTo_outbound (t : Nat) : (s.advanceTo t).outbound = s.outbound := rfl
@[simp] theorem advanceTo_display (t : Nat) : (s.advanceTo t).display = s.display := rfl
@[simp] theorem advanceTo_service (t : Nat) : (s.advanceTo t).service = s.service := rfl
@[simp] theorem advanceTo_store (t : Nat) : (s.advanceTo t).store = s.store := rfl
@[simp] theorem advanceTo_mail (t : Nat) : (s.advanceTo t).mail = s.mail := rfl
@[simp] theorem advanceTo_now (t : Nat) : (s.advanceTo t).now = s.now + (t - s.now) := rfl

theorem advance_mode (dt : Nat) : (s.advance dt).control.mode = s.control.mode := by
  simp only [State.advance]; split <;> rfl

theorem advanceTo_mode (t : Nat) : (s.advanceTo t).control.mode = s.control.mode := advance_mode s _

/-! ### restartSleep, setMode -/

@[simp] theorem restartSleep_pending : s.restartSleep.pending = s.pending := rfl
@[simp] theorem restartSleep_now : s.restartSleep.now = s.now := rfl
@[simp] theorem restartSleep_image : s.restartSleep.image = s.image := rfl
@[simp] theorem restartSleep_running : s.restartSleep.running = s.running := rfl
@[simp] theorem restartSleep_frames : s.restartSleep.frames = s.frames := rfl
@[simp] theorem restartSleep_signals : s.restartSleep.signals = s.signals := rfl
@[simp] theorem restartSleep_inputs : s.restartSleep.inputs = s.inputs := rfl
@[simp] theorem restartSleep_doors : s.restartSleep.doors = s.doors := rfl
@[simp] theorem restartSleep_gauges : s.restartSleep.gauges = s.gauges := rfl
@[simp] theorem restartSleep_warnings : s.restartSleep.warnings = s.warnings := rfl
@[simp] theorem restartSleep_lamps : s.restartSleep.lamps = s.lamps := rfl
@[simp] theorem restartSleep_faults : s.restartSleep.faults = s.faults := rfl
@[simp] theorem restartSleep_outbound : s.restartSleep.outbound = s.outbound := rfl
@[simp] theorem restartSleep_display : s.restartSleep.display = s.display := rfl
@[simp] theorem restartSleep_service : s.restartSleep.service = s.service := rfl
@[simp] theorem restartSleep_store : s.restartSleep.store = s.store := rfl
@[simp] theorem restartSleep_mail : s.restartSleep.mail = s.mail := rfl
@[simp] theorem restartSleep_mode : s.restartSleep.control.mode = s.control.mode := rfl

@[simp] theorem setMode_pending (m : Mode) : (s.setMode m).pending = s.pending := by simp only [State.setMode]; split <;> rfl
@[simp] theorem setMode_now (m : Mode) : (s.setMode m).now = s.now := by simp only [State.setMode]; split <;> rfl
@[simp] theorem setMode_image (m : Mode) : (s.setMode m).image = s.image := by simp only [State.setMode]; split <;> rfl
@[simp] theorem setMode_running (m : Mode) : (s.setMode m).running = s.running := by simp only [State.setMode]; split <;> rfl
@[simp] theorem setMode_frames (m : Mode) : (s.setMode m).frames = s.frames := by simp only [State.setMode]; split <;> rfl
@[simp] theorem setMode_signals (m : Mode) : (s.setMode m).signals = s.signals := by simp only [State.setMode]; split <;> rfl
@[simp] theorem setMode_inputs (m : Mode) : (s.setMode m).inputs = s.inputs := by simp only [State.setMode]; split <;> rfl
@[simp] theorem setMode_doors (m : Mode) : (s.setMode m).doors = s.doors := by simp only [State.setMode]; split <;> rfl
@[simp] theorem setMode_gauges (m : Mode) : (s.setMode m).gauges = s.gauges := by simp only [State.setMode]; split <;> rfl
@[simp] theorem setMode_warnings (m : Mode) : (s.setMode m).warnings = s.warnings := by simp only [State.setMode]; split <;> rfl
@[simp] theorem setMode_lamps (m : Mode) : (s.setMode m).lamps = s.lamps := by simp only [State.setMode]; split <;> rfl
@[simp] theorem setMode_faults (m : Mode) : (s.setMode m).faults = s.faults := by simp only [State.setMode]; split <;> rfl
@[simp] theorem setMode_outbound (m : Mode) : (s.setMode m).outbound = s.outbound := by simp only [State.setMode]; split <;> rfl
@[simp] theorem setMode_display (m : Mode) : (s.setMode m).display = s.display := by simp only [State.setMode]; split <;> rfl
@[simp] theorem setMode_service (m : Mode) : (s.setMode m).service = s.service := by simp only [State.setMode]; split <;> rfl
@[simp] theorem setMode_store (m : Mode) : (s.setMode m).store = s.store := by simp only [State.setMode]; split <;> rfl
@[simp] theorem setMode_mail (m : Mode) : (s.setMode m).mail = s.mail := by simp only [State.setMode]; split <;> rfl
@[simp] theorem setMode_mode (m : Mode) : (s.setMode m).control.mode = m := by simp only [State.setMode]; split <;> rfl

/-! ### writeMode -/

@[simp] theorem writeMode_pending : s.writeMode.pending = s.pending := rfl
@[simp] theorem writeMode_now : s.writeMode.now = s.now := rfl
@[simp] theorem writeMode_control : s.writeMode.control = s.control := rfl
@[simp] theorem writeMode_image : s.writeMode.image = s.image := rfl
@[simp] theorem writeMode_running : s.writeMode.running = s.running := rfl
@[simp] theorem writeMode_frames : s.writeMode.frames = s.frames := rfl
@[simp] theorem writeMode_signals : s.writeMode.signals = s.signals := rfl
@[simp] theorem writeMode_inputs : s.writeMode.inputs = s.inputs := rfl
@[simp] theorem writeMode_doors : s.writeMode.doors = s.doors := rfl
@[simp] theorem writeMode_gauges : s.writeMode.gauges = s.gauges := rfl
@[simp] theorem writeMode_warnings : s.writeMode.warnings = s.warnings := rfl
@[simp] theorem writeMode_lamps : s.writeMode.lamps = s.lamps := rfl
@[simp] theorem writeMode_faults : s.writeMode.faults = s.faults := rfl
@[simp] theorem writeMode_outbound : s.writeMode.outbound = s.outbound := rfl
@[simp] theorem writeMode_service : s.writeMode.service = s.service := rfl
@[simp] theorem writeMode_store : s.writeMode.store = s.store := rfl

end Sys2Proof.Machine
end

