-- ==== Sys2Proof/Laws/Steps.lean ====
section
/-! SUPPORT. Laws/Steps: the delivery of notices and the end of a step, as induction principles; what a happening, an expiry
and a request can be. -/

namespace Sys2Proof.Machine

/-- A property that taking one notice keeps, whatever the mail, is kept by taking any number of them. -/
theorem settle_keeps {P : State → Prop} (mail : ∀ s l, P s → P { s with mail := l }) (one : ∀ m s, P s → P (handle m s)) :
    ∀ n s, P s → P (settle n s)
  | 0, _, h => h
  | n + 1, s, h => by
    unfold settle
    split
    · exact h
    · exact settle_keeps mail one n _ (one _ _ (mail _ _ h))

/-- The same for the end of a step, when the picks and the start of a transfer keep it too. -/
theorem finish_keeps {P : State → Prop} (mail : ∀ s l, P s → P { s with mail := l }) (one : ∀ m s, P s → P (handle m s))
    (pump : ∀ s, P s → P s.pump) (s : State) (h : P s) : P (finish s) :=
  pump _ (settle_keeps mail one _ _ h)

/-- With nothing to deliver only the picks and the start of a transfer follow. -/
theorem finish_of_no_mail {s : State} (h : s.mail = []) : finish s = s.pump := by
  simp only [finish]
  have : ∀ n, settle n s = s := by intro n; cases n <;> simp [settle, h]
  rw [this]

theorem happening_true (f : State → State) (s : State) : happening true f s = .next (finish (f s)) := rfl

theorem happening_false (f : State → State) (s : State) : happening false f s = .next s := rfl

theorem expiry_some (t : Nat) (f : State → State) (s : State) : expiry (some t) f s = .next (finish (f (s.advanceTo t))) := rfl

theorem expiry_none (f : State → State) (s : State) : expiry none f s = .next s := rfl

/-- A property that `f` and the end of a step keep is kept by a happening. -/
theorem happening_keeps {P : State → Prop} {b : Bool} {f : State → State} {s t : State} (hs : P s) (hf : P s → P (finish (f s)))
    (h : happening b f s = .next t) : P t := by
  unfold happening at h
  split at h <;> cases h
  · exact hf hs
  · exact hs

/-- The same for an expiry. -/
theorem expiry_keeps {P : State → Prop} {timer : Option Nat} {f : State → State} {s t : State} (hs : P s)
    (hf : ∀ u, P (finish (f (s.advanceTo u)))) (h : expiry timer f s = .next t) : P t := by
  unfold expiry at h
  split at h <;> cases h
  · exact hf _
  · exact hs

/-- A request that passes the first five checks of R174 comes to its own checks and its work. -/
theorem request_served {p : Port} {code : Nat} {workshop : Bool} {modes : List Mode} {busy : State → Bool} {work : State → State}
    {s : State} (serving : s.control.mode ∈ servingModes) (access : workshop = true → (s.runService evaluateAccess).service.workshop = true)
    (mode : s.control.mode ∈ modes) (free : busy (s.runService evaluateAccess) = false) :
    State.request p code workshop modes busy true work s = work (s.runService evaluateAccess) := by
  have h : (workshop && !(s.runService evaluateAccess).service.workshop) = false := by
    cases workshop
    · rfl
    · simp only [access rfl]; rfl
  simp only [State.request, serving, ↓reduceIte, h, Bool.false_eq_true, free, runService_control, mode, not_true_eq_false,
    Bool.not_true]

/-- A request in a mode that serves none is not served. -/
theorem request_unserved {p : Port} {code : Nat} {workshop : Bool} {modes : List Mode} {busy : State → Bool} {lengthOk : Bool}
    {work : State → State} {s : State} (h : s.control.mode ∉ servingModes) :
    State.request p code workshop modes busy lengthOk work s = s := by
  simp only [State.request, h, ↓reduceIte]

/-- The access level after an evaluation is the one the signals give (R175), unless the loss of access has changed the mode
first, which it never does within the evaluation. -/
theorem evaluateAccess_workshop (s : State) (a : Acc Service) : (evaluateAccess s a).st.workshop = accessNow s := by
  simp only [evaluateAccess]
  split
  · split
    · split <;> rfl
    · simp only [endTest]
      split <;> rfl
  · rfl

end Sys2Proof.Machine
end

