-- ==== Sys2Proof/Laws/Blocks.lean ====
section
/-! SUPPORT. Laws/Blocks: the steps of a running commit, the re-reports after CLEAR FAULTS, the writes of derived signals, the events,
the coils and the scale of a gauge, the requests of a lamp, the buzzer, the display records, the counts handed on and the MODE record,
the top of the stack, segments and the fields of data, what a queue of a port, a record and the Fault Unit do
with what they are handed, the LAMPS content: everything the shared operations of these can do. -/

namespace Sys2Proof.Machine

/-! ### Commits -/

section
variable (s : State)

/-- The next step of a commit touches the store and the changed flag alone. -/
theorem commitTick_frame :
    s.commitTick = { s with
      store := s.commitTick.store, faults := { s.faults with changed := s.commitTick.faults.changed } } := by
  unfold State.commitTick
  split <;> rfl

@[simp] theorem commitTick_pending : s.commitTick.pending = s.pending := by rw [commitTick_frame]
@[simp] theorem commitTick_mail : s.commitTick.mail = s.mail := by rw [commitTick_frame]
@[simp] theorem commitTick_now : s.commitTick.now = s.now := by rw [commitTick_frame]
@[simp] theorem commitTick_control : s.commitTick.control = s.control := by rw [commitTick_frame]
@[simp] theorem commitTick_image : s.commitTick.image = s.image := by rw [commitTick_frame]
@[simp] theorem commitTick_running : s.commitTick.running = s.running := by rw [commitTick_frame]
@[simp] theorem commitTick_frames : s.commitTick.frames = s.frames := by rw [commitTick_frame]
@[simp] theorem commitTick_signals : s.commitTick.signals = s.signals := by rw [commitTick_frame]
@[simp] theorem commitTick_inputs : s.commitTick.inputs = s.inputs := by rw [commitTick_frame]
@[simp] theorem commitTick_doors : s.commitTick.doors = s.doors := by rw [commitTick_frame]
@[simp] theorem commitTick_gauges : s.commitTick.gauges = s.gauges := by rw [commitTick_frame]
@[simp] theorem commitTick_warnings : s.commitTick.warnings = s.warnings := by rw [commitTick_frame]
@[simp] theorem commitTick_lamps : s.commitTick.lamps = s.lamps := by rw [commitTick_frame]
@[simp] theorem commitTick_items : s.commitTick.faults.items = s.faults.items := by rw [commitTick_frame]
@[simp] theorem commitTick_outbound : s.commitTick.outbound = s.outbound := by rw [commitTick_frame]
@[simp] theorem commitTick_display : s.commitTick.display = s.display := by rw [commitTick_frame]
@[simp] theorem commitTick_service : s.commitTick.service = s.service := by rw [commitTick_frame]

variable {s}

/-- With no commit before its save there is no next step. -/
theorem commitTick_of_no_commit (h : ∀ n step, s.store.operation ≠ some (.commit n step)) : s.commitTick = s := by
  unfold State.commitTick
  split
  · next e => exact absurd e (h _ _)
  · next e => exact absurd e (h _ _)
  · next e => exact absurd e (h _ _)
  · rfl

theorem commitTick_erase {n : Fin 4} (h : s.store.operation = some (.commit n .erase)) :
    s.commitTick = { s with store := { s.store with operation := some (.commit n .write) } } := by
  simp only [State.commitTick, h]

theorem commitTick_write {n : Fin 4} (h : s.store.operation = some (.commit n .write)) :
    s.commitTick = { s with store := { s.store with
      slots := s.store.slots.set n ⟨some s.image, false⟩, operation := some (.commit n .check) } } := by
  simp only [State.commitTick, h]

theorem commitTick_check {n : Fin 4} (h : s.store.operation = some (.commit n .check)) :
    s.commitTick = { s with
      store := { s.store.spoil with
        slots := s.store.slots.set n ⟨some s.image, true⟩, status := s.store.status.set n true
        operation := some (.commitSave n s.faults.items) }
      faults := { s.faults with changed := false } } := by
  simp only [State.commitTick, h]

/-- A step that has been reached asks for nothing more. -/
theorem commitAt_reached {k : StoreStep} (h : stepRank k ≤ s.store.rank) : s.commitAt k = s := by
  simp only [State.commitAt, Nat.sub_eq_zero_of_le h, Nat.repeat]

/-- Nothing but a commit before its save has a step to reach. -/
theorem commitAt_of_no_commit (k : StoreStep) (h : ∀ n step, s.store.operation ≠ some (.commit n step)) : s.commitAt k = s := by
  apply commitAt_reached
  have : s.store.rank = 3 := by
    unfold Store.rank
    split
    · next e => exact absurd e (h _ _)
    · next e => exact absurd e (h _ _)
    · next e => exact absurd e (h _ _)
    · rfl
  rw [this]
  cases k <;> decide

/-- A property that the next step of a commit keeps holds at every step that is reached. -/
theorem commitAt_keeps {P : State → Prop} (tick : ∀ s, P s → P s.commitTick) (k : StoreStep) (h : P s) : P (s.commitAt k) := by
  unfold State.commitAt
  generalize stepRank k - s.store.rank = n
  induction n with
  | zero => exact h
  | succ n ih => exact tick _ ih

/-- A millisecond without a command, no commit running: time alone passes. -/
theorem idle_of_no_commit (h : ∀ n step, s.store.operation ≠ some (.commit n step)) : s.idle = s.advance 1 :=
  commitTick_of_no_commit (s := s.advance 1) (by simpa using h)

end

/-! ### Re-reports -/

theorem rereport_not_due (latch : Bool) (reported : Option Nat) (fault : Option FaultCode) (source : FaultSource) :
    rereport false latch reported fault source = (reported, []) := rfl

theorem rereport_due (reported : Option Nat) (fault : Option FaultCode) (source : FaultSource) :
    rereport true true reported fault source = raiseFlag reported fault source := rfl

theorem doorRereport_not_due {img : Image} {d : Fin 6} {r : DoorRun} (h : r.due = false) :
    doorRereport img d r = (r.reported, []) := by simp [doorRereport, h]

theorem doorRereport_not_fault {img : Image} {d : Fin 6} {r : DoorRun} (h : r.state ≠ .fault) :
    doorRereport img d r = (r.reported, []) := by simp [doorRereport, h]

/-- A door that the configuration just taken disables ends its report and makes none. -/
theorem doorFarewell_disabled (img : Image) (d : Fin 6) (r : DoorRun) :
    doorFarewell img d false r
      = (clearFlag r.reported (.door d)).2 ++ (if r.state == .unknown then [] else [.activity]) := by
  simp [doorFarewell]

/-- A scan leaves no re-report due. -/
theorem sampleDiscrete_due (img : Image) (n : Fin 24) (cfg : DiscreteConfig) (level : Nat) (r : DiscreteRun) :
    (sampleDiscrete img n cfg level r).1.due = false := by
  simp only [sampleDiscrete, takeClass]
  split
  · split <;> rfl
  · rfl

/-! ### Writes of derived signals -/

/-- A producer writes its signal while the source record names it, and sends nothing else (R82). -/
theorem derivedWrite_mem {img : Image} {target : Option (Fin 256)} {p : Producer} {v : Int} {m : Notice} :
    m ∈ derivedWrite img target p v ↔
      ∃ i, target = some i ∧ (img.signals.get i).source = .derived p ∧ m = .write i (.bare v) := by
  cases target with
  | none => simp [derivedWrite]
  | some i =>
    simp only [derivedWrite, beq_iff_eq, Option.some.injEq]
    split <;> simp_all

/-! ### Gauges and their coils -/

@[simp] theorem onGauges_get (f : Fin 6 → GaugeRun → Told GaugeRun) (a : Acc Gauges) (g : Fin 6) :
    (Gauges.onGauges f a).st.gauges.get g = (f g (a.st.gauges.get g)).1 := by
  simp only [Gauges.onGauges, tellRows_get, showGauge]
  split <;> rfl

/-- An event reaches a gauge that is in use, and leaves any other. -/
@[simp] theorem onInUse_get (s : State) (f : Fin 6 → GaugeConfig → GaugeRun → Told GaugeRun) (a : Acc Gauges) (g : Fin 6) :
    (Gauges.onInUse s f a).st.gauges.get g =
      if (s.running.gauges.get g).inUse then (f g (s.running.gauges.get g) (a.st.gauges.get g)).1 else a.st.gauges.get g := by
  simp only [Gauges.onInUse, onGauges_get]
  split <;> rfl

@[simp] theorem enter_state (st : GaugeState) (r : GaugeRun) : (r.enter st).state = st := rfl
@[simp] theorem enter_coils (st : GaugeState) (r : GaugeRun) : (r.enter st).coils = st.energized := rfl
@[simp] theorem enter_position (st : GaugeState) (r : GaugeRun) : (r.enter st).position = r.position := rfl
@[simp] theorem enter_demand (st : GaugeState) (r : GaugeRun) : (r.enter st).demand = r.demand := rfl
@[simp] theorem enter_target (st : GaugeState) (r : GaugeRun) : (r.enter st).target = r.target := rfl
@[simp] theorem enter_filter (st : GaugeState) (r : GaugeRun) : (r.enter st).filter = r.filter := rfl
@[simp] theorem enter_view (st : GaugeState) (r : GaugeRun) : (r.enter st).view = r.view := rfl

/-- Through an update the coils follow the state. -/
theorem updateGauge_coils (cfg : GaugeConfig) {r : GaugeRun} (h : r.coils = r.state.energized) :
    (updateGauge cfg r).coils = (updateGauge cfg r).state.energized := by
  simp only [updateGauge]
  repeat' split
  all_goals first | exact h | rfl


/-! ### Buzzer -/

/-- What a resolution does to the buzzer: its pattern, and the tone at which it sounds (R137). -/
@[simp] theorem relight_buzzer (s : State) (a : Acc Lamps) : (relight s a).st.buzzer = buzzerPattern s := by
  simp only [relight, Acc.sayIf, Acc.upd]; split <;> rfl

@[simp] theorem relight_buzzerTone (s : State) (a : Acc Lamps) :
    (relight s a).st.buzzerTone = toneOf s.running a.st.step (buzzerPattern s) := by
  simp only [relight, Acc.sayIf, Acc.upd]; split <;> rfl

@[simp] theorem relight_step (s : State) (a : Acc Lamps) : (relight s a).st.step = a.st.step := by
  simp only [relight, Acc.sayIf, Acc.upd]; split <;> rfl

/-- The buzzer sounds at no tone but the running one. -/
theorem toneOf_eq_some {img : Image} {step f : Nat} {p : Lit} (h : toneOf img step p = some f) :
    litOn img step p = true ∧ f = 100 * img.general.tone := by
  simp only [toneOf] at h; split at h <;> simp_all

/-! ### Requests of a lamp -/

theorem addRequest_mem {q o : LampRequest} {l : List LampRequest} : o ∈ addRequest q l ↔ o = q ∨ o ∈ l := by
  induction l with
  | nil => simp [addRequest]
  | cons x l ih =>
    simp only [addRequest]
    split
    · simp
    · simp only [List.mem_cons, ih]
      tauto

theorem before_trans {a b c : LampRequest} (h : a.before b) (h' : b.before c) : a.before c := by
  rcases h with h | ⟨h, hw⟩ <;> rcases h' with h' | ⟨h', hw'⟩
  · exact .inl (h.trans h')
  · exact .inl (h' ▸ h)
  · exact .inl (h ▸ h')
  · exact .inr ⟨h.trans h', lt_trans hw hw'⟩

theorem before_total {a b : LampRequest} (hw : a.warning ≠ b.warning) : a.before b ∨ b.before a := by
  rcases Nat.lt_trichotomy a.level b.level with h | h | h
  · exact .inl (.inl h)
  · rcases lt_or_gt_of_ne hw with h' | h'
    · exact .inl (.inr ⟨h, h'⟩)
    · exact .inr (.inr ⟨h.symm, h'⟩)
  · exact .inr (.inl h)

/-- A request of a warning that has none there keeps the order (R129). -/
theorem addRequest_ordered {q : LampRequest} {l : List LampRequest} (h : l.Pairwise LampRequest.before)
    (hn : ∀ o ∈ l, o.warning ≠ q.warning) : (addRequest q l).Pairwise LampRequest.before := by
  induction l with
  | nil => simp [addRequest]
  | cons x l ih =>
    obtain ⟨hx, hl⟩ := List.pairwise_cons.1 h
    simp only [addRequest]
    split
    · next hq =>
      refine List.pairwise_cons.2 ⟨fun o ho => ?_, h⟩
      rcases List.mem_cons.1 ho with rfl | ho
      · exact hq
      · exact before_trans hq (hx o ho)
    · next hq =>
      refine List.pairwise_cons.2 ⟨fun o ho => ?_, ih hl fun o ho => hn o (List.mem_cons_of_mem _ ho)⟩
      rcases addRequest_mem.1 ho with rfl | ho
      · exact (before_total (hn x List.mem_cons_self)).resolve_right hq
      · exact hx o ho

/-! ### Display records -/

/-- All that following its conditions does to the stall timer, and to the display (R170). -/
theorem restall_eq (s : State) (a : Acc Display) :
    restall s a = ⟨{ a.st with
      stall := if a.st.link == .running && s.control.mode.sends && !a.st.ready && anyDirty a.st then
          some (a.st.stall.getD (s.now + Config.stallMs)) else none }, a.out⟩ := by
  obtain ⟨⟨records, link, refresh, stall, ready, flight, reported⟩, out⟩ := a
  simp only [restall, Acc.upd]
  split
  · cases stall <;> rfl
  · rfl

theorem restall_frame (s : State) (a : Acc Display) : ∃ t, restall s a = { a with st := { a.st with stall := t } } :=
  ⟨_, restall_eq s a⟩

/-- Once it follows its conditions it goes on as it does. -/
@[simp] theorem restall_restall (s : State) (a : Acc Display) : restall s (restall s a) = restall s a := by
  rw [restall_eq s (restall s a)]
  have h : anyDirty (restall s a).st = anyDirty a.st := by rw [restall_eq]; rfl
  rw [h]
  simp only [restall_eq]
  split <;> rfl

@[simp] theorem mapRecords_get (s : State) (f : Fin 64 → RecordKind → DisplayRecord → DisplayRecord) (a : Acc Display)
    (i : Fin 64) : (Display.mapRecords s f a).st.records.get i = f i (s.running.display.get i) (a.st.records.get i) := by
  unfold Display.mapRecords
  obtain ⟨t, h⟩ := restall_frame s (a.upd fun d =>
    { d with records := d.records.mapIdx fun i r => f i (s.running.display.get i) r })
  rw [h]
  exact Tab.get_mapIdx _ _ _

/-- Taking the kinds leaves the flag of a record of kind NONE as it was (R166). -/
theorem takeKind_none_dirty (changed : Bool) (r : DisplayRecord) : (takeKind changed .none r).dirty = r.dirty := rfl

/-- Taking the kinds keeps a record dirty or sent as it stands (R166). -/
theorem takeKind_sound {changed : Bool} {kind : RecordKind} {r : DisplayRecord}
    (h : r.dirty = true ∨ r.current = r.lastSent) :
    (takeKind changed kind r).dirty = true ∨ (takeKind changed kind r).current = (takeKind changed kind r).lastSent := by
  cases changed <;> rcases h with h | h <;> simp [takeKind, h]

/-- So does a completed transfer (R166, R168). -/
theorem sentRecord_sound {kind : RecordKind} {copy : List Byte} {r : DisplayRecord}
    (h : kind = .none → r.current = r.lastSent) :
    (sentRecord kind copy r).dirty = true ∨ (sentRecord kind copy r).current = (sentRecord kind copy r).lastSent := by
  by_cases hc : r.current = copy
  · right
    by_cases hk : kind = .none
    · simp [sentRecord, hk, h hk]
    · simp [sentRecord, hk, hc]
  · left
    simp [sentRecord, hc]

@[simp] theorem restall_records (s : State) (a : Acc Display) : (restall s a).st.records = a.st.records := by
  obtain ⟨t, h⟩ := restall_frame s a
  rw [h]

@[simp] theorem clearStall_records (a : Acc Display) : (clearStall a).st.records = a.st.records := by
  simp only [clearStall, upd_st, sayIf_st]

/-- A change of mode may mark records dirty; it leaves what they hold. -/
theorem displayMode_current (old new : Mode) (s : State) (a : Acc Display) (i : Fin 64) :
    ((displayMode old new s a).st.records.get i).current = (a.st.records.get i).current := by
  have mark : ∀ b : Acc Display, ((markAll s b).st.records.get i).current = (b.st.records.get i).current := by
    intro b
    simp only [markAll, mapRecords_get]
    split <;> rfl
  cases new <;> simp only [displayMode] <;> first
    | simp only [upd_st, clearStall_records]
    | (split
       · rw [mark]; rfl
       · split <;> simp only [restall_records, upd_st])

/-! ### Counts handed and the MODE record -/

@[simp] theorem handCount_st (before : Persistent) (a : Acc FaultUnit) : (handCount before a).st = a.st := by
  simp only [handCount, sayIf_st]

@[simp] theorem edit_items (f : Persistent → Persistent) (a : Acc FaultUnit) : (edit f a).st.items = f a.st.items := by
  simp only [edit, handCount_st, upd_st]

/-- An edit that changes neither the record count nor the overflow indicator hands nothing on. -/
theorem edit_silent {f : Persistent → Persistent} {a : Acc FaultUnit} (length : (f a.st.items).records.length = a.st.items.records.length)
    (overflow : (f a.st.items).overflow = a.st.items.overflow) : (edit f a).out = a.out := by
  simp [edit, handCount, Acc.upd, Acc.sayIf, length, overflow]

/-- An edit that changes one of them hands both on. -/
theorem edit_hands {f : Persistent → Persistent} {a : Acc FaultUnit}
    (h : (f a.st.items).records.length ≠ a.st.items.records.length ∨ (f a.st.items).overflow ≠ a.st.items.overflow) :
    (edit f a).out = a.out ++ [.faultCount (f a.st.items).records.length (f a.st.items).overflow] := by
  have h' : ((f a.st.items).records.length != a.st.items.records.length || (f a.st.items).overflow != a.st.items.overflow) = true := by
    simpa using h
  simp [edit, handCount, Acc.upd, Acc.sayIf, Acc.say, h']

/-- A MODE record is written when its content changes, and every other record stands. -/
theorem writeMode_record (s : State) (i : Fin 64) :
    s.writeMode.display.records.get i =
      if s.running.display.get i = .mode then writeRecord (modeContent s.control) (s.display.records.get i)
      else s.display.records.get i := by
  simp [State.writeMode, State.runDisplay, writeKind]

/-- All that the write of the MODE record changes. -/
theorem writeMode_frame (s : State) :
    s.writeMode = { s with
      display := { s.display with records := s.writeMode.display.records, stall := s.writeMode.display.stall } } := by
  simp only [State.writeMode, State.runDisplay, writeKind, Display.mapRecords]
  obtain ⟨t, h⟩ := restall_frame s (Acc.upd (fun d => { d with
    records := d.records.mapIdx fun i r =>
      if s.running.display.get i = .mode ∧ RecordKind.mode ≠ .none then writeRecord (modeContent s.control) r else r })
    ⟨s.display, []⟩)
  rw [h]
  simp [Acc.upd]

/-- Whatever the Mode Controller has just taken, the write shows it and touches nothing else. -/
theorem writeMode_only (s : State) (c : Controller) : s.OnlyModeWritten { s with control := c }.writeMode := by
  have eight : content12 [byte c.mode.code, byte c.activeSlot.val, byte c.faultCount, flagByte c.faultOverflow]
      = [byte c.mode.code, byte c.activeSlot.val, byte c.faultCount, flagByte c.faultOverflow] ++ List.replicate 8 0 := rfl
  refine ⟨by rw [writeMode_frame], fun i => ?_, fun i => ?_, fun i => ?_⟩ <;>
    rw [writeMode_record] <;> simp only [writeMode_control, writeRecord, modeContent, eight] <;> split <;> (try split) <;> simp_all

/-! ### Top of the stack -/

/-- A new top entry: its two top timers (R119), the stack, the Waiting List and the warnings as they were. -/
theorem topChanged_cons (s : State) {a : Acc Warnings} {top : StackEntry} {rest : List StackEntry} (h : a.st.stack = top :: rest) :
    (topChanged s a).st.stack = top :: rest ∧ (topChanged s a).st.waiting = a.st.waiting ∧ (topChanged s a).st.recs = a.st.recs
      ∧ (topChanged s a).st.minTimer = (if top.ackPending ∧ top.shown < minimumMs s top.warning then
          some (s.now + (minimumMs s top.warning - top.shown)) else none)
      ∧ (topChanged s a).st.autoTimer = (if autoMs s top.warning ≠ 0 ∧ top.shown < autoMs s top.warning then
          some (s.now + (autoMs s top.warning - top.shown)) else none) := by
  simp only [topChanged, showPresent, say_st, upd_st, h]
  split
  · split <;> exact ⟨rfl, rfl, rfl, rfl, rfl⟩
  · exact ⟨rfl, rfl, rfl, rfl, rfl⟩

/-- With nothing presented both timers stand still and there is no request. -/
theorem topChanged_nil (s : State) {a : Acc Warnings} (h : a.st.stack = []) :
    (topChanged s a).st = { a.st with minTimer := none, autoTimer := none, request := none } := by
  simp only [topChanged, showPresent, say_st, upd_st, h]

/-! ### Fields of data -/

/-- The bytes written after `o` others are the field at `o`. -/
theorem fieldAt_append (before bytes rest : List Byte) :
    fieldAt (before ++ bytes ++ rest) before.length bytes.length = leNat bytes := by simp [fieldAt]

/-! ### Segments -/

/-- What a segment can do (R172, R173): nothing, when it is no segment; leave the buffer EMPTY, with a message or without; or leave
it assembling, with its gap timer started. -/
theorem takeSegment_cases (now : Nat) (data : List Byte) (q : ServicePort) :
    (data = [] ∧ takeSegment now data q = (q, none))
      ∨ (∃ m, takeSegment now data q = ({ q with assembly := none, gap := none }, m))
      ∨ ∃ b, takeSegment now data q = ({ q with assembly := some b, gap := some (now + 200) }, none) := by
  cases data with
  | nil => exact .inl ⟨rfl, rfl⟩
  | cons header bytes =>
    right
    simp only [takeSegment]
    split
    · exact .inl ⟨_, rfl⟩
    · split
      · exact .inl ⟨_, rfl⟩
      · split
        · split
          · exact .inr ⟨_, rfl⟩
          · exact .inl ⟨_, rfl⟩
        · split <;> exact .inl ⟨_, rfl⟩

/-! ### Gauges within their scale -/

theorem enter_within {fs : Nat} {r : GaugeRun} (st : GaugeState) (h : r.Within fs) : (r.enter st).Within fs := h

theorem trackOrFallback_within {fs : Nat} {r : GaugeRun} (h : r.Within fs) : (trackOrFallback r).Within fs :=
  ⟨h.1, h.2.1, h.2.2.1, Nat.mul_le_mul_left 16 h.2.2.1⟩

theorem gaugeRest_within {fs : Nat} {r : GaugeRun} (new : Mode) (h : r.Within fs) : (gaugeRest new r).Within fs := by
  simp only [gaugeRest]
  split <;> (try split) <;> exact h

theorem reset_within (fs : Nat) : GaugeRun.reset.Within fs := ⟨Nat.zero_le _, Nat.zero_le _, Nat.zero_le _, Nat.zero_le _⟩

/-! ### Queues -/

/-- What a forward copy does to its port: it joins the tail, or at 16 is dropped with its wear event (R158). -/
theorem joinForward_eq (p : Port) (c : ForwardCopy) (a : Acc Outbound) :
    joinForward p c a =
      let q := a.st.ports.get p
      if q.forward.length < 16 then
        ⟨{ a.st with ports := a.st.ports.set p { q with forward := q.forward ++ [c] } }, a.out⟩
      else ⟨a.st, a.out ++ [.report (.wear .forwardDrop p.val)]⟩ := by
  simp only [joinForward, Outbound.onPort, tellRow_fst, tellRow_snd]
  split <;> simp

/-- What an answer does to its port: its segments join the tail, or it is discarded whole (R159). -/
theorem joinResponse_eq (p : Port) (segments : List (List Byte)) (a : Acc Outbound) :
    joinResponse p segments a =
      let q := a.st.ports.get p
      if q.responseLoad + segments.length ≤ 8 then
        ⟨{ a.st with ports := a.st.ports.set p { q with response := q.response ++ segments } }, a.out⟩
      else a := by
  simp only [joinResponse, Outbound.onPort, tellRow_fst, tellRow_snd]
  split <;> simp

/-! ### Writes of records -/

/-- A write of the records of a kind, record by record (R165, R166). -/
@[simp] theorem writeKind_get (s : State) (k : RecordKind) (content : List Byte) (a : Acc Display) (i : Fin 64) :
    (writeKind k content s a).st.records.get i =
      if s.running.display.get i = k ∧ k ≠ .none then writeRecord content (a.st.records.get i) else a.st.records.get i :=
  mapRecords_get ..

/-- A mirror's write, record by record (R16). -/
@[simp] theorem writeMirror_get (s : State) (j : Fin 64) (content : List Byte) (a : Acc Display) (i : Fin 64) :
    (writeMirror j content s a).st.records.get i =
      if i = j ∧ s.running.display.get i = .raw then writeRecord content (a.st.records.get i) else a.st.records.get i :=
  mapRecords_get ..

/-! ### Reports at the Fault Unit -/

/-- A report before the start is held (R146). -/
theorem takeReport_held (r : Report) (s : State) {a : Acc FaultUnit} (h : a.st.started = false) :
    takeReport r s a = ⟨{ a.st with held := a.st.held ++ [r] }, a.out⟩ := by simp [takeReport, h, Acc.upd]

/-- A report after the start is dealt with at once. -/
theorem takeReport_started (r : Report) (s : State) {a : Acc FaultUnit} (h : a.st.started = true) :
    takeReport r s a = match r with
      | .raise code source severity => takeRaise code source severity s a
      | .clear code source => takeClear code source a
      | .wear kind index => takeWear kind index s a := by cases r <;> simp [takeReport, h]

/-- A change of the items, with what is handed on (R149, R155). -/
theorem edit_eq (f : Persistent → Persistent) (a : Acc FaultUnit) :
    edit f a = ⟨{ a.st with items := f a.st.items, changed := a.st.changed || f a.st.items != a.st.items },
      a.out ++ if (f a.st.items).records.length ≠ a.st.items.records.length ∨ (f a.st.items).overflow ≠ a.st.items.overflow then
        [.faultCount (f a.st.items).records.length (f a.st.items).overflow] else []⟩ := by
  simp only [edit, handCount, Acc.sayIf, Acc.upd, Acc.say, bne_iff_ne, Bool.or_eq_true]
  split <;> simp

/-- A raise reads no attribute value and changes none. -/
theorem raiseItem_attrValues (code : Nat) (source : FaultSource) (severity : Nat) (list : List (Fin 256))
    (eff : Fin 256 → Effective) (p : Persistent) (v : Tab 16 Nat) :
    raiseItem code source severity list eff { p with attrValues := v }
      = { raiseItem code source severity list eff p with attrValues := v } := by
  unfold raiseItem
  simp only
  split
  · rfl
  · split
    · unfold createRecord
      split <;> rfl
    · split
      · unfold createRecord
        split <;> rfl
      · rfl

/-- An attribute without a fault code raises nothing. -/
theorem checkAttribute_no_fault {t : Fin 16} {s : State} (a : Acc FaultUnit) (h : (s.running.attrs.get t).fault = none) :
    checkAttribute t s a = a := by simp [checkAttribute, h]

/-! ### What the lamps show -/

/-- What a resolution sends: the LAMPS content where it is another. -/
theorem relight_out (s : State) (a : Acc Lamps) :
    (relight s a).out = a.out ++ if lampsContent (relight s a).st.lamps ≠ lampsContent a.st.lamps then
      [.record .lamps (lampsContent (relight s a).st.lamps)] else [] := by
  simp only [relight, Acc.sayIf, Acc.upd, Acc.say, bne_iff_ne, ne_eq, ite_not]
  split <;> simp

/-- The lamps that are lit, as a number with bit `l` for lamp `l`. -/
theorem litNumber_testBit (lamps : Tab 24 LampRun) (i : Nat) :
    (lamps.rows.foldl (fun (n : Nat) (r : Fin 24 × LampRun) => if r.2.resolved.isSome then n + 2 ^ r.1.val else n) 0).testBit i
      = if h : i < 24 then (lamps.get ⟨i, h⟩).resolved.isSome else false := by
  have size : lamps.rows.length = 24 := by simp [Tab.rows, lamps.ok]
  have row : ∀ m (h : m < 24), lamps.rows[m]? = some (⟨m, h⟩, lamps.get ⟨m, h⟩) := by
    intro m h
    simp [Tab.rows, Tab.get, lamps.ok, h]
  have upTo : ∀ m, m ≤ 24 →
      let n := (lamps.rows.take m).foldl (fun (n : Nat) (r : Fin 24 × LampRun) => if r.2.resolved.isSome then n + 2 ^ r.1.val else n) 0
      n < 2 ^ m ∧ ∀ i, n.testBit i = if h : i < 24 then decide (i < m) && (lamps.get ⟨i, h⟩).resolved.isSome else false := by
    intro m
    induction m with
    | zero => intro _; simp
    | succ m ih =>
      intro h
      obtain ⟨small, bits⟩ := ih (by omega)
      rw [List.take_add_one, row m h, Option.toList_some, List.foldl_append]
      simp only [List.foldl_cons, List.foldl_nil]
      generalize (lamps.rows.take m).foldl (fun (n : Nat) (r : Fin 24 × LampRun) => if r.2.resolved.isSome then n + 2 ^ r.1.val else n) 0 = n at small bits
      split
      · next lit =>
        refine ⟨by rw [Nat.pow_succ]; omega, fun i => ?_⟩
        rw [Nat.add_comm]
        by_cases e : i = m
        · subst e
          rw [Nat.testBit_two_pow_add_eq, Nat.testBit_lt_two_pow small]
          simp [lit, show i < 24 from h]
        · rcases Nat.lt_or_gt_of_ne e with e' | e'
          · rw [Nat.testBit_two_pow_add_gt e', bits]
            split
            · simp [e', show i < m + 1 by omega]
            · rfl
          · rw [Nat.testBit_lt_two_pow (Nat.lt_of_lt_of_le (by rw [Nat.pow_succ]; omega : 2 ^ m + n < 2 ^ (m + 1))
              (Nat.pow_le_pow_right (by omega) e'))]
            split
            · simp [show ¬i < m + 1 by omega]
            · rfl
      · next dark =>
        refine ⟨by rw [Nat.pow_succ]; omega, fun i => ?_⟩
        rw [bits]
        split
        · by_cases e : i = m
          · subst e
            simp at dark
            simp [dark]
          · simp [show i < m ↔ i < m + 1 by omega]
        · rfl
  have all := (upTo 24 le_rfl).2 i
  rw [List.take_of_length_le (by rw [size])] at all
  rw [all]
  split
  · next h => simp [h]
  · rfl

/-- The LAMPS content is 3 bytes of lamps, then zeros. -/
theorem lampsContent_shape (lamps : Tab 24 LampRun) :
    (lampsContent lamps).length = 12 ∧ (lampsContent lamps).drop 3 = List.replicate 9 0 := by
  simp [lampsContent, content12, leBytes]

/-- Bit `l` of the LAMPS content is set for a lamp that is lit (R138). -/
theorem lampsContent_bit (lamps : Tab 24 LampRun) (l : Fin 24) :
    ∃ b, (lampsContent lamps)[l.val / 8]? = some b ∧ b.getLsbD (l.val % 8) = (lamps.get l).resolved.isSome := by
  have bit := litNumber_testBit lamps l.val
  rw [dif_pos l.isLt] at bit
  unfold lampsContent content12
  generalize lamps.rows.foldl (fun (n : Nat) (r : Fin 24 × LampRun) => if r.2.resolved.isSome then n + 2 ^ r.1.val else n) 0 = n at bit
  rw [← bit]
  have eight : ∀ m k, k < 8 → (BitVec.ofNat 8 m).getLsbD k = m.testBit k := by
    intro m k h
    rw [BitVec.getLsbD_ofNat]
    simp [h]
  have low : l.val % 8 < 8 := Nat.mod_lt _ (by omega)
  have split : l.val / 8 = 0 ∨ l.val / 8 = 1 ∨ l.val / 8 = 2 := by omega
  rcases split with e | e | e <;> rw [e] <;> refine ⟨_, rfl, ?_⟩
  · rw [eight _ _ low]
    congr 1
    omega
  · rw [eight _ _ low, show (256 : Nat) = 2 ^ 8 from rfl, Nat.testBit_div_two_pow]
    congr 1
    omega
  · rw [eight _ _ low, show (256 : Nat) = 2 ^ 8 from rfl, Nat.div_div_eq_div_mul, ← Nat.pow_add, Nat.testBit_div_two_pow]
    congr 1
    omega

/-! ### The top of the stack -/

/-- The request of a new top (R122). -/
theorem topChanged_request (s : State) {a : Acc Warnings} {top : StackEntry} {rest : List StackEntry}
    (h : a.st.stack = top :: rest) :
    let u := (topChanged s a).st
    (∀ p n, (s.running.warnings.get top.warning).buzzer = some (p, n) → 0 < top.remaining →
      u.request = some p ∧ u.requestNumber = (a.st.requestNumber + 1) % 256)
    ∧ ((s.running.warnings.get top.warning).buzzer = none ∨ top.remaining = 0 →
      u.request = none ∧ u.requestNumber = a.st.requestNumber) := by
  simp only [topChanged, showPresent, say_st, upd_st, h]
  split
  · next e =>
    split
    · next pos => exact ⟨fun _ _ e' _ => by simp_all, fun e' => by rcases e' with e' | e' <;> simp_all⟩
    · next zero => exact ⟨fun _ _ _ pos => absurd pos zero, fun _ => ⟨rfl, rfl⟩⟩
  · next e => exact ⟨fun _ _ e' _ => by simp_all, fun _ => ⟨rfl, rfl⟩⟩

/-- What a new top sends (R122, R123). -/
theorem topChanged_out (s : State) (a : Acc Warnings) :
    (topChanged s a).out = a.out ++ [.buzzer, .record .present (presentContent s (topChanged s a).st)] := by
  simp [topChanged, showPresent, Acc.say, Acc.upd]

end Sys2Proof.Machine
end

