-- ==== Sys2Proof/Laws/Loads.lean ====
section
/-! SUPPORT. Laws/Loads: what each reader of a content can do, as one equation for the reader and what follows it; the first check that
fails. -/

namespace Sys2Proof.Machine

/-! ### Readers on a content -/

namespace Reader
variable {α β : Type} (c : List Byte)

@[simp] theorem on_pure (a : α) : (pure a : Reader α).on c = .ok a := rfl

@[simp] theorem on_throw (r : Result) : (throw r : Reader α).on c = .error r := rfl

/-- What a reader does before another: it refuses, or leaves a value and the rest of the bytes. -/
theorem on_bind (p : Reader α) (k : α → Reader β) :
    (p >>= k).on c = match p c with
      | .ok (a, rest) => (k a).on rest
      | .error r => .error r := by
  change (match (p c >>= fun x => (k x.1) x.2) with | .ok (a, _) => Except.ok a | .error e => .error e) = _
  rcases p c with e | ⟨a, rest⟩ <;> rfl

@[simp] theorem on_pure_bind (a : α) (k : α → Reader β) : (pure a >>= k).on c = (k a).on c := rfl

@[simp] theorem on_nat (n : Nat) (k : Nat → Reader β) : (nat n >>= k).on c = (k (leNat (c.take n))).on (c.drop n) := rfl

@[simp] theorem on_int (n : Nat) (k : Int → Reader β) :
    (int n >>= k).on c = (k (toSigned (8 * n) (leNat (c.take n)))).on (c.drop n) := rfl

@[simp] theorem on_opt (n : Nat) (k : Option Nat → Reader β) :
    (opt n >>= k).on c
      = (k (if leNat (c.take n) == 256 ^ n - 1 then none else some (leNat (c.take n)))).on (c.drop n) := rfl

@[simp] theorem on_fault (k : Option FaultCode → Reader β) :
    (Reader.fault >>= k).on c = (k (if leNat ((c.drop 2).take 1) == 0xFF then none
      else some ⟨leNat (c.take 2), leNat ((c.drop 2).take 1)⟩)).on (c.drop 3) := by
  change (k _).on ((c.drop 2).drop 1) = _
  rw [List.drop_drop]

@[simp] theorem on_check (b : Bool) (r : Result) (k : Unit → Reader β) :
    (check b r >>= k).on c = if b then (k ()).on c else .error r := by
  cases b <;> rfl

@[simp] theorem on_flag (k : Bool → Reader β) :
    (flag >>= k).on c
      = if leNat (c.take 1) ≤ 1 then (k (leNat (c.take 1) == 1)).on (c.drop 1) else .error .badValue := by
  rw [on_bind]
  by_cases h : leNat (c.take 1) ≤ 1
  · have : flag c = .ok (leNat (c.take 1) == 1, c.drop 1) := by
      change (check (decide (leNat (c.take 1) ≤ 1)) .badValue >>= fun _ => pure (leNat (c.take 1) == 1)) (c.drop 1) = _
      rw [decide_eq_true h]
      rfl
    rw [this, if_pos h]
  · have : flag c = .error .badValue := by
      change (check (decide (leNat (c.take 1) ≤ 1)) .badValue >>= fun _ => pure (leNat (c.take 1) == 1)) (c.drop 1) = _
      rw [decide_eq_false h]
      rfl
    rw [this, if_neg h]

@[simp] theorem on_enum (l : List α) (k : α → Reader β) :
    (enum l >>= k).on c = match l[leNat (c.take 1)]? with
      | some a => (k a).on (c.drop 1)
      | none => .error .badValue := by
  rw [on_bind]
  have : enum l c = match l[leNat (c.take 1)]? with
      | some a => .ok (a, c.drop 1)
      | none => .error .badValue := by
    change (match l[leNat (c.take 1)]? with | some a => pure a | none => throw Result.badValue : Reader α) (c.drop 1) = _
    cases l[leNat (c.take 1)]? <;> rfl
  rw [this]
  cases l[leNat (c.take 1)]? <;> rfl

@[simp] theorem on_row (n i : Nat) (r : Result) (k : Fin n → Reader β) :
    (row n i r >>= k).on c = if h : i < n then (k ⟨i, h⟩).on c else .error r := by
  unfold row toFin?
  by_cases h : i < n
  · rw [dif_pos h, dif_pos h]
    rfl
  · rw [dif_neg h, dif_neg h]
    rfl

@[simp] theorem on_optRow_none (n : Nat) (r : Result) (k : Option (Fin n) → Reader β) :
    (optRow n none r >>= k).on c = (k none).on c := rfl

@[simp] theorem on_optRow_some (n i : Nat) (r : Result) (k : Option (Fin n) → Reader β) :
    (optRow n (some i) r >>= k).on c = if h : i < n then (k (some ⟨i, h⟩)).on c else .error r := by
  simp only [optRow, row, toFin?]
  by_cases h : i < n
  · simp only [dif_pos h]
    rfl
  · simp only [dif_neg h]
    rfl

end Reader

/-! ### The first check that fails -/

@[simp] theorem refused_nil (r : Result) : Refused [] r ↔ False := Iff.rfl

@[simp] theorem refused_cons (p : Prop) (result : Result) (rest : List (Prop × Result)) (r : Result) :
    Refused ((p, result) :: rest) r ↔ (¬p ∧ r = result) ∨ (p ∧ Refused rest r) := Iff.rfl

/-- No check fails exactly when every check holds. -/
theorem refused_none (checks : List (Prop × Result)) : (∀ r, ¬Refused checks r) ↔ ∀ x ∈ checks, x.1 := by
  induction checks with
  | nil => simp
  | cons x rest ih =>
    obtain ⟨p, result⟩ := x
    constructor
    · intro h
      have hp : p := by
        by_contra hp
        exact h result (.inl ⟨hp, rfl⟩)
      exact List.forall_mem_cons.2 ⟨hp, ih.1 fun r hr => h r (.inr ⟨hp, hr⟩)⟩
    · intro h r hr
      obtain ⟨hp, hrest⟩ := List.forall_mem_cons.1 h
      exact hr.elim (fun x => x.1 hp) fun x => ih.2 hrest r x.2

end Sys2Proof.Machine
end

