-- ==== Sys2Proof/WellFormed.lean ====
section
/-! DEFINITION. WellFormed: which commands the outside can send. The checks are the widths of what reaches the part on its
wires; a range that the part itself checks (an entry index, a slot number) is no check here, since the manual gives the
part's answer to a value outside it. -/

namespace Sys2Proof

/-- A CAN frame carries at most 8 data bytes, and a standard identifier has 11 bits (0.1.1). -/
def Frame.wf (f : Frame) : Bool :=
  f.data.length ≤ 8 && (f.kind == .extended || f.ident.toNat < 2048)

/-- A request is at most 56 bytes with its command code (section 10.1). -/
def paramsWf (params : List Byte) : Bool := params.length ≤ 55

/-- A part of a LOAD ENTRY carries 0 to 51 content bytes (Table 10-5). -/
def contentWf (content : List Byte) : Bool := content.length ≤ 51

/-- Discrete levels are 0 to 1000 per mille (R47). -/
def levelsWf (levels : Tab 24 Nat) : Bool := levels.list.all (· ≤ 1000)

/-- Analog samples have 12 bits (R53). -/
def samplesWf (samples : Tab 8 Nat) : Bool := samples.list.all (· ≤ 4095)

/-- The commands that can reach the part. -/
def Instr.wf : Instr → Bool
  | .receivedFrame _ f => f.wf
  | .identify _ b | .readSignal _ b | .readFrameEntry _ b | .readFaults _ b | .readSnapshot _ b | .readAttribute _ b
  | .acknowledge _ b | .clearFaults _ b | .resetAttribute _ b | .substitute _ b | .releaseSubstitute _ b
  | .beginConfiguration _ b | .endConfiguration _ b | .commitProfile _ b | .selectProfile _ b | .outputTest _ b
  | .stopTest _ b => paramsWf b
  | .loadEntryFrame _ _ _ c | .loadEntryExtract _ _ _ c | .loadEntrySignal _ _ _ c | .loadEntrySubstitution _ _ _ c
  | .loadEntryInput _ _ _ c | .loadEntryAnalog _ _ _ c | .loadEntryDoor _ _ _ c | .loadEntryGauge _ _ _ c
  | .loadEntryWarning _ _ _ c | .loadEntryLamp _ _ _ c | .loadEntryPattern _ _ _ c | .loadEntryTransmit _ _ _ c
  | .loadEntryDisplay _ _ _ c | .loadEntryAttribute _ _ _ c | .loadEntrySnapshotList _ _ _ c
  | .loadEntryGeneral _ _ _ c => contentWf c
  | .scan l a => levelsWf l && samplesWf a
  | .sleepScan l => levelsWf l
  | .reset _ | .startingComplete | .receiveError _ | .transmitError _ | .transmissionComplete _ | .recoveryTimerExpiry _
  | .receptionTimerExpiry _ | .gapTimerExpiry _ | .testTimerExpiry | .commitComplete | .selectReadComplete _
  | .persistenceSaveComplete | .storeWriteFailure _ | .sleepTimerExpiry | .runningTimeSecond | .travelTimerExpiry _
  | .plausibilityTimerExpiry _ | .gaugeUpdate | .homingTimerExpiry _ | .onDelayExpiry _ | .offDelayExpiry _
  | .minimumTimerExpiry | .autoDismissTimerExpiry | .stepTimerExpiry | .bulbCheckTimerExpiry | .lampSensingResult _ _
  | .periodTimerExpiry _ | .readyAsserted | .readyDeasserted | .transferComplete _ | .refreshTimerExpiry
  | .stallTimerExpiry => true

end Sys2Proof
end

