-- ==== Sys2Proof/Laws/PerInstr.lean ====
section
/-! SUPPORT. Laws/PerInstr: statements for all commands, made command by command. Family Wf: a request that can reach the part is a
service message of 1 to 56 bytes (section 10.1). -/

namespace Sys2Proof.Laws.Wf

/-- A well-formed request row is a message of 1 to 56 bytes. -/
def Statement (i : Instr) : Prop :=
  ∀ p m, Machine.requestOf i = some (p, m) → i.wf = true → 1 ≤ m.length ∧ m.length ≤ 56

theorem params_fit {code : Byte} {p : Port} {params : List Byte} (p' : Port) (m : List Byte)
    (h : some (p, code :: params) = some (p', m)) (w : paramsWf params = true) : 1 ≤ m.length ∧ m.length ≤ 56 := by
  cases h
  simp only [paramsWf, decide_eq_true_eq] at w
  simp only [List.length_cons]
  omega

theorem content_fits {table : Nat} {p : Port} {index : BitVec 16} {part : Byte} {content : List Byte} (p' : Port)
    (m : List Byte) (h : some (p, (0x22 : Byte) :: Machine.loadParams table index part content) = some (p', m))
    (w : contentWf content = true) : 1 ≤ m.length ∧ m.length ≤ 56 := by
  cases h
  simp only [contentWf, decide_eq_true_eq] at w
  simp only [Machine.loadParams, Machine.leBytes, List.length_cons, List.length_append, List.length_nil]
  omega

theorem reset (reached : StoreStep) : Statement (.reset reached) :=
  fun _ _ h _ => nomatch h

theorem startingComplete : Statement (.startingComplete) :=
  fun _ _ h _ => nomatch h

theorem receivedFrame (p : Port) (f : Frame) : Statement (.receivedFrame p f) :=
  fun _ _ h _ => nomatch h

theorem receiveError (p : Port) : Statement (.receiveError p) :=
  fun _ _ h _ => nomatch h

theorem transmitError (p : Port) : Statement (.transmitError p) :=
  fun _ _ h _ => nomatch h

theorem transmissionComplete (p : Port) : Statement (.transmissionComplete p) :=
  fun _ _ h _ => nomatch h

theorem recoveryTimerExpiry (p : Port) : Statement (.recoveryTimerExpiry p) :=
  fun _ _ h _ => nomatch h

theorem receptionTimerExpiry (e : Fin 128) : Statement (.receptionTimerExpiry e) :=
  fun _ _ h _ => nomatch h

theorem gapTimerExpiry (p : Port) : Statement (.gapTimerExpiry p) :=
  fun _ _ h _ => nomatch h

theorem identify (p : Port) (params : List Byte) : Statement (.identify p params) :=
  fun q m h w => params_fit q m h w

theorem readSignal (p : Port) (params : List Byte) : Statement (.readSignal p params) :=
  fun q m h w => params_fit q m h w

theorem readFrameEntry (p : Port) (params : List Byte) : Statement (.readFrameEntry p params) :=
  fun q m h w => params_fit q m h w

theorem readFaults (p : Port) (params : List Byte) : Statement (.readFaults p params) :=
  fun q m h w => params_fit q m h w

theorem readSnapshot (p : Port) (params : List Byte) : Statement (.readSnapshot p params) :=
  fun q m h w => params_fit q m h w

theorem readAttribute (p : Port) (params : List Byte) : Statement (.readAttribute p params) :=
  fun q m h w => params_fit q m h w

theorem acknowledge (p : Port) (params : List Byte) : Statement (.acknowledge p params) :=
  fun q m h w => params_fit q m h w

theorem clearFaults (p : Port) (params : List Byte) : Statement (.clearFaults p params) :=
  fun q m h w => params_fit q m h w

theorem resetAttribute (p : Port) (params : List Byte) : Statement (.resetAttribute p params) :=
  fun q m h w => params_fit q m h w

theorem substitute (p : Port) (params : List Byte) : Statement (.substitute p params) :=
  fun q m h w => params_fit q m h w

theorem releaseSubstitute (p : Port) (params : List Byte) : Statement (.releaseSubstitute p params) :=
  fun q m h w => params_fit q m h w

theorem beginConfiguration (p : Port) (params : List Byte) : Statement (.beginConfiguration p params) :=
  fun q m h w => params_fit q m h w

theorem endConfiguration (p : Port) (params : List Byte) : Statement (.endConfiguration p params) :=
  fun q m h w => params_fit q m h w

theorem loadEntryFrame (p : Port) (index : BitVec 16) (part : Byte) (content : List Byte) : Statement (.loadEntryFrame p index part content) :=
  fun q m h w => content_fits q m h w

theorem loadEntryExtract (p : Port) (index : BitVec 16) (part : Byte) (content : List Byte) : Statement (.loadEntryExtract p index part content) :=
  fun q m h w => content_fits q m h w

theorem loadEntrySignal (p : Port) (index : BitVec 16) (part : Byte) (content : List Byte) : Statement (.loadEntrySignal p index part content) :=
  fun q m h w => content_fits q m h w

theorem loadEntrySubstitution (p : Port) (index : BitVec 16) (part : Byte) (content : List Byte) : Statement (.loadEntrySubstitution p index part content) :=
  fun q m h w => content_fits q m h w

theorem loadEntryInput (p : Port) (index : BitVec 16) (part : Byte) (content : List Byte) : Statement (.loadEntryInput p index part content) :=
  fun q m h w => content_fits q m h w

theorem loadEntryAnalog (p : Port) (index : BitVec 16) (part : Byte) (content : List Byte) : Statement (.loadEntryAnalog p index part content) :=
  fun q m h w => content_fits q m h w

theorem loadEntryDoor (p : Port) (index : BitVec 16) (part : Byte) (content : List Byte) : Statement (.loadEntryDoor p index part content) :=
  fun q m h w => content_fits q m h w

theorem loadEntryGauge (p : Port) (index : BitVec 16) (part : Byte) (content : List Byte) : Statement (.loadEntryGauge p index part content) :=
  fun q m h w => content_fits q m h w

theorem loadEntryWarning (p : Port) (index : BitVec 16) (part : Byte) (content : List Byte) : Statement (.loadEntryWarning p index part content) :=
  fun q m h w => content_fits q m h w

theorem loadEntryLamp (p : Port) (index : BitVec 16) (part : Byte) (content : List Byte) : Statement (.loadEntryLamp p index part content) :=
  fun q m h w => content_fits q m h w

theorem loadEntryPattern (p : Port) (index : BitVec 16) (part : Byte) (content : List Byte) : Statement (.loadEntryPattern p index part content) :=
  fun q m h w => content_fits q m h w

theorem loadEntryTransmit (p : Port) (index : BitVec 16) (part : Byte) (content : List Byte) : Statement (.loadEntryTransmit p index part content) :=
  fun q m h w => content_fits q m h w

theorem loadEntryDisplay (p : Port) (index : BitVec 16) (part : Byte) (content : List Byte) : Statement (.loadEntryDisplay p index part content) :=
  fun q m h w => content_fits q m h w

theorem loadEntryAttribute (p : Port) (index : BitVec 16) (part : Byte) (content : List Byte) : Statement (.loadEntryAttribute p index part content) :=
  fun q m h w => content_fits q m h w

theorem loadEntrySnapshotList (p : Port) (index : BitVec 16) (part : Byte) (content : List Byte) : Statement (.loadEntrySnapshotList p index part content) :=
  fun q m h w => content_fits q m h w

theorem loadEntryGeneral (p : Port) (index : BitVec 16) (part : Byte) (content : List Byte) : Statement (.loadEntryGeneral p index part content) :=
  fun q m h w => content_fits q m h w

theorem commitProfile (p : Port) (params : List Byte) : Statement (.commitProfile p params) :=
  fun q m h w => params_fit q m h w

theorem selectProfile (p : Port) (params : List Byte) : Statement (.selectProfile p params) :=
  fun q m h w => params_fit q m h w

theorem outputTest (p : Port) (params : List Byte) : Statement (.outputTest p params) :=
  fun q m h w => params_fit q m h w

theorem stopTest (p : Port) (params : List Byte) : Statement (.stopTest p params) :=
  fun q m h w => params_fit q m h w

theorem testTimerExpiry : Statement (.testTimerExpiry) :=
  fun _ _ h _ => nomatch h

theorem commitComplete : Statement (.commitComplete) :=
  fun _ _ h _ => nomatch h

theorem selectReadComplete (saved : Bool) : Statement (.selectReadComplete saved) :=
  fun _ _ h _ => nomatch h

theorem persistenceSaveComplete : Statement (.persistenceSaveComplete) :=
  fun _ _ h _ => nomatch h

theorem storeWriteFailure (failed : StoreStep) : Statement (.storeWriteFailure failed) :=
  fun _ _ h _ => nomatch h

theorem sleepTimerExpiry : Statement (.sleepTimerExpiry) :=
  fun _ _ h _ => nomatch h

theorem runningTimeSecond : Statement (.runningTimeSecond) :=
  fun _ _ h _ => nomatch h

theorem scan (levels : Tab 24 Nat) (samples : Tab 8 Nat) : Statement (.scan levels samples) :=
  fun _ _ h _ => nomatch h

theorem sleepScan (levels : Tab 24 Nat) : Statement (.sleepScan levels) :=
  fun _ _ h _ => nomatch h

theorem travelTimerExpiry (d : Fin 6) : Statement (.travelTimerExpiry d) :=
  fun _ _ h _ => nomatch h

theorem plausibilityTimerExpiry (d : Fin 6) : Statement (.plausibilityTimerExpiry d) :=
  fun _ _ h _ => nomatch h

theorem gaugeUpdate : Statement (.gaugeUpdate) :=
  fun _ _ h _ => nomatch h

theorem homingTimerExpiry (g : Fin 6) : Statement (.homingTimerExpiry g) :=
  fun _ _ h _ => nomatch h

theorem onDelayExpiry (w : Fin 64) : Statement (.onDelayExpiry w) :=
  fun _ _ h _ => nomatch h

theorem offDelayExpiry (w : Fin 64) : Statement (.offDelayExpiry w) :=
  fun _ _ h _ => nomatch h

theorem minimumTimerExpiry : Statement (.minimumTimerExpiry) :=
  fun _ _ h _ => nomatch h

theorem autoDismissTimerExpiry : Statement (.autoDismissTimerExpiry) :=
  fun _ _ h _ => nomatch h

theorem stepTimerExpiry : Statement (.stepTimerExpiry) :=
  fun _ _ h _ => nomatch h

theorem bulbCheckTimerExpiry : Statement (.bulbCheckTimerExpiry) :=
  fun _ _ h _ => nomatch h

theorem lampSensingResult (l : Fin 24) (r : Sensing) : Statement (.lampSensingResult l r) :=
  fun _ _ h _ => nomatch h

theorem periodTimerExpiry (e : Fin 16) : Statement (.periodTimerExpiry e) :=
  fun _ _ h _ => nomatch h

theorem readyAsserted : Statement (.readyAsserted) :=
  fun _ _ h _ => nomatch h

theorem readyDeasserted : Statement (.readyDeasserted) :=
  fun _ _ h _ => nomatch h

theorem transferComplete (status : Byte) : Statement (.transferComplete status) :=
  fun _ _ h _ => nomatch h

theorem refreshTimerExpiry : Statement (.refreshTimerExpiry) :=
  fun _ _ h _ => nomatch h

theorem stallTimerExpiry : Statement (.stallTimerExpiry) :=
  fun _ _ h _ => nomatch h

end Sys2Proof.Laws.Wf
end

