-- ==== Sys2Proof/Laws/Signals.lean ====
section
/-! SUPPORT. Laws/Signals: what resolutions can do: they read own states alone and change none, so any number of them leaves every
signal as it was or resolved from the table they began with; and which entry of the Substitution Table a signal has. -/

namespace Sys2Proof

namespace Machine

/-- Two tables whose signals have the same own value, written status and qualifier. -/
def SameOwn (t u : Tab 256 SignalRun) : Prop :=
  ∀ k, (u.get k).own = (t.get k).own ∧ (u.get k).written = (t.get k).written ∧ (u.get k).qual = (t.get k).qual

theorem ownStatus_congr {img : Image} {i : Fin 256} {r r' : SignalRun} (h : r'.written = r.written) :
    ownStatus img i r' = ownStatus img i r := by simp only [ownStatus, h]

/-- A resolution changes no own state. -/
theorem resolved_own (img : Image) (t : Tab 256 SignalRun) (i : Fin 256) :
    (resolved img t i).own = (t.get i).own ∧ (resolved img t i).written = (t.get i).written
      ∧ (resolved img t i).qual = (t.get i).qual := by
  simp only [resolved]
  split
  · exact ⟨rfl, rfl, rfl⟩
  · split <;> exact ⟨rfl, rfl, rfl⟩

theorem alternateValue_congr {img : Image} {t u : Tab 256 SignalRun} (h : SameOwn t u) (e : SubEntry) :
    alternateValue img u e = alternateValue img t e := by
  simp only [alternateValue]
  split
  · rfl
  · rfl
  · rw [ownStatus_congr (h _).2.1, (h _).1]

/-- A resolution reads the own states of all signals and the held value of its own, or the state it has left itself. -/
theorem resolved_congr {img : Image} {t u : Tab 256 SignalRun} (h : SameOwn t u) {i : Fin 256}
    (hi : u.get i = t.get i ∨ u.get i = resolved img t i) : resolved img u i = resolved img t i := by
  have hb : (fun e => alternateValue img u e) = fun e => alternateValue img t e := funext fun e => alternateValue_congr h e
  have hal : (img.subOf i).bind (alternateValue img u) = (img.subOf i).bind (alternateValue img t) := by
    congr 1
  have ho : ownStatus img i (u.get i) = ownStatus img i (t.get i) := ownStatus_congr (h i).2.1
  rcases hi with hi | hi
  · simp only [resolved, hi, hal]
  · have e1 := (h i)
    generalize hu : u.get i = r at *
    obtain ⟨a, b, c, d, f⟩ := r
    simp only [resolved, hal, ho, hu] at hi e1 ⊢
    obtain ⟨rfl, rfl, rfl⟩ := e1
    split at hi
    · next hc => simp only [hc, if_true]
    · next hc =>
      simp only [hc, if_false, Bool.false_eq_true]
      split at hi
      · rfl
      · next hd => cases hi; rfl


/-- What resolutions leave of a table: every signal of `must` is resolved, one outside `may` stands, and any other is one of both. -/
def Resolutions (img : Image) (t : Tab 256 SignalRun) (must may : Fin 256 → Prop) (u : Tab 256 SignalRun) : Prop :=
  SameOwn t u ∧ ∀ k, (must k → u.get k = resolved img t k) ∧ (u.get k = t.get k ∨ u.get k = resolved img t k)
    ∧ (¬may k → u.get k = t.get k)

theorem resolve_resolutions {img : Image} {t : Tab 256 SignalRun} {must may : Fin 256 → Prop} {i : Fin 256}
    {a : Acc (Tab 256 SignalRun)} (hi : may i) (h : Resolutions img t must may a.st) :
    Resolutions img t (fun k => k = i ∨ must k) may (resolve img i a).st := by
  have hr : resolved img a.st i = resolved img t i := resolved_congr h.1 (h.2 i).2.1
  have hst : (resolve img i a).st = a.st.set i (resolved img t i) := by simp [resolve, hr]
  refine ⟨fun k => ?_, fun k => ?_⟩
  · rw [hst, Tab.get_set]
    split
    · next hk => subst hk; exact resolved_own img t k
    · exact h.1 k
  · rw [hst, Tab.get_set]
    split
    · next hk => subst hk; exact ⟨fun _ => rfl, .inr rfl, fun hn => absurd hi hn⟩
    · next hk => exact ⟨fun hm => (h.2 k).1 (hm.resolve_left hk), (h.2 k).2⟩

/-- Resolutions of a signal and of those that name it as alternate. -/
theorem dependents_resolutions {img : Image} {t : Tab 256 SignalRun} {must may : Fin 256 → Prop} {i : Fin 256}
    {a : Acc (Tab 256 SignalRun)} (hi : may i)
    (hd : ∀ m, (img.substitution.get m).inUse = true → (img.substitution.get m).alternate = .signal i →
      may (img.substitution.get m).signal)
    (h : Resolutions img t must may a.st) :
    Resolutions img t (fun k => k = i ∨ must k) may (resolveWithDependents img i a).st := by
  have h1 := resolve_resolutions hi h
  have key : ∀ (l : List SubEntry), (∀ e ∈ l, e.inUse = true → e.alternate = .signal i → may e.signal) →
      ∀ b : Acc (Tab 256 SignalRun), Resolutions img t (fun k => k = i ∨ must k) may b.st →
      Resolutions img t (fun k => k = i ∨ must k) may (b.eachOf l fun e a =>
        if e.inUse && e.alternate == .signal i then resolve img e.signal a else a).st := by
    intro l
    induction l with
    | nil => exact fun _ b hb => hb
    | cons e l ih =>
      intro hl b hb
      refine ih (fun e he => hl e (List.mem_cons_of_mem _ he)) _ ?_
      show Resolutions img t _ may (if (e.inUse && e.alternate == .signal i) = true then resolve img e.signal b else b).st
      split
      · next hc =>
        simp only [Bool.and_eq_true, beq_iff_eq] at hc
        have := resolve_resolutions (hl e List.mem_cons_self hc.1 hc.2) hb
        exact ⟨this.1, fun k => ⟨fun hm => (this.2 k).1 (.inr hm), (this.2 k).2⟩⟩
      · exact hb
  refine key _ (fun e he => ?_) _ h1
  obtain ⟨m, rfl⟩ := Tab.get_of_mem he
  exact hd m


theorem subOf_some {img : Image} {i : Fin 256} {x : SubEntry} (h : img.subOf i = some x) :
    ∃ k, img.substitution.get k = x ∧ x.inUse = true ∧ x.signal = i := by
  simp only [Image.subOf, Image.subIndex, Tab.findIdx, Option.map_map, Option.map_eq_some_iff] at h
  obtain ⟨⟨k, e⟩, hf, rfl⟩ := h
  have hp := List.find?_some hf
  have hm := List.mem_of_find?_eq_some hf
  simp only [Tab.rows] at hm
  obtain ⟨n, hn, hz⟩ := List.getElem_of_mem hm
  simp only [List.getElem_zip, List.getElem_finRange, Prod.mk.injEq] at hz
  simp only [Bool.and_eq_true, beq_iff_eq] at hp
  have hk : img.substitution.get k = e := by
    obtain ⟨rfl, rfl⟩ := hz; rfl
  exact ⟨k, rfl, by simp only [Function.comp]; rw [hk]; exact hp⟩

theorem subOf_none {img : Image} {i : Fin 256} (h : img.subOf i = none) (k : Fin 16) :
    ¬((img.substitution.get k).inUse = true ∧ (img.substitution.get k).signal = i) := by
  simp only [Image.subOf, Image.subIndex, Tab.findIdx, Option.map_map, Option.map_eq_none_iff] at h
  rw [List.find?_eq_none] at h
  rintro ⟨h1, h2⟩
  have hl : img.substitution.list.length = 16 := img.substitution.ok
  have hm : (k, img.substitution.get k) ∈ img.substitution.rows := by
    simp only [Tab.rows]
    rw [List.mem_iff_getElem]
    refine ⟨k.val, by simp [hl], ?_⟩
    simp [Tab.get]
  exact h _ hm (by simp [h1, h2])

theorem subOf_unique {img : Image} {i : Fin 256} {k : Fin 16} (hu : (img.substitution.get k).inUse = true)
    (hs : (img.substitution.get k).signal = i)
    (ho : ∀ m, (img.substitution.get m).inUse = true → (img.substitution.get m).signal = i → m = k) :
    img.subOf i = some (img.substitution.get k) := by
  cases h : img.subOf i with
  | none => exact absurd ⟨hu, hs⟩ (subOf_none h k)
  | some x =>
    obtain ⟨m, rfl, h1, h2⟩ := subOf_some h
    rw [ho m h1 h2]

theorem subOf_absent {img : Image} {i : Fin 256}
    (ho : ∀ m, (img.substitution.get m).inUse = true → (img.substitution.get m).signal ≠ i) : img.subOf i = none := by
  cases h : img.subOf i with
  | none => rfl
  | some x =>
    obtain ⟨m, rfl, h1, h2⟩ := subOf_some h
    exact absurd h2 (ho m h1)

/-- A signal that no entry in use names shows its own state (R31). -/
theorem resolved_alone {img : Image} {i : Fin 256} (t : Tab 256 SignalRun) (h : img.subOf i = none) :
    (resolved img t i).eff = (if (t.get i).written = .valid then ⟨(t.get i).own, .valid, none, (t.get i).qual⟩
      else ⟨(t.get i).held, .invalid, some (t.get i).written, false⟩) := by
  have hb : ownStatus img i (t.get i) = (t.get i).written := by simp [ownStatus, Image.blocks, h]
  simp only [resolved, hb, h]
  by_cases hv : (t.get i).written = .valid <;> simp [hv]

/-- A write of an entry resolves the signal it names and the one it named. -/
theorem takeSubstitution_resolutions {old new : SubEntry} {s : State} {t : Tab 256 SignalRun} {may : Fin 256 → Prop}
    (hn : new.inUse = true → may new.signal) (ho : old.inUse = true → may old.signal)
    (hd : ∀ m, (s.image.substitution.get m).inUse = true → ∀ i, (s.image.substitution.get m).alternate = .signal i →
      (new.inUse = true ∧ i = new.signal ∨ old.inUse = true ∧ i = old.signal) → may (s.image.substitution.get m).signal) :
    Resolutions s.image t (fun k => new.inUse = true ∧ k = new.signal ∨ old.inUse = true ∧ k = old.signal) may
      (takeSubstitution old new s ⟨t, []⟩).st := by
  have h0 : Resolutions s.image t (fun _ => False) may t := ⟨fun _ => ⟨rfl, rfl, rfl⟩, fun k => ⟨False.elim, .inl rfl, fun _ => rfl⟩⟩
  have weak : ∀ {m m' : Fin 256 → Prop} {u}, (∀ k, m' k → m k) → Resolutions s.image t m may u → Resolutions s.image t m' may u :=
    fun hw h => ⟨h.1, fun k => ⟨fun hk => (h.2 k).1 (hw k hk), (h.2 k).2⟩⟩
  simp only [takeSubstitution]
  by_cases hnu : new.inUse = true <;> by_cases hou : old.inUse = true
  · simp only [hnu, hou, if_true, Bool.true_and, Bool.not_eq_true', beq_eq_false_iff_ne]
    have h1 := dependents_resolutions (a := ⟨t, []⟩) (hn hnu) (fun m hm ha => hd m hm _ ha (.inl ⟨hnu, rfl⟩)) h0
    split
    · next hne =>
      have h2 := dependents_resolutions (ho hou) (fun m hm ha => hd m hm _ ha (.inr ⟨hou, rfl⟩)) h1
      exact weak (by rintro k (⟨-, h⟩ | ⟨-, h⟩) <;> simp [h]) h2
    · next hne =>
      simp only [ne_eq, Decidable.not_not] at hne
      exact weak (by rintro k (⟨-, h⟩ | ⟨-, h⟩) <;> simp [h, hne]) h1
  · have h1 := dependents_resolutions (a := ⟨t, []⟩) (hn hnu) (fun m hm ha => hd m hm _ ha (.inl ⟨hnu, rfl⟩)) h0
    simp only [hnu, hou, if_true, Bool.false_and, if_false, Bool.false_eq_true]
    exact weak (by rintro k (⟨-, h⟩ | ⟨h, -⟩) <;> simp_all) h1
  · have h1 := dependents_resolutions (a := ⟨t, []⟩) (ho hou) (fun m hm ha => hd m hm _ ha (.inr ⟨hou, rfl⟩)) h0
    simp only [hnu, hou, Bool.false_eq_true, if_false, Bool.true_and, Bool.false_and, Bool.not_false, if_true]
    exact weak (by rintro k (⟨h, -⟩ | ⟨-, h⟩) <;> simp_all) h1
  · simp only [hnu, hou, Bool.false_eq_true, if_false, Bool.false_and]
    exact weak (by rintro k (⟨h, -⟩ | ⟨h, -⟩) <;> simp_all) h0

end Machine
end Sys2Proof
end

