-- ==== Sys2Proof/Tests/Slice0.lean ====
section
/-! SUPPORT. Tests/Slice0: smoke tests of WellFormed; single steps against the manual's worked examples and tables (each test names
its source; expected values are the manual's or worked out from its rules by hand); and for each statement with hypotheses a
state and operands that meet them. -/

namespace Sys2Proof.Tests
open Sys2Proof Sys2Proof.Machine

-- One theorem at a time: the kernel evaluations of this file side by side ask for more stack than a build has.
set_option Elab.async false

/-! ### States to test on -/

/-- The designations of the test vehicle: signal 1 (constant 1) is ignition, brake and service enable, signal 2 (constant 0) the
speed with threshold 30. -/
def shop : Image :=
  { Image.factory with
    signals := (Image.factory.signals.set 1 ⟨.constant 1, 0, 1⟩).set 2 ⟨.constant 0, 0, 2500⟩
    general := { General.factory with
      ignition := 1, speed := 2, brake := 1, serviceEnable := 1, ackKey := 3, dimmer := 4, movingThreshold := 30 } }

/-- A part running in mode `m` on `img`, with its ports on the bus and its signals at their starting values. -/
def live (m : Mode) (img : Image) : State :=
  let s : State :=
    { State.reset with
      image := img, running := img, control := { Controller.reset with mode := m }
      frames := { FrameEngine.reset with ports := Tab.replicate 3 { PortRun.reset with state := .errorActive } }
      faults := { FaultUnit.reset with started := true } }
  { s.runSignals (reinitSignals true) with mail := [] }

/-- The outcome is a next state with the property `f`. -/
def after (o : Host.Outcome State Fault Refusal) (f : State → Bool) : Bool :=
  match o with
  | .next t => f t
  | _ => false

/-- Port `p` is sending a response segment that begins with `code` and `result` after its header. -/
def answers (p : Port) (code result : Byte) (t : State) : Bool :=
  match (t.outbound.ports.get p).flight with
  | some ⟨.response seg, _⟩ => (seg.drop 1).take 2 == [code, result]
  | _ => false

/-- The message bytes of the first response segment on port `p`. -/
def firstBytes (p : Port) (n : Nat) (t : State) : List Byte :=
  match (t.outbound.ports.get p).flight with
  | some ⟨.response seg, _⟩ => (seg.drop 1).take n
  | _ => []

/-! ### WellFormed -/

theorem test_wf_frame_of_nine_bytes : (Instr.receivedFrame 0 ⟨.standard, 1, false, List.replicate 9 0⟩).wf = false := by decide

theorem test_wf_standard_identifier : (Instr.receivedFrame 0 ⟨.standard, 2048, false, []⟩).wf = false := by decide

theorem test_wf_params : (Instr.identify 0 (List.replicate 56 0)).wf = false := by decide +kernel

theorem test_wf_content : (Instr.loadEntryFrame 0 0 0 (List.replicate 52 0)).wf = false := by decide +kernel

theorem test_wf_level : (Instr.sleepScan ((Tab.replicate 24 0).set 3 1001)).wf = false := by decide +kernel

theorem test_wf_sample : (Instr.scan (Tab.replicate 24 0) ((Tab.replicate 8 0).set 7 4096)).wf = false := by decide +kernel

theorem test_wf_good : (Instr.receivedFrame 0 ⟨.standard, 0x18C, false, [0, 0, 0, 0x32]⟩).wf = true
    ∧ (Instr.scan (Tab.replicate 24 1000) (Tab.replicate 8 4095)).wf = true := by decide +kernel

/-! ### Life of the part -/

/-- R191: the factory part's ignition is not asserted, so STARTING ends in STANDBY, where the first save begins (R189). -/
theorem test_starting_complete :
    after (exec .startingComplete State.reset) (fun t =>
      t.control.mode == .standby && t.store.operation.isSome && t.mail.isEmpty && t.control.sleepTimer == some 60000)
      = true := by decide +kernel

/-- R191: with a bad active slot the part starts on slot 0 with 0xF001 recorded; the save that follows keeps the record 2. -/
theorem test_starting_falls_back :
    let copy : AreaCopy := ⟨Persistent.empty, 2, 41, true⟩
    after (exec .startingComplete { State.reset with store := { Store.factory with copyA := copy } }) (fun t =>
      t.control.fallback && t.control.activeSlot == 0 && t.faults.items.records.any (·.code == 0xF001)
        && (match t.store.operation with | some (.save _ n) => n == 2 | _ => false)) = true := by
  decide +kernel

/-- R191: with every slot bad the part stays in STARTING, and no raise of 0xF001 is held. -/
theorem test_starting_stays :
    after (exec .startingComplete { State.reset with store := { Store.factory with slots := Tab.replicate 4 ⟨none, false⟩ } })
      (fun t => t.control.mode == .starting && t.faults.held.isEmpty && !t.store.reportedFallback && !t.control.fallback)
      = true := by decide +kernel

/-- R187: a reset while a commit checks leaves its slot without a valid image; the interlock is asserted (R77). -/
theorem test_reset_in_commit :
    let s := live .configuring shop
    after (exec (.reset .check) { s with store := { s.store with
        operation := some (.commit 2 .erase), slots := s.store.slots.set 2 ⟨none, false⟩ } }) (fun t =>
      t.control.mode == .starting && (t.store.slots.get 2) == ⟨some shop, false⟩ && t.doors.interlock
        && (t.gauges.gauges.get 0).coils == false && t.doors.doors.get 0 == DoorRun.reset) = true := by
  decide +kernel

/-- Table 11-4: all doors closed and 60 s passed: SLEEP, ports in LISTEN. -/
theorem test_sleep_timer :
    let s := live .standby shop
    after (exec .sleepTimerExpiry { s with control := { s.control with allClosed := true, sleepTimer := some 60000 } })
      (fun t => t.control.mode == .sleep && (t.frames.ports.get 0).state == .listen && t.now == 60000) = true := by
  decide +kernel

/-- R192: at 1000 ms the remainder returns to 0 and the seconds count rises. -/
theorem test_running_time :
    let s := live .active shop
    after (exec .runningTimeSecond { s with control := { s.control with remainder := 400 } }) (fun t =>
      t.faults.items.seconds == 1 && t.control.remainder == 0 && t.now == 600) = true := by decide +kernel

/-! ### Frames: Table 1-8 -/

/-- Entry 12 of section 1.10, with a descriptor as in the speed case of Table 2-3. -/
def entry12 : FrameEntry := ⟨true, 0, .standard, 0x18C, 0x7FF, 4, 10, 0b010, none, false, some 20, some ⟨0x0312, 1⟩⟩

def speedSlot : Descriptor := ⟨some 40, 16, 16, .little, false, false, 10, 8, 0⟩

def bus : Image :=
  { shop with
    frames := shop.frames.set 12 entry12
    extract := shop.extract.modify 12 (·.set 0 speedSlot)
    signals := shop.signals.set 40 ⟨.frame 12 0, 0, 2500⟩
    display := shop.display.set 20 .raw }

/-- Entry 12 as it stands at 90 ms of Table 1-8, before the frame. -/
def busAt90 : State :=
  let s := live .active bus
  { s with now := 90, frames := { s.frames with entries := s.frames.entries.set 12 ⟨.receiving, .running 140, 1, 0, none⟩ } }

/-- Table 1-8 at 40 ms, Table 2-3 speed case: RECEIVING until 140, count 1, signal 40 VALID 500, a copy to P1. -/
theorem test_sufficient_frame :
    after (exec (.receivedFrame 0 ⟨.standard, 0x18C, false, [0, 0, 0, 0x32, 0, 0, 0, 0]⟩) { live .active bus with now := 40 })
      (fun t => t.frames.entries.get 12 == ⟨.receiving, .running 140, 1, 0, none⟩
        && (t.signals.get 40).eff == ⟨500, .valid, none, false⟩ && (t.outbound.ports.get 1).flight.isSome
        && (t.display.records.get 20).current == [8, 0, 0, 0, 0x32, 0, 0, 0, 0, 0, 0, 0]) = true := by decide +kernel

/-- Table 1-8 at 90 ms: a short frame counts a length error, keeps the timer, and is forwarded with its 2 bytes. -/
theorem test_short_frame :
    after (exec (.receivedFrame 0 ⟨.standard, 0x18C, false, [7, 8]⟩) busAt90) (fun t =>
      t.frames.entries.get 12 == ⟨.receiving, .running 140, 1, 1, none⟩
        && ((t.outbound.ports.get 1).flight.map (·.frame)) == some ⟨.standard, 0x18C, [7, 8]⟩
        && !(t.display.records.get 20).dirty) = true := by decide +kernel

/-- Table 1-8 at 140 ms: SILENT, TIMEOUT, the fault recorded with severity 1. -/
theorem test_reception_timer :
    after (exec (.receptionTimerExpiry 12) busAt90) (fun t =>
      t.frames.entries.get 12 == ⟨.silent, .stopped, 1, 0, some 0x0312⟩ && (t.signals.get 40).written == .timeout
        && t.now == 140 && t.faults.items.records.map (fun r => (r.code, r.source, r.severity))
            == [(0x0312, .entry 12, 1)]) = true := by decide +kernel

/-- R3, R6: the receive error that takes the counter to 128 makes the port ERROR_PASSIVE. -/
theorem test_receive_error :
    let s := live .active bus
    after (exec (.receiveError 2) { s with frames := { s.frames with
        ports := s.frames.ports.set 2 { PortRun.reset with state := .errorActive, receiveErrors := 127 } } }) (fun t =>
      (t.frames.ports.get 2).state == .errorPassive && (t.frames.ports.get 1).state == .errorActive) = true := by
  decide +kernel

/-- A port with an own frame of entry 2 in flight and the transmit error counter at `n`. -/
def sendingAt (n : Nat) : State :=
  let s := live .active bus
  { s with
    frames := { s.frames with ports := s.frames.ports.set 1 { PortRun.reset with state := .errorPassive, transmitErrors := n } }
    outbound := { s.outbound with
      ports := s.outbound.ports.set 1 { OutPort.reset with flight := some ⟨.own 2 true, ⟨.standard, 5, []⟩⟩ }
      schedule := s.outbound.schedule.set 2 ⟨3, none⟩ } }

/-- R3, R4: 247 and 8 is 255, still on the bus; 248 and 8 is above it: BUS_OFF, the own frame gone. -/
theorem test_transmit_error :
    after (exec (.transmitError 1) (sendingAt 247)) (fun t =>
        (t.frames.ports.get 1).state == .errorPassive && (t.outbound.ports.get 1).flight.isSome) = true
      ∧ after (exec (.transmitError 1) (sendingAt 248)) (fun t =>
        (t.frames.ports.get 1).state == .busOff && (t.frames.ports.get 1).recovery == some 100
          && (t.outbound.ports.get 1).flight.isNone && (t.outbound.schedule.get 2).backlog == 3
          && (t.frames.ports.get 1).transmitErrors == 256) = true := by decide +kernel

/-- R161: the completion of an own frame takes 1 from its backlog. -/
theorem test_transmission_complete :
    after (exec (.transmissionComplete 1) (sendingAt 128)) (fun t =>
      (t.frames.ports.get 1).transmitErrors == 127 && (t.frames.ports.get 1).state == .errorActive
        && (t.outbound.schedule.get 2).backlog == 2 && (t.outbound.ports.get 1).flight.isNone) = true := by decide +kernel

/-- R5: the recovery timer returns the port with both counters 0. -/
theorem test_recovery :
    let s := live .active bus
    after (exec (.recoveryTimerExpiry 0) { s with frames := { s.frames with
        ports := s.frames.ports.set 0 ⟨.busOff, 256, 9, some 300, none, .k125⟩ } }) (fun t =>
      t.frames.ports.get 0 == ⟨.errorActive, 0, 0, none, none, .k125⟩ && t.now == 300) = true := by decide +kernel

/-- R173: the gap timer discards the partial message. -/
theorem test_gap_timer :
    let s := live .active bus
    after (exec (.gapTimerExpiry 1) { s with service := { s.service with
        ports := s.service.ports.set 1 ⟨some ⟨3, 1, [1, 2, 3, 4, 5, 6, 7]⟩, some 200, none⟩ } }) (fun t =>
      t.service.ports.get 1 == ⟨none, none, none⟩) = true := by decide +kernel

/-- Table 9-3: at backlog 12 the completion of a forward copy is followed by a pick of entry 2 with the catch-up flag set. -/
def catching : State :=
  let img := { shop with transmit := shop.transmit.set 2 { TransmitEntry.blank with inUse := true, port := 1, period := 5 } }
  let s := live .active img
  let f : ForwardCopy := ⟨⟨.standard, 9, []⟩, true, 0⟩
  { s with outbound := { s.outbound with
      ports := s.outbound.ports.set 1 ⟨List.replicate 12 f, [], some ⟨.forward f, f.frame⟩, .forward, false⟩
      schedule := s.outbound.schedule.set 2 ⟨11, some 50⟩ } }

theorem test_period_timer :
    after (exec (.periodTimerExpiry 2) catching) (fun t =>
      t.outbound.schedule.get 2 == ⟨12, some 100⟩ && !(t.outbound.ports.get 1).catchUp) = true := by decide +kernel

theorem test_critical_pick :
    let s := catching
    after (exec (.transmissionComplete 1) { s with outbound := { s.outbound with
        schedule := s.outbound.schedule.set 2 ⟨12, some 50⟩ } }) (fun t =>
      let q := t.outbound.ports.get 1
      q.catchUp && q.lastPick == .own && q.forward.length == 12 && (q.flight.map (·.kind)) == some (.own 2 true)) = true := by
  decide +kernel

/-! ### Values: Tables 2-3 and 2-8, section 5.4 -/

def wide : SignalConfig := ⟨.none, -10000, 10000⟩

/-- Table 2-3. -/
theorem test_conversions :
    convert speedSlot ⟨.none, 0, 2500⟩ [0, 0, 0, 0x32] = .converted 500 false
      ∧ convert speedSlot ⟨.none, 0, 2500⟩ [0, 0, 0xFD, 0xFF] = .converted 2500 true
      ∧ convert { speedSlot with invalidCodes := true } ⟨.none, 0, 2500⟩ [0, 0, 0xFF, 0xFF] = .status .notAvailable
      ∧ convert { speedSlot with invalidCodes := true } ⟨.none, 0, 2500⟩ [0, 0, 0xFE, 0xFF] = .status .senderError
      ∧ convert ⟨none, 0, 8, .little, false, false, 1, 0, -40⟩ ⟨.none, -40, 210⟩ [130] = .converted 90 false
      ∧ convert ⟨none, 0, 8, .little, false, false, -3, 1, 0⟩ wide [5] = .converted (-8) false
      ∧ convert ⟨none, 4, 12, .little, true, false, 5, 0, 0⟩ ⟨.none, -1000, 1000⟩ [0x30, 0xFF] = .converted (-65) false
      ∧ convert ⟨none, 48, 16, .big, false, false, 1, 2, 0⟩ ⟨.none, 0, 5000⟩ [0x12, 0x34] = .converted 1165 false := by
  decide +kernel

/-- Table 5-4. -/
theorem test_characteristic :
    interpolate [(0, 0), (1000, 2400), (1250, 3000)] 500 = 1200 ∧ interpolate [(0, 0), (1000, 2400), (1250, 3000)] 1100 = 2640
      ∧ interpolate [(0, 0), (1000, 2400), (1250, 3000)] 1300 = 3000
      ∧ interpolate [(0, 0), (1000, 2400), (1250, 3000)] (-5) = 0
      ∧ interpolate [(0, 2000), (300, 1000)] 1 = 1997 ∧ interpolate [(0, 2000), (300, 1000)] 299 = 1004 := by decide +kernel

/-- Table 2-8, third row: the alternate's 2700 is cut to signal 40's limit and the qualifier set; fourth row: the alternate is no
longer VALID, so the held value with reason TIMEOUT. -/
def substituted : Image :=
  { bus with
    signals := bus.signals.set 41 ⟨.frame 30 0, 0, 3000⟩
    substitution := bus.substitution.set 3 ⟨true, 40, .signal 41, false⟩ }

theorem test_substitution_rows :
    let s := live .active substituted
    let t := s.signals.set 40 ⟨500, .timeout, false, Effective.none, 498⟩
    (resolved s.image (t.set 41 ⟨2700, .valid, false, Effective.none, 0⟩) 40).eff = ⟨2500, .substituted, none, true⟩
      ∧ (resolved s.image (t.set 41 ⟨2700, .notAvailable, false, Effective.none, 0⟩) 40).eff
        = ⟨498, .invalid, some .timeout, false⟩ := by decide +kernel

/-! ### Requests -/

/-- Table 10-6: IDENTIFY begins with part code 0x0620; the response is 13 bytes in 2 segments. -/
theorem test_identify :
    after (exec (.identify 1 []) (live .active shop)) (fun t =>
      firstBytes 1 4 t == [0x01, 0, 0x20, 0x06] && (t.outbound.ports.get 1).response.length == 1) = true := by decide +kernel

/-- Table 10-7: the record of constant signal 1 begins with its number and kind CONSTANT; access does not matter. -/
theorem test_read_signal :
    after (exec (.readSignal 0 [1]) (live .standby shop)) (fun t => firstBytes 0 5 t == [0x02, 0, 1, 4, 1]) = true := by
  decide +kernel

/-- Table 10-7: entry 12 at 90 ms: RECEIVING, not reported, count 1; 50 ms to expiry in the second segment. -/
theorem test_read_frame_entry :
    after (exec (.readFrameEntry 0 [12]) busAt90) (fun t =>
      firstBytes 0 7 t == [0x03, 0, 12, 1, 0, 1, 0] && (t.outbound.ports.get 0).response == [[0x12, 0, 50, 0]]) = true := by
  decide +kernel

/-- R149: an empty memory answers count 0, overflow 0 and the index asked for; index 32 is BAD_INDEX. -/
theorem test_read_faults :
    after (exec (.readFaults 0 [5]) (live .active shop)) (fun t => firstBytes 0 7 t == [0x04, 0, 0, 0, 5]) = true
      ∧ after (exec (.readFaults 0 [32]) (live .active shop)) (answers 0 0x04 5) = true := by decide +kernel

/-- R149: an empty slot; a first entry above 15 is BAD_INDEX. -/
theorem test_read_snapshot :
    after (exec (.readSnapshot 2 [7, 0]) (live .active shop)) (fun t => firstBytes 2 4 t == [0x05, 0, 7, 0]) = true
      ∧ after (exec (.readSnapshot 2 [7, 16]) (live .active shop)) (answers 2 0x05 5) = true := by decide +kernel

/-- Table 10-7: attribute 3, in use, kind FRAME_TIMEOUT (7), source 12. -/
theorem test_read_attribute :
    let img := { shop with attrs := shop.attrs.set 3 ⟨true, .frameTimeout, some 12, 500, some ⟨0x0A10, 1⟩⟩ }
    after (exec (.readAttribute 0 [3]) (live .active img)) (fun t => firstBytes 0 6 t == [0x06, 0, 3, 1, 7, 12]) = true := by
  decide +kernel

/-- A warning ON and presented: W5 and W12 of Tables 6-7 and 6-8 at 2600 ms (W5 shown for 600 ms). -/
def presenting : State :=
  let w5 : WarningConfig :=
    { WarningConfig.blank with
      inUse := true, level := 1, latching := true, message := 0x0210, minimum := 20, buzzer := some (6, 255)
      lamp := some (7, 3), fault := some ⟨0x0701, 2⟩ }
  let w12 : WarningConfig :=
    { WarningConfig.blank with inUse := true, level := 4, message := 0x0131, minimum := 30, buzzer := some (4, 2) }
  let w20 : WarningConfig := { WarningConfig.blank with inUse := true, level := 4, message := 0x0140 }
  let s := live .active { shop with warnings := ((shop.warnings.set 5 w5).set 12 w12).set 20 w20 }
  let on := fun n : Nat => (⟨.on, true, true, none, false, some n, none⟩ : WarningRun)
  { s with now := 2600, warnings := { s.warnings with
      recs := ((s.warnings.recs.set 5 (on 3)).set 12 (on 0)).set 20 (on 2)
      stack := [⟨5, 1, 600, false, 255⟩, ⟨12, 4, 2000, false, 0⟩], waiting := [20], stampCounter := 4, request := some 6 } }

/-- Table 6-8 at 2600: the key finds W5 at 600 of its 2000 ms: acknowledge-pending until 4000. -/
theorem test_acknowledge :
    after (exec (.acknowledge 0 []) presenting) (fun t =>
      t.warnings.stack == [⟨5, 1, 600, true, 255⟩, ⟨12, 4, 2000, false, 0⟩] && t.warnings.minTimer == some 4000
        && answers 0 0x07 0 t) = true := by decide +kernel

/-- R150: CLEAR FAULTS empties the memory; a SILENT entry raises again. -/
theorem test_clear_faults :
    let s := busAt90
    let p := raiseItem 0x0502 (.door 2) 2 [] s.eff Persistent.empty
    after (exec (.clearFaults 0 []) { s with
        faults := { s.faults with items := p }
        frames := { s.frames with entries := s.frames.entries.set 12 ⟨.silent, .stopped, 1, 0, some 0x0312⟩ } }) (fun t =>
      t.faults.items.records.map (·.code) == [0x0312] && answers 0 0x10 0 t) = true := by decide +kernel

/-- R149, R150, R192: CLEAR FAULTS on the one record of an attribute that stands at its threshold: the count goes 1, 0, 1, each handed
and written, so the MODE record ends as it was and is dirty. -/
theorem test_clear_faults_hands_count :
    let s := live .active { shop with
      attrs := shop.attrs.set 3 ⟨true, .frameTimeout, none, 5, some ⟨0x0A10, 1⟩⟩, display := shop.display.set 0 .mode }
    let p := raiseItem 0x0A10 (.attr 3) 1 [] s.eff { Persistent.empty with attrValues := (Tab.replicate 16 0).set 3 5 }
    let shown := [1, 0, 1, 0] ++ List.replicate 8 0
    after (exec (.clearFaults 0 []) { s with
        control := { s.control with faultCount := 1 }, faults := { s.faults with items := p }
        display := { s.display with records := s.display.records.set 0 ⟨shown, shown, false⟩ } }) (fun t =>
      t.faults.items.records.length == 1 && t.control.faultCount == 1
        && t.display.records.get 0 == ⟨shown, shown, true⟩) = true := by decide +kernel

/-- R153: the value goes to 0 and the record becomes PASSIVE. -/
theorem test_reset_attribute :
    let s := live .active shop
    let p := raiseItem 0x0A10 (.attr 3) 1 [] s.eff { Persistent.empty with attrValues := (Tab.replicate 16 0).set 3 500 }
    after (exec (.resetAttribute 0 [3]) { s with faults := { s.faults with
        items := p, attrReported := s.faults.attrReported.set 3 (some 0x0A10) } }) (fun t =>
      t.faults.items.attrValues.get 3 == 0 && t.faults.items.records.map (·.active) == [false]) = true := by decide +kernel

/-- Table 2-8, sixth row: signal 40 VALID 300, entry 3 forced without alternate: 300, INVALID, BLOCKED. -/
def at300 : State :=
  let s := live .active substituted
  { s with signals := s.signals.set 40 ⟨300, .valid, false, ⟨300, .valid, none, false⟩, 300⟩ }

theorem test_substitute :
    after (exec (.substitute 0 [3, 1, 40, 0, 0, 0, 0, 0, 0, 1]) at300) (fun t =>
      (t.signals.get 40).eff == ⟨300, .invalid, some .blocked, false⟩ && answers 0 0x12 0 t) = true := by decide +kernel

/-- Signal 41 VALID 2700 beside `at300`, and signal 40 with the written status `st`. -/
def at2700 (st : OwnStatus) : State :=
  let r : SignalRun := ⟨300, st, false, ⟨300, .valid, none, false⟩, 300⟩
  { at300 with signals := (at300.signals.set 41 ⟨2700, .valid, false, Effective.none, 0⟩).set 40 r }

/-- Table 2-4: AUTO leaves a VALID own value and gives the alternate's, cut, after it; FORCED gives it at once; and an entry that is
written for signal 41 leaves signal 40 to its own state. -/
theorem test_substitute_rows :
    let shown := fun (o : Host.Outcome State Fault Refusal) (i : Fin 256) (e : Effective) =>
      after o fun t => (t.signals.get i).eff == e
    shown (exec (.substitute 0 [3, 1, 40, 1, 41, 0, 0, 0, 0, 0]) (at2700 .valid)) 40 ⟨300, .valid, none, false⟩ = true
      ∧ shown (exec (.substitute 0 [3, 1, 40, 1, 41, 0, 0, 0, 0, 0]) (at2700 .timeout)) 40 ⟨2500, .substituted, none, true⟩ = true
      ∧ shown (exec (.substitute 0 [3, 1, 40, 1, 41, 0, 0, 0, 0, 1]) (at2700 .valid)) 40 ⟨2500, .substituted, none, true⟩ = true
      ∧ shown (exec (.substitute 0 [3, 1, 40, 1, 41, 0, 0, 0, 0, 1]) at300) 40 ⟨300, .invalid, some .blocked, false⟩ = true
      ∧ shown (exec (.substitute 0 [3, 1, 41, 2, 0, 7, 0, 0, 0, 1]) (at2700 .timeout)) 40 ⟨300, .invalid, some .timeout, false⟩
        = true := by decide +kernel

/-- Table 2-8, last row: the release uncovers 320 at once. -/
theorem test_release_substitute :
    let img := { substituted with substitution := substituted.substitution.set 3 ⟨true, 40, .none, true⟩ }
    let s := live .active img
    after (exec (.releaseSubstitute 0 [3]) { s with
        signals := s.signals.set 40 ⟨320, .valid, false, ⟨300, .invalid, some .blocked, false⟩, 300⟩ }) (fun t =>
      (t.signals.get 40).eff == ⟨320, .valid, none, false⟩ && !(t.image.substitution.get 3).inUse) = true := by decide +kernel

/-- Table 10-11 row 1. -/
theorem test_begin_configuration :
    after (exec (.beginConfiguration 2 []) (live .active shop)) (fun t =>
      t.control.mode == .configuring && answers 2 0x20 0 t && t.service.slot == none) = true := by decide +kernel

/-- Table 10-11 row 12: ACTIVE again, since the ignition is asserted. -/
theorem test_end_configuration :
    after (exec (.endConfiguration 2 []) (live .configuring shop)) (fun t =>
      t.control.mode == .active && answers 2 0x21 0 t) = true := by decide +kernel

/-- Table 10-11 rows 7 and 8: COMMIT takes the slot with PENDING, a SELECT meanwhile is BUSY. -/
theorem test_commit_profile :
    after (exec (.commitProfile 2 [2]) (live .configuring shop)) (fun t =>
      t.service.slot == some (.commit, 2) && answers 2 0x23 1 t && t.store.operation == some (.commit 2 .erase)) = true := by
  decide +kernel

theorem test_select_busy :
    let s := live .configuring shop
    after (exec (.selectProfile 0 [1]) { s with service := { s.service with slot := some (.commit, 2) } }) (answers 0 0x24 2)
      = true ∧ after (exec (.selectProfile 0 [1]) s) (answers 0 0x24 1) = true := by decide +kernel

/-- R184: a test of 10 s is PENDING; a lamp with an owner is lit steady (R133). -/
theorem test_output_test :
    let img := { shop with lamps := shop.lamps.set 7 { LampConfig.blank with owner := .warnings } }
    after (exec (.outputTest 1 [10]) (live .active img)) (fun t =>
      t.service.testTimer == some 10000 && answers 1 0x30 1 t && (t.lamps.lamps.get 7).resolved == some 0) = true := by
  decide +kernel

/-- An output test running for port 1. -/
def testing : State :=
  let s := live .active shop
  { s with service := { s.service with slot := some (.outputTest, 1), testTimer := some 10000 } }

/-- R185: STOP TEST ends it: the test's result goes to its port, the answer to the sender. -/
theorem test_stop_test :
    after (exec (.stopTest 0 []) testing) (fun t =>
      t.service.slot == none && answers 1 0x30 0 t && answers 0 0x31 0 t) = true := by decide +kernel

theorem test_test_timer :
    after (exec .testTimerExpiry testing) (fun t => t.service.slot == none && answers 1 0x30 0 t && t.now == 10000) = true := by
  decide +kernel

/-! ### Loads: contents written out from Table 10-9 -/

/-- A part in CONFIGURING with the earlier parts of a load on port 2. -/
def loading (table index count next : Nat) (bytes : List Byte) : State :=
  (live .configuring shop).setStaging 2 (some ⟨table, index, count, next, bytes⟩)

def zeros (n : Nat) : List Byte := List.replicate n 0

theorem test_load_frame :
    after (exec (.loadEntryFrame 2 12 0x01
        [1, 0, 0, 0x8C, 0x01, 0, 0, 0xFF, 0x07, 0, 0, 4, 10, 2, 0xFF, 0xFF, 0xFF, 0xFF, 0, 20, 0x12, 0x03, 1])
        (live .configuring shop)) (fun t => t.image.frames.get 12 == entry12 && answers 2 0x22 0 t) = true := by
  decide +kernel

/-- R11: signal 40's source is the descriptor at index 96, so index 100 targeting it is a CONFLICT (Table 10-11 row 6). -/
theorem test_load_extract :
    after (exec (.loadEntryExtract 2 96 0x01 [40, 0, 16, 16, 0, 0, 0, 10, 0, 8, 0, 0, 0, 0])
        (live .configuring { shop with frames := shop.frames.set 12 entry12 })) (fun t =>
      (t.image.extract.get 12).get 0 == speedSlot && (t.image.signals.get 40).source == .frame 12 0) = true
      ∧ after (exec (.loadEntryExtract 2 100 0x01 [40, 0, 16, 16, 0, 0, 0, 10, 0, 8, 0, 0, 0, 0]) (live .configuring bus))
        (answers 2 0x22 7) = true := by decide +kernel

theorem test_load_signal :
    after (exec (.loadEntrySignal 2 9 0x01 [0xF6, 0xFF, 0xFF, 0xFF, 0xF4, 0x01, 0, 0, 1, 5, 0, 0, 0]) (live .configuring shop))
      (fun t => t.image.signals.get 9 == ⟨.constant 5, -10, 500⟩ && (t.signals.get 9).eff == ⟨5, .valid, none, false⟩)
      = true := by decide +kernel

theorem test_load_substitution :
    after (exec (.loadEntrySubstitution 2 3 0x01 [1, 40, 1, 41, 0, 0, 0, 0, 0]) (live .configuring bus)) (fun t =>
      t.image.substitution.get 3 == ⟨true, 40, .signal 41, false⟩) = true := by decide +kernel

theorem test_load_input :
    after (exec (.loadEntryInput 2 5 0x01 [0, 1, 3, 60, 0, 0, 0x05, 0x04, 1]) (live .configuring shop)) (fun t =>
      t.image.discretes.get 5 == ⟨true, true, 3, some 60, false, some ⟨0x0405, 1⟩⟩
        && (t.image.signals.get 60).source == .discrete 5) = true := by decide +kernel

theorem test_load_analog :
    after (exec (.loadEntryAnalog 2 2 0x01 [4, 100, 0, 0xA0, 0x0F, 25, 0, 8, 0, 0, 0, 0, 72, 0, 0, 0, 0xFF])
        (live .configuring shop)) (fun t =>
      t.image.analogs.get 2 == ⟨4, 100, 4000, 25, 8, 0, some 72, none⟩) = true := by decide +kernel

/-- Door D2 of section 4.10. -/
def doorD2 : DoorConfig :=
  ⟨true, 80, some 81, some 82, some 83, some 84, 60, 40, some 90, some ⟨0x0502, 2⟩,
    ⟨[some 3, none, some 0, some 2, some 0, some 2, some 3, some 3, some 3], rfl⟩⟩

theorem test_load_door :
    after (exec (.loadEntryDoor 2 2 0x01 [1, 80, 81, 0, 82, 0, 83, 0, 84, 0, 60, 40, 90, 0, 0x02, 0x05, 2,
        3, 0xFF, 0, 2, 0, 2, 3, 3, 3]) (live .configuring shop)) (fun t =>
      t.image.doors.get 2 == doorD2 && (t.image.signals.get 90).source == .derived (.door 2)) = true := by decide +kernel

/-- The GAUGE content of 63 bytes in parts of 51 and 12: the characteristic of Table 5-4. -/
def gaugeBytes : List Byte :=
  [1, 40, 0xB8, 0x0B, 3, 0, 0, 0, 0, 0, 0, 0xE8, 0x03, 0, 0, 0x60, 0x09, 0xE2, 0x04, 0, 0, 0xB8, 0x0B] ++ zeros 28

theorem test_load_gauge :
    after (exec (.loadEntryGauge 2 0 0x02 gaugeBytes) (live .configuring shop)) (fun t =>
        (t.service.ports.get 2).staging == some ⟨8, 0, 2, 1, gaugeBytes⟩ && answers 2 0x22 0 t) = true
      ∧ after (exec (.loadEntryGauge 2 0 0x12 [0, 0, 0, 0, 3, 20, 1, 0, 0, 200, 0, 1]) (loading 8 0 2 1 gaugeBytes)) (fun t =>
        t.image.gauges.get 0 == ⟨true, 40, 3000, [(0, 0), (1000, 2400), (1250, 3000)], 0, 3, 20, .rest, 200, true⟩
          && (t.service.ports.get 2).staging == none) = true := by decide +kernel

theorem test_load_warning :
    after (exec (.loadEntryWarning 2 12 0x01 ([1, 0, 40, 0, 100, 0, 0, 0, 5, 0, 0, 0, 0xFF, 0xFF, 0, 0, 0, 0, 0, 4, 10, 20, 0,
        0x31, 0x01, 30, 0, 4, 2, 0xFF, 0, 0, 0, 0xFF])) (live .configuring shop)) (fun t =>
      t.image.warnings.get 12 == ⟨true, false, 40, .above, 100, 5, none, 4, 10, 20, false, 0x0131, 30, 0, some (4, 2), none,
        none⟩) = true := by decide +kernel

theorem test_load_lamp :
    after (exec (.loadEntryLamp 2 7 0x01 [2, 40, 0, 3, 0xFF, 1, 0x07, 0x06, 1]) (live .configuring shop)) (fun t =>
      t.image.lamps.get 7 == ⟨.signal, some 40, some 3, none, true, some ⟨0x0607, 1⟩⟩) = true := by decide +kernel

/-- R127: PT0 cannot be changed. -/
theorem test_load_pattern :
    after (exec (.loadEntryPattern 2 3 0x01 [8, 0x0F, 0]) (live .configuring shop)) (fun t =>
        t.image.patterns.get 3 == ⟨8, 0x000F⟩) = true
      ∧ after (exec (.loadEntryPattern 2 0 0x01 [8, 0x0F, 0]) (live .configuring shop)) (answers 2 0x22 5) = true := by
  decide +kernel

/-- An empty packing slot: signal absent, length 1. -/
def noSlot : List Byte := [0xFF, 0xFF, 0, 1, 0, 0, 0, 0, 0, 0, 0]

theorem test_load_transmit :
    let slots := [40, 0, 16, 16, 0, 0, 0, 0, 0, 0, 1] ++ (List.replicate 7 noSlot).flatten
    let content := [1, 1, 1, 0x78, 0x56, 0x34, 0x12, 8, 10, 0] ++ slots
    after (exec (.loadEntryTransmit 2 2 0x12 (content.drop 51)) (loading 12 2 2 1 (content.take 51))) (fun t =>
      let e := t.image.transmit.get 2
      e.inUse && e.port == 1 && e.kind == .extended && e.ident == 0x12345678 && e.length == 8 && e.period == 10
        && e.slots.list.map (·.map (·.signal)) == [some 40, none, none, none, none, none, none, none]
        && (e.slots.get 0) == some ⟨40, 16, 16, .little, 0, 0, true⟩) = true := by decide +kernel

theorem test_load_display :
    after (exec (.loadEntryDisplay 2 63 0x01 [2, 40]) (live .configuring shop)) (fun t =>
        t.image.display.get 63 == .value 40) = true
      ∧ after (exec (.loadEntryDisplay 2 63 0x01 [1, 6]) (live .configuring shop)) (answers 2 0x22 5) = true := by
  decide +kernel

theorem test_load_attribute :
    after (exec (.loadEntryAttribute 2 3 0x01 [1, 7, 12, 0xF4, 0x01, 0, 0, 0x10, 0x0A, 1]) (live .configuring shop)) (fun t =>
      t.image.attrs.get 3 == ⟨true, .frameTimeout, some 12, 500, some ⟨0x0A10, 1⟩⟩) = true := by decide +kernel

theorem test_load_snapshot_list :
    after (exec (.loadEntrySnapshotList 2 0 0x01 ([2, 40, 72] ++ zeros 14)) (live .configuring shop)) (fun t =>
      t.image.snapshotList == [40, 72]) = true := by decide +kernel

/-- The settings of a port not in use: recovery 100 ms, no fault. -/
def noPort : List Byte := [0, 0, 10, 0, 0, 0xFF, 0, 0, 0, 0, 0, 0, 0, 0, 0, 0]

/-- A backlight characteristic of two breakpoints, (0, 200) and (1000, 1000). -/
def backlightBytes : List Byte := [2, 0, 0, 0, 0, 200, 0, 0xE8, 0x03, 0, 0, 0xE8, 0x03] ++ zeros 12

theorem test_load_general :
    let content := [1, 2, 1, 1, 3, 4, 30, 0, 0, 0, 0, 0xC0, 0xFF, 0xFF, 0xFF, 0xFF, 0xFF, 0xFF, 5, 125, 0xD0, 0x07, 28, 40,
      60, 0] ++ backlightBytes ++ backlightBytes
      ++ [1, 2, 20, 0, 0x0B, 2, 1, 0, 0x20, 0x07, 0, 0, 0x28, 0x07, 0, 0] ++ noPort ++ noPort
    after (exec (.loadEntryGeneral 2 0 0x23 (content.drop 102)) (loading 16 0 3 2 (content.take 102))) (fun t =>
      let g := t.image.general
      g.ignition == 1 && g.speed == 2 && g.dimmer == 4 && g.movingThreshold == 30 && g.movingMask == 0xC0 && g.scanPeriod == 5
        && g.bulbCheck == 2000 && g.sleepDelay == 60 && g.bl1 == [(0, 200), (1000, 1000)]
        && g.ports.get 0 == ⟨true, .k500, 20, some ⟨0x0B00, 2⟩, true, .standard, 0x720, 0x728⟩) = true := by decide +kernel

/-- The loader accepts `content` for row `index` of table `table` of `img`, and what it writes has the property `f`. -/
def loads (table index : Nat) (content : List Byte) (img : Image) (f : Image → Bool) : Bool :=
  match (live .configuring img).loadEntry table index content with
  | .ok t => f t.image
  | .error _ => false

/-- The gauge of `gaugeBytes`. -/
def gauge0 : GaugeConfig := ⟨true, 40, 3000, [(0, 0), (1000, 2400), (1250, 3000)], 0, 3, 20, .rest, 200, true⟩

/-- The encoders of the statements give the contents written out above. -/
theorem test_encoders_write_the_contents :
    gaugeLoad gauge0 = gaugeBytes ++ [0, 0, 0, 0, 3, 20, 1, 0, 0, 200, 0, 1]
      ∧ doorLoad doorD2 = [1, 80, 81, 0, 82, 0, 83, 0, 84, 0, 60, 40, 90, 0, 0x02, 0x05, 2, 3, 0xFF, 0, 2, 0, 2, 3, 3, 3]
      ∧ lampLoad ⟨.signal, some 40, some 3, none, true, some ⟨0x0607, 1⟩⟩ = [2, 40, 0, 3, 0xFF, 1, 0x07, 0x06, 1]
      ∧ signalLoad (-10) 500 (some 5) = [0xF6, 0xFF, 0xFF, 0xFF, 0xF4, 0x01, 0, 0, 1, 5, 0, 0, 0]
      ∧ substitutionLoad ⟨true, 40, .signal 41, false⟩ = [1, 40, 1, 41, 0, 0, 0, 0, 0]
      ∧ snapshotListLoad [40, 72] = [2, 40, 72] ++ zeros 14 ∧ displayLoad (.value 40) = [2, 40]
      ∧ pointsField 4 [(0, 200), (1000, 1000)] = backlightBytes := by decide +kernel

def transmit2 : TransmitEntry :=
  ⟨true, 1, .extended, 0x12345678, 8, 10, false,
    (Tab.replicate 8 none).set 0 (some ⟨40, 16, 16, .little, 0, -5, true⟩)⟩

def qualified : WarningConfig :=
  ⟨true, false, 40, .below, -100, 5, some ⟨255, .notEqual, -1⟩, 7, 255, 20, true, 0x0131, 100, 60, some (4, 255), some (23, 7),
    some ⟨65535, 3⟩⟩

def settings : General :=
  { shop.general with
    movingThreshold := -30, movingMask := 0xC0, allClosed := some 90, openMoving := some 91, displayFault := some 92
    healLimit := 255, sleepDelay := 600, bl0 := [(-5, 200), (1000, 1000)], bl1 := [(0, 1), (1, 2), (2, 3), (3, 4)]
    ports := shop.general.ports.set 2 ⟨true, .k500, 255, some ⟨0x0B00, 2⟩, true, .extended, 0x1FFFFFFF, 0x728⟩ }

/-- What the encoders write, the loader writes back, at the ends of the fields' ranges. -/
theorem test_loads_of_encoders :
    loads 12 15 (transmitLoad transmit2) shop (·.transmit.get 15 == transmit2) = true
      ∧ loads 9 63 (warningLoad qualified) shop (·.warnings.get 63 == qualified) = true
      ∧ loads 9 0 (warningLoad WarningConfig.blank) shop (·.warnings.get 0 == WarningConfig.blank) = true
      ∧ loads 16 0 (generalLoad settings) shop (fun img => img.general == settings
          && (img.signals.get 90).source == .derived .allClosed && (img.signals.get 92).source == .derived .displayFault) = true
      ∧ loads 7 5 (doorLoad doorD2) shop (·.doors.get 5 == doorD2) = true
      ∧ loads 8 5 (gaugeLoad { gauge0 with fallback := .position 3000 }) shop
          (·.gauges.get 5 == { gauge0 with fallback := .position 3000 }) = true
      ∧ loads 10 23 (lampLoad ⟨.door, none, none, some 5, false, none⟩) shop
          (·.lamps.get 23 == ⟨.door, none, none, some 5, false, none⟩) = true
      ∧ loads 4 15 (substitutionLoad ⟨true, 40, .constant (-5), true⟩) { shop with signals := shop.signals.set 40 ⟨.none, -10, 10⟩ }
          (·.substitution.get 15 == ⟨true, 40, .constant (-5), true⟩) = true
      ∧ loads 15 0 (snapshotListLoad ((List.range 16).map fun n => (255 : Fin 256) - Fin.ofNat 256 n)) shop
          (·.snapshotList == (List.range 16).map fun n => (255 : Fin 256) - Fin.ofNat 256 n) = true
      ∧ loads 13 63 (displayLoad (.gauge 5)) shop (·.display.get 63 == .gauge 5) = true := by decide +kernel

/-- R83: a position above FS is refused under every fallback kind, HOLD here. -/
theorem test_gauge_position_above_scale :
    loads 8 0 (gaugeBytes ++ [0, 0, 0, 0, 3, 20, 0, 0xB9, 0x0B, 200, 0, 1]) shop (fun _ => true) = false
      ∧ loads 8 0 (gaugeBytes ++ [0, 0, 0, 0, 3, 20, 0, 0xB8, 0x0B, 200, 0, 1]) shop (fun _ => true) = true := by decide +kernel
/-- R23: a load of SIGNAL cuts own and held value, sets the qualifier and drops a constant source. -/
theorem test_signal_load_cuts :
    let s := live .configuring bus
    let s := { s with signals := s.signals.set 40 ⟨500, .timeout, false, ⟨498, .invalid, some .timeout, false⟩, 498⟩ }
    (match s.loadEntry 3 40 (signalLoad (-10) 10 none) with
      | .ok t => t.signals.get 40 == ⟨10, .timeout, true, ⟨10, .invalid, some .timeout, false⟩, 10⟩
      | .error _ => false) = true
      ∧ (match s.loadEntry 3 1 (signalLoad (-10) 10 none) with
      | .ok t => (t.image.signals.get 1).source == .none
      | .error _ => false) = true := by decide +kernel

/-! ### Store -/

def committing : State :=
  let s := live .configuring shop
  { s with
    service := { s.service with slot := some (.commit, 2) }
    store := { s.store with operation := some (.commit 2 .check), copyB := ⟨Persistent.empty, 1, 41, true⟩ } }

/-- Table 10-11 row 11; the new current copy names slot 2 with save number 42. -/
theorem test_commit_complete :
    after (exec .commitComplete committing) (fun t =>
      t.control.activeSlot == 2 && (t.store.slots.get 2) == ⟨some shop, true⟩ && answers 2 0x23 0 t
        && t.store.current.activeSlot == 2 && t.store.current.number == 42 && t.service.slot == none) = true := by decide +kernel

/-- R187: a failure before step 4 leaves the slot invalid and the active slot as it was, with 0xF003 recorded. -/
theorem test_store_write_failure :
    after (exec (.storeWriteFailure .check) committing) (fun t =>
      t.control.activeSlot == 0 && (t.store.slots.get 2) == ⟨none, false⟩ && answers 2 0x23 8 t && t.store.failure
        && t.faults.items.records.map (·.code) == [0xF003]) = true := by decide +kernel

def selecting (good : Bool) : State :=
  let s := live .configuring shop
  { s with
    service := { s.service with slot := some (.select, 0) }
    store := { s.store with operation := some (.selectRead 1), slots := s.store.slots.set 1 ⟨some bus, good⟩ } }

/-- R188: a bad check is STORE_FAILED with nothing recorded; a good one with its save puts the image in place. -/
theorem test_select_read_complete :
    after (exec (.selectReadComplete true) (selecting false)) (fun t =>
        t.control.mode == .configuring && answers 0 0x24 8 t && t.faults.items.records == []) = true
      ∧ after (exec (.selectReadComplete true) (selecting true)) (fun t =>
        t.control.mode == .active && t.control.activeSlot == 1 && t.image == bus && answers 0 0x24 0 t) = true := by
  decide +kernel

/-- Table 11-4: the save to B completes with save number 42. -/
def saving : State :=
  let s := live .standby shop
  { s with store := { s.store with
      operation := some (.save Persistent.empty 2), secondIsCurrent := false
      copyA := ⟨Persistent.empty, 2, 41, true⟩, copyB := ⟨Persistent.empty, 2, 40, false⟩ } }

theorem test_persistence_save_complete :
    after (exec .persistenceSaveComplete saving) (fun t =>
      t.store.current == ⟨Persistent.empty, 2, 42, true⟩ && t.store.secondIsCurrent && t.store.operation == none) = true := by
  decide +kernel

/-! ### Inputs: Tables 3-5 and 3-8 -/

def wired : Image :=
  { shop with
    discretes := shop.discretes.set 5 ⟨true, false, 3, some 60, false, some ⟨0x0405, 1⟩⟩
    analogs := shop.analogs.set 2 ⟨4, 100, 4000, 25, 8, 0, some 72, none⟩
    signals := (shop.signals.set 60 ⟨.discrete 5, 0, 1⟩).set 72 ⟨.analog 2, 0, 100⟩ }

/-- Before scan 3 of Table 3-5 and scan 5 of Table 3-8. -/
def scanning : State :=
  let s := live .active wired
  { s with inputs := { s.inputs with
      scanTimer := some 5
      discretes := s.inputs.discretes.set 5 ⟨some .high, 2, none, false, none, none, none, 0, false⟩
      analogs := s.inputs.analogs.set 2 ⟨[1000, 1001, 1003, 1002], false, none, false⟩ } }

/-- Table 3-5 scan 3: HIGH taken, VALID 0 (active level LOW). Table 3-8 scan 5: mean 1775, 173 cut to 100. -/
theorem test_scan :
    after (exec (.scan (Tab.replicate 24 600) ((Tab.replicate 8 0).set 2 4095)) scanning) (fun t =>
      (t.inputs.discretes.get 5).taken == some .high && (t.signals.get 60).eff == ⟨0, .valid, none, false⟩
        && (t.inputs.analogs.get 2).history == [1001, 1003, 1002, 4095]
        && (t.signals.get 72).eff == ⟨100, .valid, none, true⟩ && t.inputs.scanTimer == some 10) = true := by decide +kernel

/-- R50: an open wire taken writes WIRE_FAULT and is recorded. -/
theorem test_wire_fault :
    let r : DiscreteRun := ⟨some .openWire, 2, some .high, false, none, none, none, 0, false⟩
    (takeClass wired 5 (wired.discretes.get 5) .openWire r).2
      = [.write 60 (.status .wireFault), .report (.wear .inputWireFault 5), .report (.raise 0x0405 (.discrete 5) 1)] := by
  decide +kernel

/-- A wake input in SLEEP whose reference is LOW. -/
def sleeping : State :=
  let img := { shop with discretes := shop.discretes.set 0 ⟨false, true, 1, none, true, none⟩ }
  let s := live .sleep img
  { s with inputs := { s.inputs with
      sleepTimer := some 100, discretes := s.inputs.discretes.set 0 { DiscreteRun.reset with wakeRef := some .low } } }

/-- R56, R192: a debounced change wakes the part; the ignition is asserted, so ACTIVE. -/
theorem test_sleep_scan :
    after (exec (.sleepScan (Tab.replicate 24 900)) sleeping) (fun t => t.control.mode == .active) = true
      ∧ after (exec (.sleepScan (Tab.replicate 24 100)) sleeping) (fun t =>
        t.control.mode == .sleep && t.inputs.sleepTimer == some 200) = true := by decide +kernel

/-! ### Doors: Tables 4-5 and 4-6 -/

/-- D2 of section 4.10 in state `st` at 10500 ms, its travel timer at 16500. -/
def doorAt (st : DoorState) : State :=
  let img := { shop with doors := shop.doors.set 2 doorD2, signals := shop.signals.set 90 ⟨.derived (.door 2), 0, 8⟩ }
  let s := live .active img
  let r : DoorRun :=
    { DoorRun.reset with
      state := st, travel := some 16500, reachedOpen := true, closingStart := some 9300
      views := ⟨some .notAsserted, some .notAsserted, some .asserted, some .notAsserted, some .notAsserted⟩ }
  { s with now := 10500, doors := { s.doors with doors := s.doors.doors.set 2 r } }

/-- Table 4-6 at 16500: FAULT with the fault recorded; signal 90 reads 8. -/
theorem test_travel_timer :
    after (exec (.travelTimerExpiry 2) (doorAt .reversing)) (fun t =>
      (t.doors.doors.get 2).state == .fault && (t.doors.doors.get 2).reachedOpen && (t.signals.get 90).own == 8
        && t.faults.items.records.map (·.code) == [0x0502]) = true := by decide +kernel

/-- Section 4.10, third variant: the conflict still present when the plausibility timer expires. -/
theorem test_plausibility_timer :
    let s := doorAt .opened
    let r := { s.doors.doors.get 2 with travel := none, plausibility := some 10700 }
    after (exec (.plausibilityTimerExpiry 2) { s with doors := { s.doors with doors := s.doors.doors.set 2 r } }) (fun t =>
      (t.doors.doors.get 2).state == .fault && t.now == 10700 && t.doors.interlock) = true := by decide +kernel

/-- Table 4-5 at 17600: CLOSED after 4600 ms with one DOOR_CYCLE and one DOOR_SLOW_CLOSE. -/
theorem test_door_cycle :
    let r : DoorRun :=
      { DoorRun.reset with
        state := .closing, reachedOpen := true, closingStart := some 13000
        views := ⟨some .asserted, some .notAsserted, some .notAsserted, some .notAsserted, some .notAsserted⟩ }
    let t := evaluateDoor shop 2 doorD2 17600 r
    t.1.state = .closed ∧ t.1.reachedOpen = false ∧ t.1.request = none
      ∧ .report (.wear .doorCycle 2) ∈ t.2 ∧ .report (.wear .doorSlowClose 2) ∈ t.2 := by decide +kernel

/-! ### Gauges -/

/-- A gauge with the characteristic of Table 5-4 on signal 1, homing until 3200. -/
def dialCfg : GaugeConfig := { gauge0 with source := 1, damping := 0 }

def dial (st : GaugeState) (position : Nat) : State :=
  let s := live .active { shop with gauges := shop.gauges.set 0 dialCfg }
  { s with gauges := { s.gauges with
      updateTimer := some 20
      gauges := s.gauges.gauges.set 0
        { GaugeRun.reset with
          state := st, position := position, filter := 16 * position, homing := some 3200, sweepPending := true
          view := ⟨500, .valid, none, false⟩ } } }

/-- Table 5-4 and R89: 500 gives the target 1200; the pointer at 100 moves by the slew of 20. -/
theorem test_gauge_update :
    after (exec .gaugeUpdate (dial .tracking 100)) (fun t =>
      let r := t.gauges.gauges.get 0
      r.target == 1200 && r.demand == 1200 && r.position == 120 && t.gauges.updateTimer == some 40) = true := by decide +kernel

/-- R93, R95: homed in ACTIVE with a sweep pending: SWEEP, phase UP, from 0. -/
theorem test_homing_timer :
    after (exec (.homingTimerExpiry 0) (dial .homing 77)) (fun t =>
      let r := t.gauges.gauges.get 0
      r.state == .sweep && r.phase == .up && r.position == 0 && r.homing == none && !r.sweepPending) = true := by decide +kernel

/-! ### Warnings and lamps -/

/-- W5 of `presenting` in state `st` with its delay timer at 3000, not presented. -/
def delaying (st : WarningState) (acked : Bool) : State :=
  let s := presenting
  let r : WarningRun := ⟨st, true, st == .arming, some 3000, acked, none, if st == .releasing then some 0x0701 else none⟩
  { s with warnings := { s.warnings with
      recs := s.warnings.recs.set 5 r, stack := [⟨12, 4, 2000, false, 0⟩] } }

/-- Table 6-8 at 2000: level 1 below 4: W5 is pushed over W12, with PT6 without limit and its stamp. -/
theorem test_on_delay :
    after (exec (.onDelayExpiry 5) (delaying .arming false)) (fun t =>
      t.warnings.stack.map (·.warning) == [5, 12] && t.warnings.request == some 6 && (t.warnings.recs.get 5).stamp == some 4
        && (t.lamps.lamps.get 7).requests == [⟨5, 1, 3⟩] && t.faults.items.records.map (·.code) == [0x0701]) = true := by
  decide +kernel

/-- R108: acknowledged, W5 goes to OFF and not to LATCHED; its fault is cleared. -/
theorem test_off_delay :
    after (exec (.offDelayExpiry 5) (delaying .releasing true)) (fun t =>
      (t.warnings.recs.get 5).state == .off && (t.warnings.recs.get 5).reported == none) = true := by decide +kernel

/-- Table 6-8 at 4000: W5's minimum timer: W5 acknowledged and removed, W12 resumes with its 2000 ms, silent. -/
theorem test_minimum_timer :
    let s := presenting
    after (exec .minimumTimerExpiry { s with warnings := { s.warnings with
        minTimer := some 4000, stack := [⟨5, 1, 600, true, 255⟩, ⟨12, 4, 2000, false, 0⟩] } }) (fun t =>
      t.warnings.stack == [⟨12, 4, 2000, false, 0⟩] && (t.warnings.recs.get 5).acked && t.warnings.request == none
        && t.warnings.waiting == [20]) = true := by decide +kernel

/-- R119: an entry that is uncovered with ack-pending starts its minimum timer one millisecond short of the minimum, and none at it. -/
theorem test_uncovered_timers :
    let top := fun shown => (topChanged presenting ⟨{ presenting.warnings with stack := [⟨5, 1, shown, true, 0⟩] }, []⟩).st
    (top 1999).minTimer = some 2601 ∧ (top 2000).minTimer = none ∧ (top 2001).minTimer = none ∧ (top 0).autoTimer = none := by
  decide +kernel

/-- R121: an auto-dismiss past the minimum removes the top at once. -/
theorem test_auto_dismiss :
    let s := presenting
    after (exec .autoDismissTimerExpiry { s with warnings := { s.warnings with autoTimer := some 5000 } }) (fun t =>
      t.warnings.stack.map (·.warning) == [12] && (t.warnings.recs.get 5).acked) = true := by decide +kernel

/-- Lamp L7 of Table 7-5 with W8's request PT3 and W9's PT0. -/
def panel : State :=
  let img := { shop with
    lamps := shop.lamps.set 7 ⟨.warnings, none, none, none, false, some ⟨0x0607, 1⟩⟩
    patterns := shop.patterns.set 3 ⟨2, 0b01⟩ }
  let s := live .active img
  { s with lamps := { s.lamps with
      stepTimer := some 125, bulbTimer := some 2000, duty1 := 1000
      lamps := s.lamps.lamps.set 7 { LampRun.reset with requests := [⟨8, 1, 3⟩, ⟨9, 3, 0⟩], resolved := some 3, output := true } } }

/-- R128: step 1 of PT3 (period 2, step 0 on) is off; but during the bulb check PT0 is shown. -/
theorem test_step_timer :
    after (exec .stepTimerExpiry { panel with lamps := { panel.lamps with bulbTimer := none } }) (fun t =>
      t.lamps.step == 1 && (t.lamps.lamps.get 7).resolved == some 3 && !(t.lamps.lamps.get 7).output) = true
      ∧ after (exec .stepTimerExpiry panel) (fun t => (t.lamps.lamps.get 7).output) = true := by decide +kernel

theorem test_bulb_check_timer :
    after (exec .bulbCheckTimerExpiry panel) (fun t =>
      t.lamps.bulbTimer == none && (t.lamps.lamps.get 7).resolved == some 3) = true := by decide +kernel

/-- Table 7-5 at 5100: SHORT: OFF, short-off and latch set, the fault raised, one LAMP_FAULT. -/
theorem test_lamp_sensing :
    after (exec (.lampSensingResult 7 .short) panel) (fun t =>
      let r := t.lamps.lamps.get 7
      r.resolved == none && r.shortOff && r.latch && r.reported == some 0x0607
        && t.faults.items.records.map (·.code) == [0x0607]) = true := by decide +kernel

/-- R137: an output test sounds the running buzzer tone, 2800 Hz or the 3100 Hz loaded; in CONFIGURING the buzzer is silent. -/
theorem test_buzzer_tone :
    let loud := { shop with general := { shop.general with tone := 31 } }
    after (exec (.outputTest 1 [10]) (live .active shop)) (fun t => t.lamps.buzzerTone == some 2800) = true
      ∧ after (exec (.outputTest 1 [10]) (live .active loud)) (fun t => t.lamps.buzzerTone == some 3100) = true
      ∧ after (exec (.beginConfiguration 2 []) (live .active loud)) (fun t => t.lamps.buzzerTone == none) = true := by
  decide +kernel

/-! ### Fault Memory: Table 8-8 -/

/-- The four records of Table 8-7 after 28 untouched ones. -/
def fullMemory : List FaultRecord :=
  (List.range 28).map (fun n => ⟨0x1000 + n, .warning 0, 3, true, 1, 0, 0, 0, false, none⟩)
    ++ [⟨0x0405, .discrete 5, 1, false, 1, 0, 0, 0, false, some 2⟩, ⟨0x0432, .analog 2, 0, false, 1, 0, 0, 0, false, none⟩,
      ⟨0x0312, .entry 12, 0, false, 1, 0, 0, 0, false, some 5⟩, ⟨0x0B01, .port 1, 2, true, 1, 0, 0, 0, false, some 6⟩]

/-- Table 8-8 at 5010: of the PASSIVE records the older of lowest severity, 0x0432, is displaced; with no PASSIVE record a raise
of severity 1 displaces nothing of severity 1 or above and sets the overflow indicator (at 5070). -/
theorem test_displacement :
    (raiseItem 0x0607 (.lamp 7) 1 [] (fun _ => Effective.none) { Persistent.empty with records := fullMemory }).records.map
        (·.code) = (fullMemory.map (·.code)).filter (· ≠ 0x0432) ++ [0x0607]
      ∧ (raiseItem 0xF002 .displayLink 1 [] (fun _ => Effective.none)
          { Persistent.empty with records := fullMemory.map fun r => { r with active := true, severity := max 1 r.severity } }).overflow
        = true := by decide +kernel

/-! ### Display link -/

def linked : State :=
  let s := live .active { shop with display := (shop.display.set 3 .doors).set 5 .present }
  let dirty : DisplayRecord := ⟨DisplayRecord.emptyContent, DisplayRecord.emptyContent, true⟩
  { s with display := { s.display with
      records := (s.display.records.set 3 dirty).set 5 dirty, refresh := some 1000, stall := some 500 } }

/-- R167: READY rises and the PRESENT record goes first although its index is higher. -/
theorem test_ready_asserted :
    after (exec .readyAsserted linked) (fun t => (t.display.flight.map (·.index)) == some 5 && t.display.stall == none) = true := by
  decide +kernel

/-- R170: READY falls with a record dirty: the stall timer runs for 500 ms. -/
theorem test_ready_deasserted :
    after (exec .readyDeasserted { linked with display := { linked.display with ready := true, stall := none } }) (fun t =>
      t.display.stall == some 500 && !t.display.ready) = true := by decide +kernel

/-- R168: alive, no refresh: the record is clean and the next one goes. -/
theorem test_transfer_complete :
    after (exec (.transferComplete 0b001) { linked with display := { linked.display with
        ready := true, stall := none, flight := some ⟨5, 3, DisplayRecord.emptyContent⟩ } }) (fun t =>
      !(t.display.records.get 5).dirty && (t.display.flight.map (·.index)) == some 3) = true := by decide +kernel

/-- R165, R166: record 5, dirty with content, is redefined to NONE and record 3 is not: record 5 is emptied and keeps its flag, and
is never sent. -/
theorem test_record_redefined_to_none :
    let s := { linked with running := { linked.running with display := linked.running.display.set 5 .none } }
    let r : DisplayRecord := ⟨List.replicate 12 1, DisplayRecord.emptyContent, true⟩
    let d := (takeKinds linked.running s ⟨{ linked.display with records := linked.display.records.set 5 r }, []⟩).st
    d.records.get 5 = ⟨DisplayRecord.emptyContent, DisplayRecord.emptyContent, true⟩ ∧ (d.records.get 3).dirty = true
      ∧ (d.records.get 4).dirty = false ∧ nextRecord s.running.display d.records = some 3 := by decide +kernel

theorem test_refresh_timer :
    after (exec .refreshTimerExpiry { linked with display := { linked.display with
        records := Tab.replicate 64 DisplayRecord.reset, stall := none } }) (fun t =>
      (t.display.records.get 3).dirty && !(t.display.records.get 4).dirty && t.display.refresh == some 2000) = true := by
  decide +kernel

/-- R170: STALLED, 0xF002 with severity 1. -/
theorem test_stall_timer :
    after (exec .stallTimerExpiry linked) (fun t =>
      t.display.link == .stalled && t.faults.items.records.map (fun r => (r.code, r.severity)) == [(0xF002, 1)]) = true := by
  decide +kernel

/-! ### Boundaries, re-reports, masks, coils and the steps of a commit -/


/-- Table 3-4 at both sides of every limit. -/
theorem test_class_limits :
    ([99, 100, 449, 450, 849, 850].map (classify true)
        = [.groundShort, .low, .low, .high, .high, .openWire])
      ∧ [0, 499, 500, 1000].map (classify false) = [.low, .low, .high, .high] := by decide

/-- The first index outside each table, and the durations outside 1 to 30 s. -/
theorem test_first_indices_outside :
    after (exec (.readFrameEntry 0 [128]) (live .active shop)) (answers 0 0x03 5) = true
      ∧ after (exec (.readFrameEntry 0 [127]) (live .active shop)) (answers 0 0x03 0) = true
      ∧ after (exec (.readAttribute 0 [16]) (live .active shop)) (answers 0 0x06 5) = true
      ∧ after (exec (.outputTest 0 [0]) (live .active shop)) (answers 0 0x30 6) = true
      ∧ after (exec (.outputTest 0 [31]) (live .active shop)) (answers 0 0x30 6) = true := by decide +kernel

/-- R51, R55: a latched channel that has no report raises at a scan only if CLEAR FAULTS made it due, and once. -/
theorem test_rereport_once :
    let cfg := wired.discretes.get 5
    let r : DiscreteRun := ⟨some .openWire, 3, some .openWire, true, none, none, none, 0, false⟩
    let first := sampleDiscrete wired 5 cfg 900 { r with due := true }
    (sampleDiscrete wired 5 cfg 900 r) = (r, [])
      ∧ first = ({ r with reported := some 0x0405 }, [.report (.raise 0x0405 (.discrete 5) 1)])
      ∧ sampleDiscrete wired 5 cfg 900 { first.1 with reported := none } = (r, []) := by decide +kernel

/-- R74: a door in FAULT likewise, at its first evaluation after CLEAR FAULTS. -/
theorem test_door_rereport_once :
    let img := { shop with doors := shop.doors.set 2 doorD2 }
    let r : DoorRun :=
      { DoorRun.reset with
        state := .fault
        views := ⟨some .notAsserted, some .notAsserted, some .notAsserted, some .notAsserted, some .notAsserted⟩ }
    (evaluateDoor img 2 doorD2 10 r).2 = []
      ∧ (evaluateDoor img 2 doorD2 10 { r with due := true }).2 = [.report (.raise 0x0502 (.door 2) 2)]
      ∧ (evaluateDoor img 2 doorD2 10 { r with due := true }).1 = { r with reported := some 0x0502 } := by decide +kernel

/-- R63, R74, R81: a re-initialization makes the due re-report of an enabled door and then its clear, of a disabled one neither. -/
theorem test_door_farewell :
    let img := { shop with doors := shop.doors.set 2 doorD2 }
    let r : DoorRun := { DoorRun.reset with state := .fault, due := true }
    doorFarewell img 2 true r
        = [.report (.raise 0x0502 (.door 2) 2), .report (.clear 0x0502 (.door 2)), .activity]
      ∧ doorFarewell img 2 false r = [.activity]
      ∧ doorFarewell img 2 false { r with reported := some 0x0502, due := false }
        = [.report (.clear 0x0502 (.door 2)), .activity] := by decide +kernel

/-- Log 42: a last segment with its header alone discards the partial message. -/
theorem test_empty_last_segment :
    takeSegment 10 [0x12] ⟨some ⟨2, 1, [1, 2, 3, 4, 5, 6, 7]⟩, some 200, none⟩ = (⟨none, none, none⟩, none) := by decide

/-- R48: a sample of another class that is still bouncing sends nothing. -/
theorem test_bouncing :
    let r : DiscreteRun := ⟨some .low, 1, some .high, false, none, none, none, 0, false⟩
    sampleDiscrete wired 5 (wired.discretes.get 5) 200 r = ({ r with count := 2 }, []) := by decide +kernel

/-- R115: a start with a speed that has delivered nothing puts the moving mask in force; a speed of 0 the stationary one. -/
theorem test_mask_after_start :
    let s := State.reset.start Persistent.empty true
    let t := ({ State.reset with image := shop } : State).start Persistent.empty true
    s.control.mode = .standby ∧ s.warnings.moving = true ∧ t.warnings.moving = false := by decide +kernel

/-- R92, R97, R99, R100: coils on while homing, off when parked or unhomed. -/
theorem test_coils :
    let s := live .standby { shop with gauges := shop.gauges.set 0 dialCfg }
    let homing := s.runGauges (gaugeMode .standby .active)
    let parking : GaugeRun := { GaugeRun.reset with state := .parking, coils := true, position := 10 }
    (homing.gauges.gauges.get 0).state = .homing ∧ (homing.gauges.gauges.get 0).coils = true
      ∧ ((homing.runGauges (gaugeMode .active .sleep)).gauges.gauges.get 0).coils = false
      ∧ (updateGauge dialCfg parking).state = .parked ∧ (updateGauge dialCfg parking).coils = false
      ∧ ((homing.runGauges (reinitGauges shop)).gauges.gauges.get 0).coils = false := by decide +kernel

/-- R187 and log 10: three idle steps take a commit from its erasure to its save; the flag is set and the items taken as it begins. -/
theorem test_commit_steps :
    let s := { committing with store := { committing.store with
      slots := committing.store.slots.set 2 ⟨none, false⟩, operation := some (.commit 2 .erase) } }
    let a := s.idle
    let b := a.idle
    let c := b.idle
    a.store.operation = some (.commit 2 .write) ∧ (b.store.slots.get 2) = ⟨some shop, false⟩
      ∧ b.store.status.get 2 = false ∧ c.store.operation = some (.commitSave 2 s.faults.items)
      ∧ (c.store.slots.get 2) = ⟨some shop, true⟩ ∧ c.store.status.get 2 = true ∧ c.faults.changed = false
      ∧ c.store.other.valid = false ∧ c.idle.store = c.store := by decide +kernel

/-- A commit in its save: completed, it writes the items its save took; failed, it leaves the slot valid. -/
def commitSaving : State :=
  { committing with
    faults := { committing.faults with changed := true }
    store := { committing.store with
      slots := committing.store.slots.set 2 ⟨some shop, true⟩, status := committing.store.status.set 2 true
      operation := some (.commitSave 2 { Persistent.empty with seconds := 7 }) } }

theorem test_commit_saving :
    after (exec .commitComplete commitSaving) (fun t =>
        t.store.current.items.seconds == 7 && t.control.activeSlot == 2 && t.faults.changed && answers 2 0x23 0 t) = true
      ∧ after (exec (.storeWriteFailure .check) commitSaving) (fun t =>
        (t.store.slots.get 2) == ⟨some shop, true⟩ && t.store.status.get 2 && t.control.activeSlot == 0 && answers 2 0x23 8 t)
        = true := by decide +kernel
/-- The truths of W5 of `presenting` under another definition and another view of signal 40. -/
def judged (cfg : WarningConfig) (r : WarningRun) (view : WarningView) : WarningRun :=
  let s := live .active { shop with warnings := shop.warnings.set 5 cfg }
  let v := { s.warnings with recs := s.warnings.recs.set 5 r, views := s.warnings.views.set 40 view }
  ((evaluateWarning 5 s ⟨v, []⟩).st.recs.get 5)

def hot : WarningConfig :=
  { WarningConfig.blank with inUse := true, primary := 40, op := .above, threshold := 100, hysteresis := 5, onDelay := 10 }

/-- R104 to R108: the limits of the hysteresis, a signal that has delivered nothing, a qualifier, and the state changes. -/
theorem test_warning_evaluations :
    let off : WarningRun := WarningRun.reset
    let on : WarningRun := { off with state := .on, primary := true, condition := true, stamp := some 0 }
    let seen := fun v : Int => (⟨⟨v, .valid, none, false⟩, true⟩ : WarningView)
    let never : WarningView := ⟨⟨200, .invalid, some .neverReceived, false⟩, false⟩
    (judged hot off (seen 100) = off ∧ (judged hot off (seen 101)).state = .arming
      ∧ (judged hot off (seen 101)).delay = some 1000 ∧ (judged { hot with onDelay := 0 } off (seen 101)).state = .on)
      ∧ (judged hot on (seen 96) = on ∧ (judged hot on (seen 95)).state = .off
        ∧ (judged { hot with offDelay := 3 } on (seen 95)).state = .releasing
        ∧ (judged { hot with latching := true } on (seen 95)).state = .latched
        ∧ (judged hot { on with state := .arming } (seen 95)).state = .off)
      ∧ (judged hot off never = off ∧ (judged { hot with watch := true } off never).state = .arming
        ∧ (judged hot off { never with delivered := true }).state = .arming)
      ∧ ((judged hot { on with state := .latched, condition := false } (seen 101)).state = .on
        ∧ (judged { hot with qualifier := some ⟨2, .above, 0⟩ } off (seen 101)).state = .arming
        ∧ (judged { hot with op := .below } on (seen 104)).primary = true
        ∧ (judged { hot with op := .below } on (seen 105)).primary = false) := by decide +kernel

/-- R122: repetitions count down to the withdrawal at 0; 255 repeats without end; another request's number is discarded. -/
theorem test_repetition_ends :
    let run := fun (remaining n : Nat) =>
      let v := { presenting.warnings with stack := [⟨5, 1, 600, false, remaining⟩], requestNumber := 3 }
      let a := repetitionEnd n presenting ⟨v, []⟩
      (a.st.stack.map (·.remaining), a.st.request)
    run 2 3 = ([1], some 6) ∧ run 1 3 = ([0], none) ∧ run 255 3 = ([255], some 6) ∧ run 2 4 = ([2], some 6) := by
  decide +kernel

/-- R136: both duties by their characteristics, or 1000 with an INVALID dimmer; the outputs are off outside ACTIVE and CONFIGURING. -/
theorem test_dimming :
    let s := live .active { shop with general := settings }
    let u := (lampSignal 4 ⟨0, .valid, none, false⟩ s ⟨s.lamps, []⟩).st
    let w := (lampSignal 4 ⟨0, .invalid, some .timeout, false⟩ s ⟨s.lamps, []⟩).st
    (u.duty0, u.duty1) = (203, 1) ∧ (w.duty0, w.duty1) = (1000, 1000) ∧ backlight { s with lamps := w } = (1000, 1000)
      ∧ backlight { s with lamps := w, control := { s.control with mode := .standby } } = (0, 0) := by decide +kernel

/-- R142: at 32 records a PASSIVE one leaves, or none may; both ends of the severities. -/
theorem test_witness_full_memory :
    fullMemory.length = 32 ∧ displaced 0 fullMemory = some 29
      ∧ (let active := fullMemory.map fun r => { r with active := true }
         displaced 1 active = some 29 ∧ displaced 0 active = none) := by decide +kernel

/-- R147, R148: the first empty slot, the one of the smallest number in a full ring, and the renumbering at the counter's end. -/
theorem test_captures :
    let ring : Tab 8 (Option Snapshot) := ⟨(List.range 8).map fun n => some ⟨n, .displayLink, (n + 5) % 8 + 4294967287, 0, []⟩, rfl⟩
    let take := fun slots captures => raiseItem 0x0502 (.door 2) 2 [40] (fun _ => Effective.none)
      { Persistent.empty with slots := slots, captures := captures }
    captureSlot (Tab.replicate 8 none) = 0 ∧ captureSlot (ring.set 7 none) = 7 ∧ captureSlot ring = 3
      ∧ (take ring 4294967295).captures = 8
      ∧ ((take ring 4294967295).slots.list.filterMap fun x => x.map (·.number)) = [4, 5, 6, 7, 0, 1, 2, 3]
      ∧ (take (ring.set 7 none) 9).captures = 10 := by decide +kernel

/-- R144, R152: aging to the heal limit; a wear event at the threshold. -/
theorem test_heal_and_wear :
    let record : FaultRecord := ⟨1, .displayLink, 0, false, 1, 0, 0, 2, false, some 3⟩
    let p := { Persistent.empty with
      records := [record, { record with code := 2, raisedThisCycle := true, slot := none }]
      slots := (Tab.replicate 8 none).set 3 (some ⟨1, .displayLink, 0, 0, []⟩) }
    let s := live .active { shop with attrs := shop.attrs.set 3 ⟨true, .frameTimeout, none, 5, some ⟨0x0A10, 1⟩⟩ }
    let u := { s.faults with items := { s.faults.items with attrValues := s.faults.items.attrValues.set 3 4 } }
    (healItems 3 p).records.map (·.code) = [2] ∧ (healItems 3 p).slots.get 3 = none
      ∧ (healItems 4 p).records.map (·.heal) = [3, 2]
      ∧ (takeWear .frameTimeout 12 s ⟨u, []⟩).st.items.attrValues.get 3 = 5
      ∧ (takeWear .frameTimeout 12 s ⟨u, []⟩).st.attrReported.get 3 = some 0x0A10
      ∧ (takeWear .doorCycle 2 s ⟨u, []⟩).st.items.attrValues.get 3 = 4 := by decide +kernel

/-- Gauges at rest and gauges homing, with their coils as Table 5-3 has them. -/
theorem test_witness_coils :
    (live .active shop).CoilsFollow
      ∧ ((live .standby { shop with gauges := shop.gauges.set 0 dialCfg }).runGauges (gaugeMode .standby .active)).CoilsFollow := by
  unfold State.CoilsFollow
  decide +kernel

/-- R150, R154: an attribute at its threshold raises again after CLEAR FAULTS; channels and doors are due. -/
theorem test_witness_clear_faults :
    let s := live .active { shop with attrs := shop.attrs.set 3 ⟨true, .frameTimeout, none, 5, some ⟨0x0A10, 1⟩⟩ }
    let s := { s with faults := { s.faults with items := { s.faults.items with attrValues := s.faults.items.attrValues.set 3 5 } } }
    after (exec (.clearFaults 0 []) s) (fun t => t.faults.attrReported.get 3 == some 0x0A10
      && (t.inputs.discretes.get 5).due && (t.doors.doors.get 2).due) = true := by decide +kernel

/-! ### Witnesses: for each statement with hypotheses, a state and operands that meet them, at the ends of their ranges -/

theorem test_witness_impossible_events :
    let s := State.reset
    ((s.frames.ports.get 0).recovery = none ∧ (s.frames.entries.get 0).timer = .stopped ∧ (s.service.ports.get 0).gap = none
      ∧ (s.outbound.schedule.get 0).timer = none ∧ s.service.testTimer = none ∧ s.control.sleepTimer = none
      ∧ (s.doors.doors.get 0).travel = none ∧ (s.doors.doors.get 0).plausibility = none
      ∧ (s.gauges.gauges.get 0).homing = none ∧ s.warnings.minTimer = none ∧ s.warnings.autoTimer = none)
    ∧ (s.display.stall = none ∧ s.display.refresh = none ∧ s.inputs.scanTimer = none ∧ s.inputs.sleepTimer = none
      ∧ s.gauges.updateTimer = none ∧ (s.warnings.recs.get 0).delay = none ∧ s.lamps.stepTimer = none
      ∧ s.lamps.bulbTimer = none ∧ s.display.flight = none ∧ (s.outbound.ports.get 0).flight = none
      ∧ (s.frames.ports.get 0).state = .offline ∧ s.store.operation = none ∧ s.display.ready = false
      ∧ s.control.mode ≠ .active)
    ∧ (live .standby shop).control.mode ≠ .starting ∧ ({ s.display with ready := true } : Display).ready = true := by
  decide +kernel

theorem test_witness_starting :
    State.reset.control.mode = .starting ∧ State.reset.StartsIdle
      ∧ (State.reset.store.slots.get 0) = ⟨some Image.factory, true⟩
      ∧ ({ State.reset with store := { Store.factory with slots := Tab.replicate 4 ⟨none, false⟩ } } : State).StartsIdle
      ∧ State.reset.faults.started = false
      ∧ (({ Store.factory with copyA := ⟨Persistent.empty, 2, 41, true⟩ } : Store).restored.map (·.1.activeSlot)) = some 2
      ∧ (State.reset.store.slots.get 2).image = none :=
  ⟨by decide, fun _ => by decide +kernel, by decide +kernel, fun _ => by decide +kernel, by decide, by decide +kernel,
    by decide +kernel⟩

/-- R149, R191: a restored record is counted for the Mode Controller when the Fault Unit starts. -/
theorem test_witness_restored_count :
    let items := raiseItem 0x0502 (.door 2) 2 [] (fun _ => Effective.none) Persistent.empty
    let s : State := { State.reset with store := { Store.factory with copyA := ⟨items, 0, 41, true⟩ } }
    s.faults = FaultUnit.reset ∧ items.records.length ≠ 0
      ∧ after (exec .startingComplete s) (fun t => t.control.faultCount == 1) = true :=
  ⟨rfl, by decide +kernel, by decide +kernel⟩

/-- Port 0 with the Service Channel on request identifier 0x720. -/
def serviced : Image :=
  let port : PortConfig := { PortConfig.blank with inUse := true, service := true, request := 0x720, response := 0x728 }
  { bus with general := { bus.general with ports := bus.general.ports.set 0 port } }

theorem test_witness_received_frames :
    ((live .sleep serviced).frames.ports.get 0).state.receives = true ∧ (live .sleep serviced).control.mode = .sleep
      ∧ (live .standby serviced).control.mode = .standby ∧ (live .configuring serviced).control.mode ∈ servingModes
      ∧ ((serviced.general.ports.get 0).service = true ∧ (serviced.general.ports.get 0).serviceKind = .standard
        ∧ (serviced.general.ports.get 0).request = 0x720)
      ∧ ¬(serviced.general.ports.get 0).request = 0x18C := by decide +kernel

/-- A request in a frame is executed as the request row: IDENTIFY in one segment on 0x720 is answered. -/
theorem test_request_in_frame :
    after (exec (.receivedFrame 0 ⟨.standard, 0x720, false, [0x01, 0x07]⟩) (live .standby serviced)) (answers 0 0x07 0) = true := by
  decide +kernel

/-- R172: a first segment of two is held for 200 ms, and the last of its message is served. -/
theorem test_service_segments :
    let s := (live .standby serviced).takeService 0 (0x02 :: zeros 7)
    (takeSegment s.now [0x12, 0x05] (s.service.ports.get 0)).2 = some (zeros 7 ++ [0x05])
      ∧ (s.service.ports.get 0).gap = some 200
      ∧ (takeSegment 0 [0x01, 0x07] (ServicePort.mk none none none)).2 = some [0x07]
      ∧ (takeSegment 0 [0x00] (ServicePort.mk none (some 5) none)).2 = none := by decide +kernel

theorem test_witness_matched_frame :
    matching bus 0 ⟨.standard, 0x18C, false, zeros 3⟩ = some 12 ∧ matching bus 0 ⟨.standard, 0x18C, false, zeros 4⟩ = some 12
      ∧ (zeros 3).length < (bus.frames.get 12).minLen ∧ (bus.frames.get 12).minLen ≤ (zeros 4).length
      ∧ (busAt90.frames.entries.get 12).lengthErrors ≤ 255 ∧ (busAt90.frames.entries.get 12).received ≤ 65535 := by
  decide +kernel

theorem test_witness_port_counters :
    ((PortRun.reset.receiveErrors ≤ 255 ∧ ({ PortRun.reset with state := .errorPassive, receiveErrors := 255 }).receiveErrors ≤ 255)
      ∧ ((sendingAt 247).frames.ports.get 1).state = .errorPassive ∧ 247 + 8 ≤ 255 ∧ 255 < 248 + 8
      ∧ ((sendingAt 256).frames.ports.get 1).transmitErrors ≤ 256
      ∧ ((sendingAt 0).outbound.ports.get 1).flight = some ⟨.own 2 true, ⟨.standard, 5, []⟩⟩)
      ∧ (catching.outbound.ports.get 1).flight.isSome = true ∧ (catching.frames.ports.get 1).state = .errorActive := by
  decide +kernel

theorem test_witness_bus_timers :
    (PortRun.mk .busOff 256 9 (some 300) none .k125).recovery = some 300 ∧ (busAt90.frames.entries.get 12).timer = .running 140
      ∧ (ServicePort.mk none (some 200) none).gap = some 200 ∧ (catching.outbound.schedule.get 2).timer = some 50
      ∧ (catching.outbound.schedule.get 2).backlog ≤ 15 ∧ (15 : Nat) ≤ 15 := by decide +kernel

/-- Every level of Table 9-2 at both its ends, with a queue of each kind. -/
theorem test_witness_picks :
    (∀ n ∈ [0, 1, 3, 4, 7, 8, 11, 12, 15], mostOwed 1 catching (catching.outbound.schedule.set 2 ⟨n, some 50⟩) = some (2, n))
      ∧ mostOwed 0 catching catching.outbound.schedule = none
      ∧ (catching.outbound.ports.get 1).response = [] ∧ (catching.outbound.ports.get 1).forward.length = 12
      ∧ (catching.outbound.ports.get 1).lastPick ≠ .own ∧ (catching.outbound.ports.get 1).catchUp = false
      ∧ ((catching.outbound.ports.get 1).forward.head?.map (·.urgent)) = some true ∧ OutPort.reset.forward = [] := by
  decide +kernel

theorem test_witness_messages :
    (∀ n ∈ [1, 7, 8, 49, 50, 56], 1 ≤ (zeros n).length ∧ (zeros n).length ≤ 56 ∧ (segmentsOf (zeros n)).length ≤ 8)
      ∧ (0x10 : Byte).toNat % 16 = 0 ∧ 8 < (0x09 : Byte).toNat % 16
      ∧ (0x22 : Byte).toNat % 16 ≤ (0x22 : Byte).toNat / 16 ∧ (0x12 : Byte).toNat / 16 ≠ 0 := by decide +kernel

theorem test_witness_requests :
    requestOf (.identify 0 []) = some (0, [0x01]) ∧ (0x7F : Byte) ∉ commandTable.map (·.code)
      ∧ (live .standby shop).control.mode ∈ servingModes ∧ accessNow (live .standby shop) = true
      ∧ accessNow (live .active Image.factory) = false ∧ (live .sleep shop).control.mode ∉ servingModes
      ∧ testing.service.slot = some (.outputTest, 1)
      ∧ (∃ row ∈ commandTable, row.code = 0x20 ∧ row.workshop = true ∧ row.modes = [.active] ∧ .outputTest ∈ row.busy
        ∧ row.greatest < [(1 : Byte)].length)
      ∧ ∃ row ∈ commandTable, row.code = 0x22 ∧ (zeros 3).length < row.least ∧ row.greatest < (zeros 56).length := by
  refine ⟨by decide, by decide, by decide, by decide +kernel, by decide +kernel, by decide, by decide +kernel, ?_, ?_⟩
  · exact ⟨⟨0x20, true, [.active], [.commit, .select, .outputTest], 0, 0⟩, by simp [commandTable], by decide⟩
  · exact ⟨⟨0x22, true, [.configuring], [.commit, .select], 4, 55⟩, by simp [commandTable], by decide⟩

/-- The presentation of `presenting` is sound, and so is it while W5 is releasing and acknowledged. -/
theorem test_witness_stack : presenting.StackSound ∧ (delaying .releasing true).StackSound := by
  constructor <;> (unfold State.StackSound; decide +kernel)

theorem test_witness_acknowledge :
    minimumMs presenting 5 = 2000 ∧ presenting.warnings.stack = [⟨5, 1, 600, false, 255⟩, ⟨12, 4, 2000, false, 0⟩]
      ∧ presenting.control.mode = .active ∧ (live .standby shop).warnings.stack = []
      ∧ ({ presenting with warnings := { presenting.warnings with
          stack := [⟨5, 1, 2000, false, 255⟩, ⟨12, 4, 2000, false, 0⟩] } } : State).StackSound
      ∧ ({ presenting with warnings := { presenting.warnings with
          stack := [⟨5, 1, 600, true, 255⟩, ⟨12, 4, 2000, false, 0⟩] } } : State).StackSound := by
  refine ⟨by decide +kernel, by decide +kernel, by decide +kernel, by decide +kernel, ?_, ?_⟩ <;>
    (unfold State.StackSound; decide +kernel)

theorem test_witness_workshop :
    (live .active shop).control.mode ∈ servingModes ∧ accessNow (live .active shop) = true
      ∧ (live .active shop).Admits [.active] ∧ (live .configuring shop).Admits [.configuring] := by
  refine ⟨by decide, by decide +kernel, ?_, ?_⟩ <;> (unfold State.Admits; decide +kernel)

theorem test_witness_substitute :
    at300.control.mode = .active ∧ accessNow at300 = true ∧ storeCommandRuns at300 = false
      ∧ (∀ k, k ≠ (3 : Fin 16) ∧ (at300.image.substitution.get k).inUse = true → (at300.image.substitution.get k).signal ≠ 40)
      ∧ (at300.image.substitution.get 3).inUse = true ∧ (at300.signals.get 40).written = .valid
      ∧ ((at2700 .timeout).signals.get 40).written ≠ .valid ∧ ((at2700 .timeout).signals.get 41).written = .valid
      ∧ (at300.signals.get 41).written ≠ .valid ∧ (at300.image.substitution.get 3).signal ≠ 41
      ∧ (at300.image.substitution.get 0).inUse = false := by decide +kernel

/-- An alternate that another entry blocks, and that no third one names. -/
theorem test_witness_blocked_alternate :
    let img := { substituted with substitution := substituted.substitution.set 15 ⟨true, 41, .none, true⟩ }
    (∀ k, k ≠ (3 : Fin 16) ∧ (img.substitution.get k).inUse = true ∧ (img.substitution.get k).signal = 41 ↔ k = 15)
      ∧ (img.substitution.get 15).forced = true ∧ (img.substitution.get 15).alternate = .none := by decide +kernel

/-- The last part of a gauge that the loader accepts, and one with equal abscissae that it refuses (Table 10-11 row 4). -/
theorem test_witness_load_parts :
    let s := loading 8 0 2 1 gaugeBytes
    let last : List Byte := [0, 0, 0, 0, 3, 20, 1, 0, 0, 200, 0, 1]
    let equal := gaugeBytes.set 17 0xE8 |>.set 18 0x03
    s.control.mode = .configuring ∧ accessNow s = true ∧ storeCommandRuns s = false
      ∧ admits (s.service.ports.get 2).staging 8 0 1 2 = some gaugeBytes
      ∧ contentLength 8 = some (gaugeBytes ++ last).length
      ∧ (((s.heard.setStaging 2 none).loadEntry 8 0 (gaugeBytes ++ last)).toOption).isSome = true
      ∧ (((s.heard.setStaging 2 none).loadEntry 8 0 (equal ++ last)).toOption).isSome = false
      ∧ admits (s.service.ports.get 2).staging 8 1 1 2 = none
      ∧ contentLength 8 ≠ some (gaugeBytes ++ last.drop 1).length := by decide +kernel

theorem test_witness_frame_load :
    (entry12.minLen ≤ 8 ∧ entry12.timeout < 256 ∧ identFits entry12.kind entry12.ident.toNat = true
      ∧ identFits entry12.kind entry12.mask.toNat = true ∧ entry12.replacement = none
      ∧ entry12.forward.getLsbD entry12.port.val = false ∧ faultOk entry12.fault)
      ∧ (∀ slot, ((shop.extract.get 12).get slot).target = none)
      ∧ (∀ k, (shop.frames.get k).enabled = false) ∧ (bus.frames.get 12).enabled = true := by
  refine ⟨⟨by decide, by decide, by decide, by decide, rfl, by decide, ?_⟩, by decide +kernel, by decide +kernel,
    by decide +kernel⟩
  intro c h
  cases h
  decide

theorem test_witness_extract_load :
    speedSlot.start ≤ 63 ∧ 1 ≤ speedSlot.length ∧ speedSlot.length ≤ 32 ∧ speedSlot.shift ≤ 15 ∧ speedSlot.gain ≤ 32767
      ∧ fits speedSlot.order speedSlot.start speedSlot.length (bus.frames.get 12).minLen = true
      ∧ bus.free speedSlot.target (.frame 12 0) = true ∧ accessNow (live .configuring bus) = true := by decide +kernel

theorem test_witness_channel_loads :
    (-2147483648 : Int) ≤ -10 ∧ (-10 : Int) ≤ 500
      ∧ (1 ≤ (wired.discretes.get 5).debounce ∧ (wired.discretes.get 5).debounce ≤ 15
        ∧ shop.free (wired.discretes.get 5).target (.discrete 5) = true ∧ (wired.discretes.get 5).wake = false)
      ∧ ((wired.analogs.get 2).averaging = 4 ∧ (wired.analogs.get 2).low ≤ (wired.analogs.get 2).high
        ∧ (wired.analogs.get 2).high ≤ 4095 ∧ shop.free (wired.analogs.get 2).target (.analog 2) = true)
      ∧ (3 : Fin 8) ≠ 0 ∧ (16 : Nat) ≤ 16
      ∧ (500 < 4294967296 ∧ (12 : Nat) < WearKind.frameTimeout.sources ∧ WearKind.frameTimeout ≠ .ignitionCycle) := by
  decide +kernel

/-- An image with limits for signal 40. -/
def limited : Image := { shop with signals := shop.signals.set 40 ⟨.none, -10, 10⟩ }

theorem test_witness_faultOk (f : FaultCode) (h : f.code < 65536 ∧ f.severity ≤ 3) : faultOk (some f) :=
  fun c e => by cases e; exact h

theorem test_witness_gauge_load :
    (100 ≤ gauge0.fs ∧ gauge0.fs ≤ 4095 ∧ gauge0.points.length ≤ 8 ∧ gauge0.rest ≤ gauge0.fs ∧ gauge0.damping ≤ 7
      ∧ 1 ≤ gauge0.slew ∧ gauge0.slew < 256 ∧ gauge0.overrun ≤ 1023)
      ∧ (∀ v, Fallback.position 3000 = .position v → v ≤ gauge0.fs) ∧ pointsOk gauge0.fs gauge0.points := by
  refine ⟨by decide, fun v h => ?_, ?_⟩
  · cases h
    decide
  · unfold pointsOk int32
    decide

theorem test_witness_warning_load :
    int32 qualified.threshold ∧ 0 ≤ qualified.hysteresis ∧ int32 qualified.hysteresis
      ∧ (∀ q, qualified.qualifier = some q → int32 q.threshold) ∧ (qualified.level ≤ 7 ∧ qualified.minimum ≤ 100)
      ∧ (∀ x n, qualified.buzzer = some (x, n) → 1 ≤ n ∧ n < 256) ∧ faultOk qualified.fault := by
  unfold int32
  refine ⟨by decide, by decide, by decide, fun q h => ?_, by decide, fun x n h => ?_, test_witness_faultOk _ (by decide)⟩ <;>
    (cases h; decide)

theorem test_witness_door_lamp_load :
    (let sensors := [some doorD2.closed, doorD2.opened, doorD2.edge, doorD2.handle, doorD2.release].filterMap id
     sensors.Nodup ∧ ∀ i, doorD2.stateSignal = some i → i ∉ sensors)
      ∧ shop.free doorD2.stateSignal (.derived (.door 5)) = true ∧ (5 ≤ doorD2.travel ∧ doorD2.travel ≤ 100 ∧ doorD2.slow ≤ 100)
      ∧ (LampOwner.door = .door → some (5 : Fin 6) ≠ none) ∧ faultOk doorD2.fault := by
  refine ⟨by decide +kernel, by decide +kernel, by decide, by decide, test_witness_faultOk _ (by decide)⟩

theorem test_witness_substitution_load :
    (∀ k, k ≠ (15 : Fin 16) → ¬((limited.substitution.get k).inUse = true ∧ (limited.substitution.get k).signal = 40))
      ∧ (∀ c, Alternate.constant (-5) = .constant c →
          int32 c ∧ (limited.signals.get 40).min ≤ c ∧ c ≤ (limited.signals.get 40).max)
      ∧ (live .configuring limited).image = limited := by
  unfold int32
  refine ⟨by decide +kernel, fun c h => ?_, rfl⟩
  cases h
  decide +kernel

theorem test_witness_transmit_load :
    (identFits transmit2.kind transmit2.ident.toNat = true ∧ transmit2.length ≤ 8 ∧ 1 ≤ transmit2.period ∧ transmit2.period < 256)
      ∧ (let used := transmit2.slots.list.filterMap id
        (∀ d ∈ used, d.start ≤ 63 ∧ 1 ≤ d.length ∧ d.length ≤ 32 ∧ d.shift ≤ 15 ∧ int32 d.offset
            ∧ (d.invalidCodes = true → 2 ≤ d.length) ∧ fits d.order d.start d.length transmit2.length = true)
          ∧ (used.flatMap fun d => bitsOf d.order d.start d.length).Nodup) := by
  unfold int32
  decide +kernel

theorem test_witness_general_load :
    int32 settings.movingThreshold ∧ (settings.bl0.length = 2 ∧ settings.bl1.length = 4)
      ∧ pointsOk 1000 settings.bl0 ∧ pointsOk 1000 settings.bl1
      ∧ (∀ q, let c := settings.ports.get q
          10 ≤ c.recovery ∧ c.recovery < 256 ∧ identFits c.serviceKind c.request.toNat = true
            ∧ identFits c.serviceKind c.response.toNat = true)
      ∧ (shop.free settings.allClosed (.derived .allClosed) = true ∧ shop.free settings.openMoving (.derived .openMoving) = true
        ∧ shop.free settings.displayFault (.derived .displayFault) = true
        ∧ ([settings.allClosed, settings.openMoving, settings.displayFault].filterMap id).Nodup)
      ∧ (settings.healLimit = 255 ∧ settings.sleepDelay = 600 ∧ 2 ≤ settings.scanPeriod ∧ settings.scanPeriod ≤ 20
        ∧ 50 ≤ settings.stepInterval ∧ settings.stepInterval ≤ 250 ∧ settings.bulbCheck ≤ 5000 ∧ 20 ≤ settings.tone
        ∧ settings.tone ≤ 40) := by
  unfold pointsOk int32
  decide +kernel

theorem test_witness_list_and_signal_loads :
    ((List.range 16).map fun n => Fin.ofNat 256 n).Nodup ∧ (shop.signals.get 1).source = .constant 1
      ∧ (shop.signals.get 9).source = .none ∧ (bus.signals.get 40).source = .frame 12 0 := by decide +kernel

theorem test_witness_fault_fields : faultOk none ∧ faultOk (some ⟨65535, 3⟩) :=
  And.intro (fun _ h => nomatch h) fun c h => by
    cases h
    decide

theorem test_witness_store_requests :
    (live .configuring shop).store.operation = none ∧ (live .configuring shop).store.waiting = []
      ∧ committing.store.operation = some (.commit 2 .check) ∧ committing.service.slot = some (.commit, 2)
      ∧ ({ live .configuring shop with store := { Store.factory with
          operation := some (.save Persistent.empty 0) } } : State).Admits [.configuring] := by
  refine ⟨by decide +kernel, by decide +kernel, by decide +kernel, by decide +kernel, ?_⟩
  unfold State.Admits
  decide +kernel

theorem test_witness_output_test :
    testing.service.slot = some (.outputTest, 1) ∧ testing.service.testTimer = some 10000
      ∧ testing.control.mode ∈ servingModes ∧ accessNow testing = true
      ∧ (live .active shop).service.slot = none ∧ 1 ≤ (30 : Fin 256).val ∧ (30 : Fin 256).val ≤ 30 ∧ 30 < (31 : Fin 256).val := by
  decide +kernel

theorem test_witness_store_events :
    saving.store.operation = some (.save Persistent.empty 2)
      ∧ ((selecting false).store.slots.get 1).checkAgrees = false ∧ ((selecting true).store.slots.get 1) = ⟨some bus, true⟩
      ∧ (selecting true).store.operation = some (.selectRead 1) ∧ (selecting true).control.mode = .configuring
      ∧ (∀ n, StoreOperation.commit 2 .check ≠ .selectRead n) := by
  refine ⟨by decide +kernel, by decide +kernel, by decide +kernel, by decide +kernel, by decide +kernel, fun _ h => by cases h⟩

/-- Access is lost: the speed signal moves while a command runs, or none does, or an output test. -/
def losing (m : Mode) (slot : Option (TimedCommand × Port)) (speed : Int) : State :=
  let s := live m shop
  { s with
    signals := (s.signals.set 1 ⟨0, .valid, false, ⟨0, .valid, none, false⟩, 0⟩).set 2
      ⟨speed, .valid, false, ⟨speed, .valid, none, false⟩, speed⟩
    service := { s.service with workshop := true, slot := slot } }

theorem test_witness_access_lost :
    (losing .configuring none 0).service.workshop = true ∧ accessNow (losing .configuring none 0) = false
      ∧ (evaluateAccess (losing .configuring none 0) ⟨(losing .configuring none 0).service, []⟩).out = [.endConfiguration]
      ∧ (evaluateAccess (losing .configuring (some (.commit, 1)) 0)
          ⟨(losing .configuring (some (.commit, 1)) 0).service, []⟩).st.endDue = true
      ∧ (losing .active (some (.outputTest, 1)) 31).moving = true ∧ (losing .active (some (.outputTest, 1)) 30).moving = false
      ∧ (evaluateAccess (losing .active (some (.outputTest, 1)) 31) ⟨(losing .active (some (.outputTest, 1)) 31).service, []⟩).out
        = [.respond 1 0x30 .wrongMode [], .testEnd]
      ∧ (completeTimed .done ⟨{ (losing .configuring (some (.commit, 1)) 0).service with endDue := true }, []⟩).out
        = [.respond 1 0x23 .done [], .endConfiguration] := by decide +kernel

theorem test_witness_ignition :
    shop.general.ignition = 1 ∧ (live .standby shop).running.general.ignition = 1
      ∧ ((live .standby shop).followIgnition 1 ⟨1, .substituted, none, false⟩).control.mode = .active
      ∧ ((live .active shop).followIgnition 1 ⟨0, .valid, none, false⟩).control.mode = .standby
      ∧ ((live .active shop).followIgnition 1 ⟨0, .invalid, some .timeout, false⟩).control.mode = .active
      ∧ (live .active shop).running.general.ignition ≠ 2 := by decide +kernel

theorem test_witness_wake :
    let s := live .sleep shop
    let s := { s with frames := { s.frames with
      ports := s.frames.ports.set 0 ⟨.listen, 128, 0, none, none, .k125⟩ } }
    s.control.mode = .sleep ∧ (handle .wake s).control.mode = .active
      ∧ ((handle .wake s).frames.ports.get 0).state = .errorPassive
      ∧ (s.runFrames (countReceived 0)).frames.ports.get 0 = s.frames.ports.get 0 := by decide +kernel

theorem test_witness_analog :
    let cfg := wired.analogs.get 2
    let full : AnalogRun := ⟨[1000, 1001, 1003, 1002], true, some 0x0432, false⟩
    let sent := fun sample r => (sampleAnalog wired 2 cfg 72 sample r).2
    sent 4095 full = [.write 72 (.converted 100 true), .report (.clear 0x0432 (.analog 2))]
      ∧ sent 4095 ⟨[4000, 4000, 4000], false, none, false⟩ = [.write 72 (.status .wireFault), .report (.wear .inputWireFault 26)]
      ∧ sent 4000 ⟨[4000, 4000, 4000], false, none, false⟩ = [.write 72 (.converted 100 true)]
      ∧ sent 100 ⟨[100, 100, 100], false, none, false⟩ = [.write 72 (.converted 9 false)]
      ∧ sent 99 ⟨[100, 100, 100], true, none, false⟩ = [.write 72 (.status .wireFault)]
      ∧ sent 0 ⟨[4000, 4000], false, none, false⟩ = []
      ∧ (sampleAnalog shop 2 { cfg with fault := some ⟨0x0432, 0⟩ } 72 0 ⟨[0, 0, 0], false, none, false⟩).2
        = [.report (.wear .inputWireFault 26), .report (.raise 0x0432 (.analog 2) 0)] := by decide +kernel

theorem test_witness_class_not_written :
    (takeClass shop 5 (wired.discretes.get 5) .low DiscreteRun.reset).2 = []
      ∧ (shop.signals.get 60).source ≠ .discrete 5 := by decide +kernel

/-- The save of a select completes, or fails. -/
def selectSaving : State :=
  { selecting true with store := { (selecting true).store with operation := some (.selectSave 1 Persistent.empty) } }

theorem test_select_saved :
    after (exec .persistenceSaveComplete selectSaving) (fun t =>
        t.control.mode == .active && t.control.activeSlot == 1 && t.image == bus && t.store.current.activeSlot == 1) = true
      ∧ after (exec (.storeWriteFailure .save) selectSaving) (fun t =>
        t.control.mode == .configuring && t.image == shop && t.faults.changed && answers 0 0x24 8 t) = true := by decide +kernel

theorem test_witness_mode_timers :
    let s := live .standby shop
    ({ s with control := { s.control with sleepTimer := some 60000 } } : State).control.allClosed = false
      ∧ ({ s.control with allClosed := true, sleepTimer := some 60000 } : Controller).sleepTimer = some 60000
      ∧ (live .active shop).control.mode = .active ∧ (live .active shop).control.remainder ≤ 1000
      ∧ (live .active shop).faults.items.seconds ≤ 4294967295 := by decide +kernel

theorem test_witness_scans :
    scanning.inputs.scanTimer = some 5 ∧ (scanning.running.discretes.get 5).target ≠ none
      ∧ (scanning.running.discretes.get 0).target = none ∧ (scanning.running.discretes.get 0).wake = false
      ∧ (scanning.running.analogs.get 2).target ≠ none ∧ (scanning.inputs.analogs.get 2).history.length ≤ 4
      ∧ (scanning.running.analogs.get 0).target = none
      ∧ (wired.signals.get 60).source = .discrete 5 ∧ (wired.discretes.get 5).target = some 60
      ∧ sleeping.inputs.sleepTimer = some 100 ∧ (sleeping.running.discretes.get 0).wake = true
      ∧ (sleeping.inputs.discretes.get 0).wakeRef = some .low
      ∧ (sleeping.running.discretes.get 0).debounce = 1
      ∧ classify (sleeping.running.discretes.get 0).supervised 100 = .low
      ∧ classify (sleeping.running.discretes.get 0).supervised 900 ≠ .low
      ∧ (∀ n, n ≠ 0 → (sleeping.running.discretes.get n).wake = false) := by decide +kernel

theorem test_witness_door_timers :
    ((doorAt .reversing).doors.doors.get 2).travel = some 16500 ∧ ((doorAt .reversing).doors.doors.get 2).state ≠ .fault
      ∧ ((doorAt .reversing).running.doors.get 2).enabled = true ∧ ((doorAt .reversing).doors.doors.get 2).reported = none := by
  decide +kernel

/-- Every case of an evaluation, with and without an open sensor; the cases follow one another and shut each other out. -/
theorem test_witness_door_evaluation :
    let none5 : Views := ⟨some .notAsserted, some .notAsserted, some .notAsserted, some .notAsserted, some .notAsserted⟩
    let two := doorD2
    let one := { doorD2 with opened := none }
    requiredInvalid two { none5 with closed := some .invalid } = true
      ∧ requiredInvalid one { none5 with release := some .invalid } = true ∧ requiredInvalid two none5 = false
      ∧ conflict two { none5 with closed := some .asserted, opened := some .asserted } = true ∧ conflict two none5 = false
      ∧ picture two none5 = .midway ∧ picture two { none5 with closed := some .asserted } = .closed
      ∧ picture two { none5 with opened := some .asserted } = .opened
      ∧ picture one { none5 with release := some .asserted } = .opened := by decide +kernel

theorem test_witness_gauges :
    (dial .tracking 100).gauges.updateTimer = some 20 ∧ ((dial .homing 77).gauges.gauges.get 0).homing = some 3200
      ∧ ((dial .homing 77).running.gauges.get 0).inUse = true ∧ dialCfg.Sound
      ∧ ((dial .tracking 3000).gauges.gauges.get 0).Within dialCfg.fs := by
  refine ⟨by decide +kernel, by decide +kernel, by decide +kernel, ?_, ?_⟩
  · exact ⟨by decide, by decide, by decide, by decide, fun v h => by cases h⟩
  · unfold GaugeRun.Within
    decide +kernel

/-- A gauge at its full scale, on images whose gauges the loader accepts. -/
theorem test_witness_gauges_within : (dial .tracking 3000).GaugesWithin := by
  have sound : dialCfg.Sound := ⟨by decide, by decide, by decide, by decide, fun v h => by cases h⟩
  have one : ∀ g, g ≠ 0 → ((dial .tracking 3000).image.gauges.get g).inUse = false := by decide +kernel
  have img : (dial .tracking 3000).image.GaugesSound := by
    intro g h
    by_cases hg : g = 0
    · subst hg
      exact sound
    · rw [one g hg] at h
      cases h
  have stored : ∀ n, ((dial .tracking 3000).store.slots.get n).image = none
      ∨ ((dial .tracking 3000).store.slots.get n).image = some Image.factory := by decide +kernel
  have unused : ∀ g, (Image.factory.gauges.get g).inUse = false := by decide +kernel
  refine ⟨img, img, fun n i h => ?_, ?_⟩
  · intro g hg
    rcases stored n with e | e <;> rw [e] at h <;> cases h
    rw [unused g] at hg
    cases hg
  · unfold GaugeRun.Within
    decide +kernel

theorem test_witness_damping : (1 : Nat) ≤ 7 ∧ (5 : Nat) ≤ 16 * 3 ∧ 16 * 3 ≤ (100 : Nat) ∧ (5 : Nat) ≠ 16 * 3
    ∧ damp 3 3 47 = 48 ∧ damp 3 3 49 = 48 := by decide

theorem test_witness_characteristic :
    increasing [(0, 0), (1000, 2400), (1250, 3000)] = true
      ∧ ([(0, 0), (1000, 2400), (1250, 3000)] : List (Int × Nat))[1]? = some (1000, 2400)
      ∧ ([(0, 0), (1000, 2400), (1250, 3000)] : List (Int × Nat))[2]? = some (1250, 3000) := by decide

theorem test_witness_warning_delays :
    ((delaying .arming false).warnings.recs.get 5).delay = some 3000
      ∧ ((delaying .releasing true).warnings.recs.get 5).acked = true
      ∧ ((delaying .releasing false).warnings.recs.get 5).state = .releasing
      ∧ ((delaying .releasing false).running.warnings.get 5).latching = true := by decide +kernel

/-- The top timers run beside a sound presentation. -/
theorem test_witness_presentation_timers :
    let s : State := { presenting with warnings := { presenting.warnings with minTimer := some 4000, autoTimer := some 4000 } }
    s.StackSound ∧ s.warnings.minTimer = some 4000 ∧ s.warnings.autoTimer = some 4000
      ∧ minimumMs s 5 ≤ 600 + (4000 - s.now) ∧ 600 + (3999 - s.now) < minimumMs s 5 := by
  refine ⟨?_, by decide +kernel, by decide +kernel, by decide +kernel, by decide +kernel⟩
  unfold State.StackSound
  decide +kernel

theorem test_witness_lamps :
    panel.lamps.stepTimer = some 125 ∧ panel.lamps.bulbTimer = some 2000 ∧ (panel.lamps.lamps.get 7).output = true
      ∧ panel.lamps.duty1 ≠ 0 ∧ (panel.lamps.lamps.get 0).output = false
      ∧ (panel.running.lamps.get 7).fault = some ⟨0x0607, 1⟩ ∧ (panel.lamps.lamps.get 7).latch = false := by decide +kernel

theorem test_witness_link :
    linked.display.ready = false ∧ linked.display.link ≠ .stalled ∧ linked.display.refresh = some 1000
      ∧ linked.display.stall = some 500 ∧ linked.running.display.get 5 ≠ .none ∧ linked.running.display.get 4 = .none
      ∧ linked.running.display.get 5 ≠ shop.display.get 5 ∧ linked.running.display.get 4 = shop.display.get 4
      ∧ (0b001 : Byte).getLsbD 0 = true ∧ (0b110 : Byte).getLsbD 0 = false ∧ (0b011 : Byte).getLsbD 1 = true := by
  decide +kernel

theorem test_witness_values :
    1 ≤ speedSlot.length ∧ fits .little 16 16 4 = true ∧ fits .little 16 16 3 = false ∧ fits .big 48 16 2 = true
      ∧ fits .big 48 16 1 = false ∧ 65535 < 2 ^ 16 ∧ fits .little 32 8 8 = true := by decide

theorem test_witness_records :
    (∃ r ∈ fullMemory, r.code = 0x0432 ∧ r.source = .analog 2) ∧ (∀ r ∈ fullMemory, r.code ≠ 0x0502) := by decide +kernel

theorem test_witness_image_kept : mayChangeImage (.identify 0 []) = false ∧ ∃ t, exec (.identify 0 []) State.reset = .next t :=
  ⟨rfl, _, rfl⟩

/-- A part in ACTIVE with door D2 CLOSED and the interlock released. -/
def closedUp : State :=
  let s := doorAt .closed
  { s with doors := { s.doors with allClosed := true, interlock := false } }

theorem test_witness_interlock : closedUp.InterlockSafe ∧ closedUp.doors.interlock = false ∧ ∃ t, step closedUp = .next t := by
  refine ⟨?_, rfl, _, rfl⟩
  unfold State.InterlockSafe
  decide +kernel

/-- A part with one fault record and its snapshot. -/
def faulty : State :=
  { live .active shop with faults := { FaultUnit.reset with
      items := raiseItem 0x0502 (.door 2) 2 [40] (fun _ => Effective.none) Persistent.empty, started := true } }

theorem test_witness_faults : faulty.FaultsSound ∧ faulty.faults.items.records.length = 1 := by
  have empty : Persistent.empty.Sound := by
    refine ⟨by decide, by decide, fun k x h => ?_, fun r h => nomatch h⟩
    have hk : ∀ k : Fin 8, Persistent.empty.slots.get k = none := by decide +kernel
    rw [hk k] at h
    cases h
  have one : faulty.faults.items.Sound := by
    have h₃ : ∀ k : Fin 8, ∀ x ∈ (faulty.faults.items.slots.get k).toList, ∃ r ∈ faulty.faults.items.records,
        r.slot = some k ∧ r.code = x.code ∧ r.source = x.source := by decide +kernel
    have h₄ : ∀ r ∈ faulty.faults.items.records, ∀ k : Fin 8, r.slot = some k →
        ∃ x ∈ (faulty.faults.items.slots.get k).toList, x.code = r.code ∧ x.source = r.source := by decide +kernel
    refine ⟨by decide +kernel, by decide +kernel, fun k x h => h₃ k x (by simp [h]), fun r hr k hk => ?_⟩
    obtain ⟨x, hx, hc, hs⟩ := h₄ r hr k hk
    exact ⟨x, by simpa using hx, hc, hs⟩
  exact ⟨⟨one, empty, empty, fun op h => nomatch h⟩, by decide +kernel⟩

theorem test_witness_queues_and_records : catching.QueuesBounded ∧ linked.RecordsSound := by
  constructor
  · unfold State.QueuesBounded
    decide +kernel
  · unfold State.RecordsSound
    decide +kernel

theorem test_witness_presentation : presenting.PresentationSound := by
  refine ⟨test_witness_stack.1, by decide +kernel, by decide +kernel, fun w hw hm => ?_⟩
  refine ⟨⟨5, 1, 600, false, 255⟩, by decide +kernel, ?_⟩
  revert w
  decide +kernel

theorem test_witness_signals : (live .active substituted).SignalsResolved := by
  unfold State.SignalsResolved
  decide +kernel

theorem test_witness_store_operations : committing.FactorySafe ∧ committing.StartsIdle := by
  have runs : committing.store.operation = some (.commit 2 .check) := by decide +kernel
  refine ⟨⟨fun step h => ?_, fun items h => ?_, by decide +kernel⟩, fun h => absurd h (by decide +kernel)⟩
  · rw [runs] at h
    cases h
  · rw [runs] at h
    cases h

/-! ### Delivery, writes, reads, saves, state changes: cases of the statements -/

/-- Notices left by an earlier step are taken with nothing queued: the sleep delay starts anew in STANDBY. -/
theorem test_witness_delivery :
    after (step { live .standby shop with mail := [.activity, .allClosed true] }) (fun t =>
      t.control.sleepTimer == some 60000 && t.control.allClosed && t.mail.isEmpty && t.now == 0) = true := by decide +kernel

/-- R24, R33, R34: a bare write at and above the limit; the dependent 40 is resolved after 41; a write that changes nothing sends
nothing; a status alone keeps the value. -/
theorem test_witness_writes :
    let s := live .active substituted
    let at3000 := handle (.write 41 (.bare 3000)) s
    let cut := handle (.write 41 (.bare 3001)) at3000
    (at3000.signals.get 41).eff = ⟨3000, .valid, none, false⟩ ∧ (at3000.signals.get 40).eff = ⟨2500, .substituted, none, true⟩
      ∧ at3000.mail = [.update 41 ⟨3000, .valid, none, false⟩, .update 40 ⟨2500, .substituted, none, true⟩]
      ∧ (cut.signals.get 41).eff = ⟨3000, .valid, none, true⟩ ∧ cut.mail.length = 3
      ∧ handle (.write 41 (.bare 3000)) at3000 = at3000
      ∧ ((handle (.write 41 (.status .timeout)) at3000).signals.get 41).eff = ⟨3000, .invalid, some .timeout, false⟩ := by
  decide +kernel

/-- An entry names 40 alone, and none names 41. -/
theorem test_witness_substitution_entries :
    (substituted.substitution.get 3).inUse = true ∧ (substituted.substitution.get 3).signal = 40
      ∧ (∀ m, m ≠ 3 → (substituted.substitution.get m).inUse = false)
      ∧ alternateValue substituted (live .active substituted).signals (substituted.substitution.get 3) = none := by decide +kernel

/-- Table 10-7: a record, its snapshot with one entry, an empty slot, and an attribute with a fault and without. -/
theorem test_read_layouts :
    let img := { shop with attrs := shop.attrs.set 3 ⟨true, .frameTimeout, some 12, 500, some ⟨0x0A10, 1⟩⟩ }
    let f := faultsData faulty 0
    let n := snapshotData faulty 0 0
    let d := attributeData (live .active img) 3
    f.length = 19 ∧ fieldAt f 0 1 = 1 ∧ fieldAt f 3 2 = 0x0502 ∧ fieldAt f 5 1 = 4 ∧ fieldAt f 6 1 = 2 ∧ fieldAt f 7 1 = 10
      ∧ fieldAt f 18 1 = 0 ∧ (faultsData faulty 1).length = 3
      ∧ n.length = 22 ∧ fieldAt n 2 2 = 0x0502 ∧ fieldAt n 16 1 = 40 ∧ fieldAt n 21 1 = 2
      ∧ (snapshotData faulty 0 1).length = 16 ∧ snapshotData faulty 1 0 = [1, 0]
      ∧ fieldAt d 3 1 = 12 ∧ fieldAt d 8 4 = 500 ∧ fieldAt d 12 2 = 0x0A10 ∧ fieldAt d 14 1 = 1
      ∧ fieldAt (attributeData (live .active img) 4) 14 1 = 0xFF := by decide +kernel

/-- R189, R192: the save at an entry to STANDBY begins, waits behind a running operation, or joins one that waits; at an entry to
SLEEP it is for the changed flag. -/
theorem test_witness_entries :
    let s := live .active shop
    let busy := { s with store := { s.store with operation := some (.selectRead 1) } }
    let saved := { busy with store := { busy.store with waiting := [.save] } }
    let changed := { s with faults := { s.faults with changed := true } }
    (s.enterMode .standby).store.operation = some (.save s.faults.items 0) ∧ (busy.enterMode .standby).store.waiting = [.save]
      ∧ (saved.enterMode .standby).store = saved.store ∧ (s.enterMode .sleep).store = s.store
      ∧ (changed.enterMode .sleep).faults.changed = false ∧ (s.enterMode .configuring).store = s.store
      ∧ s.faults.started = true ∧ (s.enterMode .active).store = s.store := by decide +kernel

/-- R70 to R74: a door leaves FAULT by a closed picture: its report ends, no cycle is counted, and the summary follows. -/
theorem test_witness_door_change :
    let s := doorAt .fault
    let r : DoorRun := { s.doors.doors.get 2 with
      travel := none, reported := some 0x0502, views := { (s.doors.doors.get 2).views with closed := some .asserted, edge := some .notAsserted } }
    let t := evaluateDoor s.image 2 doorD2 10500 r
    let u := Doors.onDoor 2 (evaluateDoor s.image 2 doorD2 10500) s ⟨{ s.doors with doors := s.doors.doors.set 2 r }, []⟩
    t.1.state = .closed ∧ t.1.reported = none ∧ t.1.reachedOpen = false ∧ .report (.clear 0x0502 (.door 2)) ∈ t.2
      ∧ .write 90 (.bare 1) ∈ t.2 ∧ .report (.wear .doorCycle 2) ∉ t.2
      ∧ u.st.allClosed = true ∧ u.st.interlock = false ∧ .allClosed true ∈ u.out := by decide +kernel

/-- R85 to R97: one slew short of a phase target and within reach of it, and the fallback modes. -/
theorem test_witness_gauge_states :
    let cfg := { dialCfg with rest := 200 }
    let run := fun (st : GaugeState) (position : Nat) => { (dial st position).gauges.gauges.get 0 with sweepPending := false }
    let now := fun st position => ((updateGauge cfg (run st position)).state, (updateGauge cfg (run st position)).position)
    let back := fun fallback => (updateGauge { cfg with fallback := fallback } (run .fallback 100)).position
    now .settling 221 = (.settling, 201) ∧ now .settling 220 = (.tracking, 200) ∧ now .parking 221 = (.parking, 201)
      ∧ now .parking 180 = (.parked, 200) ∧ now .unhomed 5 = (.unhomed, 5) ∧ now .homing 5 = (.homing, 5)
      ∧ (updateGauge cfg { run .sweep 2979 with phase := .up }).phase = .up
      ∧ (updateGauge cfg { run .sweep 2980 with phase := .up }).phase = .down
      ∧ (updateGauge cfg { run .sweep 220 with phase := .down }).state = .tracking
      ∧ (updateGauge cfg { run .settling 200 with sweepPending := true }).state = .sweep
      ∧ back .rest = 120 ∧ back (.position 50) = 80 ∧ back (.position 90) = 90 ∧ back .hold = 80 := by decide +kernel

/-- Table 5-7: entries to ACTIVE, STANDBY and SLEEP by state; R86, R96, R100 beside them. -/
theorem test_witness_gauge_modes :
    let acc := fun st => (⟨(dial st 300).gauges, []⟩ : Acc Gauges)
    let s := dial .tracking 300
    let bad : Effective := ⟨0, .invalid, some .timeout, false⟩
    let state := fun (a : Acc Gauges) => (a.st.gauges.get 0).state
    [GaugeState.unhomed, .homing, .parking, .parked].map (fun st => state (gaugeMode .standby .active s (acc st)))
        = [.homing, .homing, .sweep, .sweep]
      ∧ state (gaugeMode .configuring .active s (acc .parked)) = .tracking
      ∧ [GaugeState.tracking, .homing, .parking].map (fun st => state (gaugeMode .active .standby s (acc st)))
        = [.parking, .homing, .parking]
      ∧ [GaugeState.homing, .parking, .parked].map (fun st => state (gaugeMode .active .sleep s (acc st)))
        = [.unhomed, .unhomed, .parked]
      ∧ state (gaugeSignal 1 bad s (acc .tracking)) = .fallback ∧ state (gaugeSignal 2 bad s (acc .tracking)) = .tracking
      ∧ state (gaugeTestStart s (acc .tracking)) = .sweep ∧ state (gaugeTestEnd s (gaugeTestStart s (acc .tracking))) = .tracking
      ∧ state (reinitGauges s.running s (acc .parked)) = .parked ∧ state (reinitGauges shop s (acc .parked)) = .unhomed := by
  decide +kernel

/-- R129: the requests of `panel` stand in order, and W8's of level 1 is the owner pattern until a request of level 0 is given. -/
theorem test_witness_lamp_owner :
    let cfg := panel.running.lamps.get 7
    panel.LampRequestsOrdered ∧ cfg.owner = .warnings ∧ ownerPattern cfg (panel.lamps.lamps.get 7) = some 3
      ∧ ((giveLamp 7 ⟨9, 0, 5⟩ panel ⟨panel.lamps, []⟩).st.lamps.get 7).requests = [⟨9, 0, 5⟩, ⟨8, 1, 3⟩]
      ∧ ((withdrawLamp 7 8 panel ⟨panel.lamps, []⟩).st.lamps.get 7).requests = [⟨9, 3, 0⟩] := by
  refine ⟨?_, by decide +kernel, by decide +kernel, by decide +kernel, by decide +kernel⟩
  unfold State.LampRequestsOrdered LampRequest.before
  decide +kernel

/-- R167, R170: with READY asserted the transfer of record 5 starts and the stall timer stands; deasserted it runs on. -/
theorem test_witness_transfers :
    let ready : Acc Display := ⟨{ linked.display with ready := true, stall := none }, []⟩
    (startTransfer linked ready).st.flight = some ⟨5, RecordKind.present.code, DisplayRecord.emptyContent⟩
      ∧ (restall linked ready).st.stall = none ∧ (startTransfer linked ⟨linked.display, []⟩).st.flight = none
      ∧ (restall linked ⟨linked.display, []⟩).st.stall = some 500 ∧ (restall linked ⟨{ linked.display with stall := none }, []⟩).st.stall
        = some (linked.now + 500) ∧ linked.StallFollows := by
  refine ⟨by decide +kernel, by decide +kernel, by decide +kernel, by decide +kernel, by decide +kernel, ?_⟩
  unfold State.StallFollows
  decide +kernel

/-- R162: the differences -1, 0, the top code and one above it, floor rounding, and the code of an INVALID signal; two slots of both
byte orders in one frame of 8 bytes, sharing no bit. -/
theorem test_witness_packing :
    let slot : PackSlot := ⟨40, 0, 8, .little, 1, -5, true⟩
    let value := fun (x : PackSlot) (v : Int) => packValue x ⟨v, .valid, none, false⟩
    let bad : Effective := ⟨7, .invalid, some .timeout, false⟩
    let big : PackSlot := ⟨41, 16, 12, .big, 0, 0, false⟩
    let e := { transmit2 with slots := ((Tab.replicate 8 none).set 0 (some slot)).set 5 (some big) }
    [-7, -6, -5, -4, -3, 501, 502, 503, 504, 505, 506].map (value slot) = [0, 0, 0, 0, 1, 253, 253, 253, 253, 253, 253]
      ∧ [499, 500].map (value slot) = [252, 252] ∧ value { slot with invalidCodes := false } 506 = 255
      ∧ packValue slot bad = 255 ∧ packValue { slot with invalidCodes := false } bad = 6
      ∧ fits slot.order slot.start slot.length e.length = true ∧ fits big.order big.start big.length e.length = true
      ∧ (∀ n ∈ bitsOf slot.order slot.start slot.length, n ∉ bitsOf big.order big.start big.length)
      ∧ packFrame (fun i => ⟨i.val, .valid, none, false⟩) e = [22, 0, 0, 0, 0, 41, 0, 0] := by decide +kernel

/-! ### What the queues, the records, the Fault Unit and the presentation do with their notices -/

/-- R158: at 15 copies the next one joins the tail; at 16 it is dropped with its wear event. -/
theorem test_forward_at_the_limit :
    let c : ForwardCopy := ⟨⟨.standard, 5, [7]⟩, true, 4⟩
    let port := catching.outbound.ports.get 1
    let holding := fun n : Nat =>
      let held := { port with forward := List.replicate n ⟨⟨.standard, 9, []⟩, true, 0⟩ }
      { catching with outbound := { catching.outbound with ports := catching.outbound.ports.set 1 held } }
    let joined := handle (.forward 1 c) (holding 15)
    (joined.outbound.ports.get 1).forward.length = 16 ∧ (joined.outbound.ports.get 1).forward.getLast? = some c
      ∧ joined.mail = [] ∧ handle (.forward 1 c) (holding 16) = { holding 16 with mail := [.report (.wear .forwardDrop 1)] } := by
  decide +kernel

/-- R159, R174: an answer of 2 segments finds room beside 6 segments, or beside 5 and one in flight, and none beside one more. The
data goes with DONE alone. -/
theorem test_answer_at_the_limit :
    let port := catching.outbound.ports.get 1
    let holding := fun (n : Nat) (flight : Option Flight) =>
      let held := { port with response := List.replicate n [0x01, 9], flight := flight }
      { catching with outbound := { catching.outbound with ports := catching.outbound.ports.set 1 held } }
    let sending : Option Flight := some ⟨.response [0x01, 8], ⟨.standard, 3, [0x01, 8]⟩⟩
    let queued := fun (n : Nat) (flight : Option Flight) (r : Result) =>
      ((handle (.respond 1 0x04 r (zeros 6)) (holding n flight)).outbound.ports.get 1).response.length
    queued 6 none .done = 8 ∧ queued 7 none .done = 7 ∧ queued 5 sending .done = 7 ∧ queued 6 sending .done = 6
      ∧ queued 7 none .badIndex = 8 ∧ queued 8 none .badIndex = 8
      ∧ ((handle (.respond 1 0x04 .done (zeros 6)) (holding 6 none)).outbound.ports.get 1).response.drop 6
        = [[0x02, 0x04, 0, 0, 0, 0, 0, 0], [0x12, 0]]
      ∧ handle (.respond 1 0x04 .done (zeros 6)) (holding 7 none) = holding 7 none := by decide +kernel

/-- R165, R166, R16: another content, the same content, a record of another kind, one of kind NONE, and a mirror into RAW alone. -/
theorem test_record_writes :
    let s := live .active { shop with display := (shop.display.set 3 .doors).set 20 .raw }
    let wrote := handle (.record .doors [1, 2]) s
    let clean : DisplayRecord := ⟨[1, 2], [3], false⟩
    let again := { s with display := { s.display with records := s.display.records.set 3 clean } }
    wrote.display.records.get 3 = ⟨[1, 2], DisplayRecord.emptyContent, true⟩
      ∧ wrote.display.records.get 20 = s.display.records.get 20 ∧ wrote.display.stall = some (s.now + 500)
      ∧ handle (.record .doors [1, 2]) again = again ∧ handle (.record .none [1, 2]) again = again
      ∧ (handle (.record .doors [3]) again).display.records.get 3 = ⟨[3], [3], true⟩
      ∧ ((handle (.mirror 20 [5]) s).display.records.get 20).current = [5] ∧ handle (.mirror 3 [5]) again = again := by
  decide +kernel

/-- R146: a report before the start is held behind the others; the start takes them in order and makes ACTIVE records PASSIVE. -/
theorem test_held_reports :
    let s := live .active shop
    let waiting := { s with faults := { FaultUnit.reset with held := [.raise 5 (.door 1) 2] } }
    let old : FaultRecord := ⟨4, .displayLink, 1, true, 1, 0, 0, 0, false, none⟩
    let held := (handle (.report (.clear 5 (.door 1))) waiting).faults.held
    let started := startFaults { Persistent.empty with records := [old] } false s ⟨{ FaultUnit.reset with held := held }, []⟩
    held = [.raise 5 (.door 1) 2, .clear 5 (.door 1)] ∧ (∀ t, (s.running.attrs.get t).fault = none)
      ∧ started.st.items.records.map (fun r => (r.code, r.active)) = [(4, false), (5, false)] := by decide +kernel

/-- R140, R143, R149, R152: after the start a raise makes a record with the signals as they stand, a second one counts, a clear makes
it PASSIVE; a wear event that takes two attributes to their thresholds raises both faults, and a saturated one counts no further. -/
theorem test_reports_taken :
    let s := live .active { shop with
      snapshotList := [1]
      attrs := ((shop.attrs.set 3 ⟨true, .frameTimeout, none, 5, some ⟨0x0A10, 1⟩⟩).set 7
        ⟨true, .frameTimeout, some 12, 4, some ⟨0x0A11, 3⟩⟩).set 9 ⟨true, .frameTimeout, none, 0, some ⟨0x0A12, 3⟩⟩ }
    let raised := handle (.report (.raise 0x0502 (.door 2) 2)) s
    let cleared := handle (.report (.clear 0x0502 (.door 2))) raised
    let twice := handle (.report (.raise 0x0502 (.door 2) 3)) cleared
    let values := ((s.faults.items.attrValues.set 3 4).set 7 4).set 9 4294967295
    let worn := handle (.report (.wear .frameTimeout 12))
      { s with faults := { s.faults with items := { s.faults.items with attrValues := values } } }
    raised.mail = [.faultCount 1 false] ∧ raised.faults.changed = true
      ∧ (raised.faults.items.slots.get 0).map (·.entries) = some [(1, ⟨1, .valid, none, false⟩)]
      ∧ cleared.faults.items.records.map (·.active) = [false] ∧ cleared.mail = raised.mail
      ∧ twice.faults.items.records.map (fun r => (r.active, r.occurrences, r.severity)) = [(true, 2, 3)] ∧ twice.mail = raised.mail
      ∧ worn.faults.items.records.map (fun r => (r.code, r.source, r.severity)) = [(0x0A10, .attr 3, 1), (0x0A11, .attr 7, 3)]
      ∧ worn.faults.attrReported.get 3 = some 0x0A10 ∧ worn.faults.attrReported.get 9 = none
      ∧ worn.faults.items.attrValues.get 7 = 5 ∧ worn.faults.items.attrValues.get 9 = 4294967295
      ∧ worn.mail = [.faultCount 1 false, .faultCount 2 false] := by decide +kernel

/-- R190, log 38: with both conditions of the Profile Store standing, CLEAR FAULTS raises 0xF001 and then 0xF003. -/
theorem test_store_rereport_order :
    let s := live .active shop
    (rereportStore { s with control := { s.control with fallback := true } } ⟨{ s.store with failure := true }, []⟩).out
      = [.report (.raise 0xF001 .profileStore 2), .report (.raise 0xF003 .profileStore 2)] := by decide +kernel

/-- R138: lamp 7 goes out when its requests are withdrawn, and the LAMPS records are written; a request that leaves it lit writes none;
lamp 23 is bit 7 of byte 2. -/
theorem test_lamp_notices :
    let lone := { panel with lamps := { panel.lamps with
      bulbTimer := none, lamps := panel.lamps.lamps.set 7 { panel.lamps.lamps.get 7 with requests := [⟨8, 1, 3⟩] } } }
    let dark := handle (.lampWithdraw 7 8) lone
    let door := { panel with running := { panel.running with lamps := panel.running.lamps.set 23 ⟨.door, none, none, some 5, false, none⟩ } }
    let ready := { door with lamps := { lone.lamps with lamps := lone.lamps.lamps } }
    dark.mail = [.record .lamps (zeros 12)] ∧ (dark.lamps.lamps.get 7).resolved = none
      ∧ (handle (.lampGive 7 ⟨9, 0, 5⟩) lone).mail = [] ∧ ((handle (.lampGive 7 ⟨9, 0, 5⟩) lone).lamps.lamps.get 7).resolved = some 5
      ∧ (handle (.doorRequest 5 (some 2)) ready).mail = [.record .lamps ([0x80, 0, 0x80] ++ zeros 9)]
      ∧ (handle (.doorRequest 4 (some 2)) ready).mail = []
      ∧ (reinitLamps lone ⟨lone.lamps, []⟩).out = [.record .lamps ([0x80] ++ zeros 11)]
      ∧ (handle .buzzer { lone with warnings := { lone.warnings with request := some 3 } }).lamps.buzzer = some 3
      ∧ (handle (.allClosed true) lone).control.allClosed = true := by decide +kernel

/-- R96, R133: the notices of an output test's start and end at a tracking gauge, the lamps and the buzzer. -/
theorem test_output_test_notices :
    let s := { dial .tracking 100 with
      service := { (dial .tracking 100).service with slot := some (.outputTest, 0) } }
    let started := handle .testStart s
    let ended := handle .testEnd { started with service := { started.service with slot := none } }
    (started.gauges.gauges.get 0).state = .sweep ∧ (started.gauges.gauges.get 0).testSweep = true ∧ started.lamps.buzzer = some 0
      ∧ (ended.gauges.gauges.get 0).state = .tracking ∧ (ended.gauges.gauges.get 0).testSweep = false
      ∧ ended.lamps.buzzer = none := by decide +kernel

/-- R122, R123: W5 on top issues its request under the next number, modulo 256, and the PRESENT content shows it; uncovered, W12 has
no repetitions left; the empty stack. -/
theorem test_present_content :
    let top := fun (stack : List StackEntry) (number : Nat) =>
      topChanged presenting ⟨{ presenting.warnings with stack := stack, requestNumber := number }, []⟩
    let w5 : StackEntry := ⟨5, 1, 600, false, 1⟩
    let w12 : StackEntry := ⟨12, 4, 2000, false, 0⟩
    let shown := fun content : List Byte => [Notice.buzzer, .record .present (content ++ zeros 6)]
    (top [w5, w12] 255).st.request = some 6 ∧ (top [w5, w12] 255).st.requestNumber = 0
      ∧ (top [w5, w12] 255).out = shown [0x10, 0x02, 1, 2, 1, 1]
      ∧ (top [w12] 3).st.request = none ∧ (top [w12] 3).st.requestNumber = 3 ∧ (top [w12] 3).out = shown [0x31, 0x01, 4, 1, 1, 0]
      ∧ (top [] 3).out = shown [0, 0, 0xFF, 0, 1, 0] := by decide +kernel

/-- R116, R117: W5 leaves the top; W20 of level 4 waits beneath W12 of level 4, and is pushed above an entry of level 5. -/
theorem test_top_removed :
    let beneath := fun level => (⟨{ presenting.warnings with
      stack := [⟨5, 1, 600, false, 255⟩, ⟨12, level, 2000, false, 0⟩] }, []⟩ : Acc Warnings)
    masked presenting presenting.warnings (levelOf presenting 20) = false ∧ levelOf presenting 20 = 4
      ∧ (withdraw 5 presenting (beneath 4)).st.stack = [⟨12, 4, 2000, false, 0⟩]
      ∧ (withdraw 5 presenting (beneath 4)).st.waiting = [20]
      ∧ (withdraw 5 presenting (beneath 5)).st.stack = [⟨20, 4, 0, false, 0⟩, ⟨12, 5, 2000, false, 0⟩]
      ∧ (withdraw 5 presenting (beneath 5)).st.waiting = [] := by decide +kernel

/-! ### Loads refused, at the boundary values of their checks -/

/-- What the loader answers for each content with one byte replaced: none where it accepts. -/
def outcomes (table index : Nat) (content : List Byte) (img : Image) (bytes : List (Nat × Byte)) : List (Option Result) :=
  bytes.map fun x => match (live .configuring img).loadEntry table index (content.set x.1 x.2) with
    | .ok _ => none
    | .error r => some r

/-- R9: fields at both sides of their limits, the occupied byte of `speedSlot`, the order of mirror and severity; index and conflict. -/
theorem test_frame_refusals :
    outcomes 1 12 (frameContent entry12) bus [(0, 2), (1, 2), (1, 3), (2, 1), (2, 2), (4, 7), (4, 8), (11, 8), (11, 9), (11, 3)]
        = [some .badValue, none, some .badValue, none, some .badValue, none, some .badValue, none, some .badValue, some .badValue]
      ∧ outcomes 1 12 (frameContent entry12) bus [(13, 6), (13, 3), (13, 8), (17, 0), (18, 2), (19, 63), (19, 64), (22, 3), (22, 4)]
        = [none, some .badValue, some .badValue, some .badValue, some .badValue, none, some .badIndex, none, some .badValue]
      ∧ outcomes 1 12 ((frameContent entry12).set 22 4) bus [(19, 64)] = [some .badIndex]
      ∧ outcomes 1 128 (frameContent entry12) bus [(1, 3), (0, 2)] = [some .badIndex, some .badValue]
      ∧ outcomes 1 127 (frameContent entry12) bus [(0, 1), (0, 0), (1, 2), (3, 0)] = [some .conflict, none, none, none] := by
  decide +kernel

/-- R11, R22: the fields of a descriptor of entry 12, whose frames have 4 bytes; a target that has another source. -/
theorem test_extract_refusals :
    outcomes 2 96 (descriptorContent speedSlot) bus
        [(2, 0), (2, 17), (2, 64), (3, 0), (3, 1), (3, 33), (4, 2), (6, 1), (9, 15), (9, 16), (1, 1), (0, 1), (0, 41)]
      = [none, some .badValue, some .badValue, some .badValue, none, some .badValue, some .badValue, none, none, some .badValue,
        some .badIndex, some .conflict, none]
      ∧ outcomes 2 96 ((descriptorContent speedSlot).set 5 1) bus [(6, 0), (6, 1)] = [none, some .badValue]
      ∧ outcomes 2 96 ((descriptorContent speedSlot).set 6 1) bus [(3, 1), (3, 2)] = [some .badValue, none]
      ∧ outcomes 2 97 (descriptorContent speedSlot) bus [(3, 16)] = [some .conflict]
      ∧ outcomes 2 1023 (descriptorContent { speedSlot with target := none }) bus [(3, 1), (0, 0)] = [some .badValue, some .badIndex]
      ∧ outcomes 2 1024 (descriptorContent speedSlot) bus [(3, 16)] = [some .badIndex] := by decide +kernel

/-- R23, R40: limits, constants and their source; an entry's signal, alternate and mode, and another entry for the signal. -/
theorem test_signal_and_substitution_refusals :
    outcomes 3 41 (signalLoad 5 9 (some 9)) shop [(0, 9), (0, 10), (9, 5), (9, 4), (9, 10), (8, 2)]
        = [none, some .badValue, none, some .badValue, some .badValue, some .badValue]
      ∧ outcomes 3 40 (signalLoad 5 9 (some 9)) bus [(8, 1), (8, 0)] = [some .conflict, none]
      ∧ outcomes 3 256 (signalLoad 5 9 none) shop [(0, 10)] = [some .badIndex]
      ∧ outcomes 4 15 (substitutionLoad ⟨true, 41, .signal 42, false⟩) substituted [(3, 41), (2, 0), (2, 3), (1, 40), (8, 2)]
        = [some .badValue, some .badValue, some .badValue, some .conflict, some .badValue]
      ∧ outcomes 4 15 (substitutionLoad ⟨false, 40, .signal 40, false⟩) substituted [(2, 1), (2, 0)] = [none, none]
      ∧ outcomes 4 3 (substitutionLoad ⟨true, 40, .none, true⟩) substituted [(8, 1), (8, 0)] = [none, some .badValue]
      ∧ outcomes 4 16 (substitutionLoad ⟨true, 40, .none, false⟩) substituted [(1, 40)] = [some .badIndex] := by decide +kernel

/-- R46, R52: debounce count, fault severity, target, and the fourth and fifth wake input; the averaging and the window. -/
theorem test_input_refusals :
    let four := (List.range 4).foldl (fun d n => d.modify (Fin.ofNat 24 n) fun c => { c with wake := true }) shop.discretes
    let three := four.modify 3 fun c => { c with wake := false }
    let input := discreteContent ⟨false, true, 5, some 41, true, some ⟨0x0301, 2⟩⟩
    let analog := analogContent ⟨4, 100, 4000, 1, 0, 0, some 41, some ⟨0x0302, 2⟩⟩
    outcomes 5 23 input shop [(0, 2), (1, 2), (5, 2), (2, 0), (2, 1), (2, 15), (2, 16), (4, 1), (3, 1), (8, 3), (8, 4)]
        = [some .badValue, some .badValue, some .badValue, some .badValue, none, none, some .badValue, some .badIndex, some .conflict,
          none, some .badValue]
      ∧ outcomes 5 9 input { shop with discretes := four } [(5, 1), (5, 0)] = [some .conflict, none]
      ∧ outcomes 5 9 input { shop with discretes := three } [(5, 1)] = [none]
      ∧ outcomes 5 24 input shop [(2, 0)] = [some .badIndex]
      ∧ outcomes 6 7 analog shop [(0, 8), (0, 3), (0, 0), (4, 0x10), (2, 0x10), (7, 15), (7, 16), (13, 1), (12, 2), (16, 4)]
        = [none, some .badValue, some .badValue, some .badValue, some .badValue, none, some .badValue, some .badIndex, some .conflict,
          some .badValue]
      ∧ outcomes 6 8 analog shop [(0, 3)] = [some .badIndex] := by decide +kernel

/-- R60, R83: times, sensors and lamp map of a door; scale, breakpoints and motion of a gauge. -/
theorem test_door_and_gauge_refusals :
    outcomes 7 5 (doorLoad doorD2) shop
        [(0, 2), (10, 4), (10, 5), (10, 100), (10, 101), (11, 100), (11, 101), (1, 81), (12, 84), (12, 1), (13, 1), (25, 7), (25, 8)]
      = [some .badValue, some .badValue, none, none, some .badValue, none, some .badValue, some .badValue, some .badValue,
        some .conflict, some .badIndex, none, some .badIndex]
      ∧ outcomes 7 5 (doorLoad { doorD2 with opened := none }) shop [(0, 1), (8, 0xFF), (9, 0xFF)] = [none, none, some .badIndex]
      ∧ outcomes 7 5 (doorLoad { doorD2 with opened := none, release := none }) shop [(0, 1)] = [some .badValue]
      ∧ outcomes 7 6 (doorLoad doorD2) shop [(10, 4)] = [some .badIndex]
      ∧ outcomes 8 5 (gaugeLoad { gauge0 with fs := 4095 }) shop
        [(0, 2), (3, 0x10), (4, 1), (4, 2), (4, 9), (55, 7), (55, 8), (56, 1), (56, 0), (57, 3), (61, 3), (61, 4), (62, 2), (12, 0),
          (54, 16), (59, 16)]
        = [some .badValue, some .badValue, some .badValue, none, some .badValue, none, some .badValue, none, some .badValue,
          some .badValue, none, some .badValue, some .badValue, none, some .badValue, some .badValue]
      ∧ outcomes 8 5 ((gaugeLoad { gauge0 with fs := 4095 }).set 11 0) shop [(12, 0), (12, 1)] = [some .badValue, none]
      ∧ outcomes 8 5 (gaugeLoad { gauge0 with fs := 3000 }) shop [(2, 0xB8), (2, 0xB7)] = [none, some .badValue]
      ∧ outcomes 8 5 (gaugeLoad { gauge0 with fs := 100, points := [(0, 0), (1, 100)] }) shop [(2, 100), (2, 99)] = [none, some .badValue]
      ∧ outcomes 8 6 (gaugeLoad gauge0) shop [(4, 1)] = [some .badIndex] := by decide +kernel

/-- R102, R126, R127: a warning, a lamp and a pattern. -/
theorem test_panel_refusals :
    outcomes 9 63 (warningLoad qualified) shop
        [(3, 4), (14, 4), (22, 2), (13, 1), (19, 8), (11, 0xFF), (25, 101), (26, 61), (27, 7), (27, 8), (28, 0), (29, 24), (30, 8),
          (33, 4)]
      = [some .badValue, some .badValue, some .badValue, some .badIndex, some .badValue, some .badValue, some .badValue,
        some .badValue, none, some .badIndex, some .badValue, some .badIndex, some .badIndex, some .badValue]
      ∧ outcomes 9 63 (warningLoad { qualified with buzzer := none, lamp := none }) shop [(28, 0), (30, 8)] = [none, none]
      ∧ outcomes 9 64 (warningLoad qualified) shop [(19, 8)] = [some .badIndex]
      ∧ outcomes 10 23 (lampLoad ⟨.signal, some 40, some 3, some 5, true, some ⟨0x0607, 1⟩⟩) shop
        [(0, 3), (0, 4), (2, 1), (3, 8), (3, 0xFF), (4, 6), (4, 0xFF), (5, 2), (8, 4)]
        = [none, some .badValue, some .badIndex, some .badIndex, some .badValue, some .badIndex, none, some .badValue, some .badValue]
      ∧ outcomes 10 23 (lampLoad ⟨.door, none, none, some 5, true, none⟩) shop [(4, 0xFF), (0, 2), (0, 1)]
        = [some .badValue, some .badValue, none]
      ∧ outcomes 10 24 (lampLoad ⟨.none, none, none, none, true, none⟩) shop [(8, 4)] = [some .badIndex]
      ∧ outcomes 11 7 (patternContent ⟨8, 3⟩) shop [(0, 0), (0, 1), (0, 16), (0, 17)] = [some .badValue, none, none, some .badValue]
      ∧ outcomes 11 0 (patternContent ⟨8, 3⟩) shop [(0, 17)] = [some .badIndex]
      ∧ outcomes 11 8 (patternContent ⟨8, 3⟩) shop [(0, 1)] = [some .badIndex] := by decide +kernel

/-- R145, R151, R165: a snapshot list, an attribute and a display record. -/
theorem test_list_refusals :
    outcomes 15 0 (snapshotListLoad [40, 72]) shop [(2, 41), (2, 40), (0, 16), (0, 3)] = [none, some .badValue, some .badValue, none]
      ∧ outcomes 15 0 (snapshotListLoad ((List.range 16).map (Fin.ofNat 256))) shop [(0, 16), (0, 17), (16, 14)]
        = [none, some .badValue, some .badValue]
      ∧ outcomes 15 1 (snapshotListLoad [40, 72]) shop [(2, 40)] = [some .badIndex]
      ∧ outcomes 14 15 (attrContent ⟨true, .doorCycle, some 5, 9, some ⟨0x0A10, 1⟩⟩) shop
        [(0, 2), (1, 10), (2, 5), (2, 6), (2, 0xFF), (1, 9), (9, 3), (9, 4)]
        = [some .badValue, some .badValue, none, some .badIndex, none, some .badValue, none, some .badValue]
      ∧ outcomes 14 15 (attrContent ⟨true, .ignitionCycle, none, 9, none⟩) shop [(2, 0xFF), (2, 0)] = [none, some .badValue]
      ∧ outcomes 14 15 (attrContent ⟨true, .frameTimeout, some 127, 9, none⟩) shop [(2, 127), (2, 128)] = [none, some .badIndex]
      ∧ outcomes 14 16 (attrContent ⟨true, .ignitionCycle, none, 9, none⟩) shop [(2, 0)] = [some .badIndex]
      ∧ outcomes 13 63 [1, 5] shop [(1, 6), (1, 5), (0, 2), (0, 7), (0, 8)] = [some .badIndex, none, none, none, some .badValue]
      ∧ outcomes 13 64 [1, 6] shop [(0, 7), (0, 8)] = [some .badIndex, some .badValue] := by decide +kernel

/-- R156: an own frame of 8 bytes with a field of 16 bits at bit 16, and a second field beside it and on it. -/
theorem test_transmit_refusals :
    let content := transmitLoad transmit2
    let second := fun start : Nat => transmitLoad { transmit2 with
      slots := transmit2.slots.set 1 (some ⟨41, start, 8, .big, 0, 0, false⟩) }
    outcomes 12 15 content shop
        [(0, 2), (1, 3), (2, 0), (6, 0x20), (7, 9), (7, 4), (7, 3), (8, 0), (9, 2), (11, 1), (12, 48), (12, 49), (13, 0), (13, 32), (13, 33)]
      = [some .badValue, some .badValue, some .badValue, some .badValue, some .badValue, none, some .badValue, some .badValue,
        some .badValue, some .badIndex, none, some .badValue, some .badValue, none, some .badValue]
      ∧ outcomes 12 15 content shop [(15, 15), (15, 16), (13, 1), (20, 2), (21, 0), (23, 64)]
        = [none, some .badValue, some .badValue, some .badValue, some .badIndex, none]
      ∧ outcomes 12 15 (second 24) shop [(0, 1)] = [none] ∧ outcomes 12 15 (second 32) shop [(0, 1)] = [some .badValue]
      ∧ outcomes 12 15 (second 40) shop [(0, 1)] = [some .badValue] ∧ outcomes 12 15 (second 48) shop [(0, 1)] = [none]
      ∧ outcomes 12 16 content shop [(1, 3)] = [some .badIndex] := by decide +kernel

/-- R183 with R37, R45, R61, R127, R22: the general settings. -/
theorem test_general_refusals :
    outcomes 16 0 (generalLoad settings) shop
        [(13, 1), (12, 2), (12, 91), (18, 1), (18, 2), (18, 20), (18, 21), (19, 49), (19, 250), (19, 251), (22, 19), (22, 40), (22, 41),
          (23, 0), (25, 3)]
      = [some .badIndex, some .conflict, some .conflict, some .badValue, none, none, some .badValue, some .badValue, none,
        some .badValue, some .badValue, none, some .badValue, some .badValue, some .badValue]
      ∧ outcomes 16 0 (generalLoad { settings with bulbCheck := 5000, sleepDelay := 10 }) shop [(20, 0x88), (20, 0x89), (24, 10), (24, 9)]
        = [none, some .badValue, none, some .badValue]
      ∧ outcomes 16 0 (generalLoad settings) shop
        [(26, 1), (26, 5), (27, 1), (30, 0), (51, 4), (51, 5), (32, 4), (108, 2), (109, 3), (110, 10), (110, 9), (113, 4), (115, 2),
          (119, 0x20)]
        = [some .badValue, some .badValue, none, some .badValue, none, some .badValue, some .badValue, some .badValue, some .badValue,
          none, some .badValue, some .badValue, some .badValue, some .badValue]
      ∧ outcomes 16 1 (generalLoad settings) shop [(18, 1), (108, 2)] = [some .badIndex, some .badValue] := by decide +kernel

end Sys2Proof.Tests
end

section
/-! PROOFS. GaugeProofs: the damping filter (R88). One update is the filter state plus a signed move toward the target; what the
filter does follows from the bounds of that move. -/

namespace Sys2Proof.Machine

/-! ### The move of one update -/

/-- The signed move of the damping filter at signed distance `d` from the target: the quotient truncated toward zero, and one
sixteenth toward the target where that is 0 (R88). `damp_eq_add_dampMove` ties it to the model's `damp`. -/
def dampMove (k : Nat) (d : Int) : Int :=
  if d.tdiv (2 ^ k) = 0 ∧ d ≠ 0 then (if 0 < d then 1 else -1) else d.tdiv (2 ^ k)

theorem dampMove_neg (k : Nat) (d : Int) : dampMove k (-d) = -dampMove k d := by
  simp only [dampMove, Int.neg_tdiv, neg_eq_zero, ne_eq]
  split_ifs <;> omega

theorem dampMove_bounds_of_nonneg (k : Nat) {d : Int} (hd : 0 ≤ d) : 0 ≤ dampMove k d ∧ dampMove k d ≤ d := by
  have quotient_nonneg : 0 ≤ d.tdiv (2 ^ k) := Int.tdiv_nonneg hd (by positivity)
  have quotient_le : d.tdiv (2 ^ k) ≤ d := Int.tdiv_le_self _ hd
  simp only [dampMove]
  split_ifs <;> omega

theorem dampMove_bounds_of_nonpos (k : Nat) {d : Int} (hd : d ≤ 0) : d ≤ dampMove k d ∧ dampMove k d ≤ 0 := by
  have mirrored := dampMove_bounds_of_nonneg k (d := -d) (by omega)
  rw [dampMove_neg] at mirrored
  omega

theorem dampMove_ne_zero (k : Nat) {d : Int} (hd : d ≠ 0) : dampMove k d ≠ 0 := by
  simp only [dampMove]
  split_ifs <;> omega

/-! ### One update of the filter -/

@[simp] theorem damp_zero (t f : Nat) : damp 0 t f = 16 * t := by simp [damp]

/-- With k = 0 the move is the whole distance, so one equation serves every k. -/
theorem damp_eq_toNat (k t f : Nat) : damp k t f = ((f : Int) + dampMove k (16 * t - f)).toNat := by
  by_cases hk : k = 0
  · subst hk
    have whole_distance : dampMove 0 (16 * t - f) = 16 * t - f := by
      simp only [dampMove, pow_zero, Int.tdiv_one]
      split_ifs <;> omega
    rw [damp_zero, whole_distance]
    omega
  · simp only [damp, if_neg hk, dampMove]

theorem damp_eq_add_dampMove (k t f : Nat) : (damp k t f : Int) = f + dampMove k (16 * t - f) := by
  rw [damp_eq_toNat]
  refine Int.toNat_of_nonneg ?_
  rcases le_total (f : Int) (16 * t) with below | above
  · have bounds := dampMove_bounds_of_nonneg k (d := 16 * t - f) (by omega)
    omega
  · have bounds := dampMove_bounds_of_nonpos k (d := 16 * t - f) (by omega)
    omega

theorem damp_bounds_of_le (k : Nat) {t f : Nat} (below : f ≤ 16 * t) : f ≤ damp k t f ∧ damp k t f ≤ 16 * t := by
  have moved := damp_eq_add_dampMove k t f
  have bounds := dampMove_bounds_of_nonneg k (d := 16 * t - f) (by omega)
  omega

theorem damp_bounds_of_ge (k : Nat) {t f : Nat} (above : 16 * t ≤ f) : 16 * t ≤ damp k t f ∧ damp k t f ≤ f := by
  have moved := damp_eq_add_dampMove k t f
  have bounds := dampMove_bounds_of_nonpos k (d := 16 * t - f) (by omega)
  omega

theorem damp_ne_self (k : Nat) {t f : Nat} (off : f ≠ 16 * t) : damp k t f ≠ f := by
  have moved := damp_eq_add_dampMove k t f
  have move_ne := dampMove_ne_zero k (d := 16 * t - f) (by omega)
  omega

theorem damp_le_scale (k : Nat) {t f fs : Nat} (ht : t ≤ fs) (hf : f ≤ 16 * fs) : damp k t f ≤ 16 * fs := by
  rcases le_total f (16 * t) with below | above
  · exact (damp_bounds_of_le k below).2.trans (Nat.mul_le_mul_left 16 ht)
  · exact (damp_bounds_of_ge k above).2.trans hf

/-! ### The updates that reach the target -/

/-- Each update shortens the distance by a sixteenth at the least. -/
theorem dist_damp_le (k t f : Nat) : Nat.dist (damp k t f) (16 * t) ≤ Nat.dist f (16 * t) - 1 := by
  have never_past_below := damp_bounds_of_le k (t := t) (f := f)
  have never_past_above := damp_bounds_of_ge k (t := t) (f := f)
  have moves := damp_ne_self k (t := t) (f := f)
  simp only [Nat.dist]
  omega

theorem dist_repeat_damp_le (k t f n : Nat) :
    Nat.dist (Nat.repeat (damp k t) n f) (16 * t) ≤ Nat.dist f (16 * t) - n := by
  induction n with
  | zero => exact le_rfl
  | succ n ih =>
    calc Nat.dist (damp k t (Nat.repeat (damp k t) n f)) (16 * t)
        ≤ Nat.dist (Nat.repeat (damp k t) n f) (16 * t) - 1 := dist_damp_le k t _
      _ ≤ Nat.dist f (16 * t) - (n + 1) := by omega

/-- As many updates as there are sixteenths between filter state and target are enough. -/
theorem repeat_damp_dist (k t f : Nat) : Nat.repeat (damp k t) (Nat.dist f (16 * t)) f = 16 * t := by
  have none_left := dist_repeat_damp_le k t f (Nat.dist f (16 * t))
  exact Nat.eq_of_dist_eq_zero (by omega)

/-! ### The obligation -/

/-- Settles O40: each clause from the bounds of the move, and the target reached because the distance to it shrinks. -/
theorem dampingReachesTarget : Obligations.DampingReachesTarget := by
  intro k t f
  refine ⟨damp_zero t f, fun _ => ?_, damp_bounds_of_le k, damp_bounds_of_ge k, damp_ne_self k,
    ⟨Nat.dist f (16 * t), repeat_damp_dist k t f⟩, fun _ => damp_le_scale k⟩
  simp only [damp_eq_add_dampMove, dampMove]
  split_ifs <;> omega

end Sys2Proof.Machine
end

section
/-! PROOFS. FaultReportProofs: reports at the Fault Unit (R146, R149, R155): held before its start, an edit of the items after it. -/

namespace Sys2Proof.Machine

@[simp] theorem isFor_eq_true {code : Nat} {source : FaultSource} {r : FaultRecord} :
    r.isFor code source = true ↔ r.code = code ∧ r.source = source := by simp [FaultRecord.isFor]

theorem satSucc_eq_min {top n : Nat} (h : n ≤ top) : satSucc top n = min top (n + 1) := by
  unfold satSucc
  split <;> omega

/-- An edit of the items as the whole part sees it: the changed flag, and the count and the indicator handed on. -/
theorem runFaults_edit (f : Persistent → Persistent) (s : State) :
    (s.runFaults fun _ => edit f) = { s with
      faults := { s.faults with
        items := f s.faults.items
        changed := s.faults.changed || decide (f s.faults.items ≠ s.faults.items) }
      mail := s.mail ++ if (f s.faults.items).records.length ≠ s.faults.items.records.length
          ∨ (f s.faults.items).overflow ≠ s.faults.items.overflow then
        [.faultCount (f s.faults.items).records.length (f s.faults.items).overflow] else [] } := by
  have differs : (f s.faults.items != s.faults.items) = decide (f s.faults.items ≠ s.faults.items) := by
    rw [Bool.eq_iff_iff, bne_iff_ne, decide_eq_true_iff]
  simp only [State.runFaults, edit_eq, differs, List.nil_append]

theorem handle_held (r : Report) {s : State} (notStarted : s.faults.started = false) :
    handle (.report r) s = { s with faults := { s.faults with held := s.faults.held ++ [r] } } := by
  simp only [handle, State.runFaults, takeReport_held r s (a := ⟨s.faults, []⟩) notStarted, List.append_nil]

section
variable {s : State} (started : s.faults.started = true)
include started

theorem handle_raise (code : Nat) (source : FaultSource) (severity : Nat) :
    handle (.report (.raise code source severity)) s
      = s.runFaults fun _ => edit (raiseItem code source severity s.running.snapshotList s.eff) := by
  simp only [handle, State.runFaults, takeReport_started _ s (a := ⟨s.faults, []⟩) started, takeRaise]

theorem handle_clear (code : Nat) (source : FaultSource) :
    handle (.report (.clear code source)) s = s.runFaults fun _ => edit (clearItem code source) := by
  simp only [handle, State.runFaults, takeReport_started _ s (a := ⟨s.faults, []⟩) started, takeClear]

theorem handle_wear (kind : WearKind) (index : Nat) :
    handle (.report (.wear kind index)) s = s.runFaults (takeWear kind index) := by
  simp only [handle, State.runFaults, takeReport_started _ s (a := ⟨s.faults, []⟩) started]

end

end Sys2Proof.Machine
end

section
/-! PROOFS. FaultMemoryProofs: raises at the Fault Memory (R140 to R142, R147, R148) and the start of the Fault Unit (R146). A raise
is a reoccurrence, a new record, or a new record after one has left; which one leaves and which slot a capture takes are each the
least of their kind, so that the statement's choice is the model's. -/

namespace Sys2Proof.Machine

/-! ### Reoccurrences -/

section
variable {code : Nat} {source : FaultSource} {p : Persistent} (severity : Nat) (list : List (Fin 256)) (eff : Fin 256 → Effective)

/-- A record after its reoccurrence (R140). -/
def FaultRecord.again (severity seconds : Nat) (r : FaultRecord) : FaultRecord :=
  { r with severity := severity, active := true, occurrences := satSucc 255 r.occurrences
           lastSeen := seconds, heal := 0, raisedThisCycle := true }

theorem any_isFor : p.records.any (·.isFor code source) = true ↔ ∃ r ∈ p.records, r.code = code ∧ r.source = source := by
  simp

theorem raiseItem_known (known : ∃ r ∈ p.records, r.code = code ∧ r.source = source) :
    raiseItem code source severity list eff p = { p with
      records := p.records.map fun r => if r.code = code ∧ r.source = source then r.again severity p.seconds else r } := by
  rw [raiseItem, if_pos (any_isFor.2 known)]
  simp only [isFor_eq_true, FaultRecord.again]

/-- What a raise that matches a record does to each record. -/
theorem raiseItem_known_record (known : ∃ r ∈ p.records, r.code = code ∧ r.source = source) {i : Nat} {r : FaultRecord}
    (at_i : p.records[i]? = some r) :
    (raiseItem code source severity list eff p).records[i]? =
      some (if r.code = code ∧ r.source = source then r.again severity p.seconds else r) := by
  rw [raiseItem_known severity list eff known, List.getElem?_map, at_i, Option.map_some]

theorem raiseItem_new (unknown : ¬∃ r ∈ p.records, r.code = code ∧ r.source = source) (room : p.records.length < 32) :
    raiseItem code source severity list eff p = createRecord code source severity list eff p := by
  rw [raiseItem, if_neg (mt any_isFor.1 unknown), if_pos room]

theorem raiseItem_displaces (unknown : ¬∃ r ∈ p.records, r.code = code ∧ r.source = source) (full : p.records.length = 32) {i : Nat}
    (leaves : displaced severity p.records = some i) :
    raiseItem code source severity list eff p = createRecord code source severity list eff (dropRecord i p) := by
  simp only [raiseItem, if_neg (mt any_isFor.1 unknown), if_neg (show ¬p.records.length < 32 by omega), leaves]

theorem raiseItem_overflows (unknown : ¬∃ r ∈ p.records, r.code = code ∧ r.source = source) (full : p.records.length = 32)
    (stay : displaced severity p.records = none) : raiseItem code source severity list eff p = { p with overflow := true } := by
  simp only [raiseItem, if_neg (mt any_isFor.1 unknown), if_neg (show ¬p.records.length < 32 by omega), stay]

/-- With a record gone the raise still matches none, and finds room. -/
theorem raiseItem_dropRecord_eq_createRecord (unknown : ¬∃ r ∈ p.records, r.code = code ∧ r.source = source)
    (full : p.records.length = 32) {i : Nat} (inside : i < p.records.length) :
    raiseItem code source severity list eff (dropRecord i p) = createRecord code source severity list eff (dropRecord i p) := by
  refine raiseItem_new severity list eff ?_ ?_
  · rintro ⟨r, hr, matching⟩
    exact unknown ⟨r, List.mem_of_mem_eraseIdx hr, matching⟩
  · have length : (dropRecord i p).records.length = p.records.length - 1 := List.length_eraseIdx_of_lt inside
    omega

end

/-! ### The record that leaves -/

/-- Record `r` at `i` is, among the records that `among` holds of, the one of lowest severity, the oldest among equals (R142). -/
def IsLowest (among : FaultRecord → Prop) (records : List FaultRecord) (i : Nat) (r : FaultRecord) : Prop :=
  records[i]? = some r ∧ among r ∧ ∀ (j : Nat) (o : FaultRecord), records[j]? = some o → among o →
    r.severity < o.severity ∨ (r.severity = o.severity ∧ i ≤ j)

theorem IsLowest.unique {among : FaultRecord → Prop} {records : List FaultRecord} {i j : Nat} {r o : FaultRecord}
    (hi : IsLowest among records i r) (hj : IsLowest among records j o) : i = j := by
  obtain ⟨at_i, hr, least_i⟩ := hi
  obtain ⟨at_j, ho, least_j⟩ := hj
  have := least_i j o at_j ho
  have := least_j i r at_i hr
  omega

theorem IsLowest.congr {q q' : FaultRecord → Prop} {records : List FaultRecord} (same : ∀ r ∈ records, q r ↔ q' r) {i : Nat}
    {r : FaultRecord} (h : IsLowest q records i r) : IsLowest q' records i r := by
  obtain ⟨at_i, hr, least⟩ := h
  exact ⟨at_i, (same r (List.mem_of_getElem? at_i)).1 hr,
    fun j o at_j ho => least j o at_j ((same o (List.mem_of_getElem? at_j)).2 ho)⟩

/-- What the search for the lowest has found after some of the records: the severity and the index of the lowest, or nothing. -/
def Found (among : FaultRecord → Prop) (records : List FaultRecord) : Option (Nat × Nat) → Prop
  | none => ∀ r ∈ records, ¬among r
  | some (severity, i) => ∃ r, IsLowest among records i r ∧ r.severity = severity

/-- One more record in the search for the lowest. -/
def searchOn (q : FaultRecord → Bool) (best : Option (Nat × Nat)) (r : FaultRecord × Nat) : Option (Nat × Nat) :=
  if q r.1 then
    match best with
    | none => some (r.1.severity, r.2)
    | some (severity, i) => if r.1.severity < severity then some (r.1.severity, r.2) else some (severity, i)
  else best

theorem lowest_eq_foldl (q : FaultRecord → Bool) (records : List FaultRecord) :
    lowest q records = (records.zipIdx.foldl (searchOn q) none).map (·.2) := rfl

theorem getElem?_concat_eq_some {α : Type} {l : List α} {x y : α} {j : Nat} :
    (l ++ [x])[j]? = some y ↔ l[j]? = some y ∨ (j = l.length ∧ x = y) := by
  rcases Nat.lt_trichotomy j l.length with before | rfl | beyond
  · rw [List.getElem?_append_left before]
    simp [before.ne]
  · simp
  · simp [List.getElem?_eq_none_iff.2 (show (l ++ [x]).length ≤ j by simpa using beyond), beyond.le, beyond.ne']

/-- The lowest stays the lowest beside a new record that is not lower. -/
theorem IsLowest.concat {among : FaultRecord → Prop} {records : List FaultRecord} {i : Nat} {r x : FaultRecord}
    (h : IsLowest among records i r) (not_lower : among x → r.severity ≤ x.severity) : IsLowest among (records ++ [x]) i r := by
  obtain ⟨at_i, hr, least⟩ := h
  have inside : i < records.length := (List.getElem?_eq_some_iff.1 at_i).1
  refine ⟨getElem?_concat_eq_some.2 (.inl at_i), hr, fun j o at_j ho => ?_⟩
  rcases getElem?_concat_eq_some.1 at_j with at_j | ⟨rfl, rfl⟩
  · exact least j o at_j ho
  · have := not_lower ho
    omega

/-- A new record that is lower than all the others is the lowest. -/
theorem isLowest_concat_self {among : FaultRecord → Prop} {records : List FaultRecord} {x : FaultRecord} (hx : among x)
    (lower : ∀ o ∈ records, among o → x.severity < o.severity) : IsLowest among (records ++ [x]) records.length x := by
  refine ⟨getElem?_concat_eq_some.2 (.inr ⟨rfl, rfl⟩), hx, fun j o at_j ho => ?_⟩
  rcases getElem?_concat_eq_some.1 at_j with at_j | ⟨rfl, rfl⟩
  · exact .inl (lower o (List.mem_of_getElem? at_j) ho)
  · exact .inr ⟨rfl, le_rfl⟩

theorem IsLowest.le {among : FaultRecord → Prop} {records : List FaultRecord} {i : Nat} {r o : FaultRecord}
    (h : IsLowest among records i r) (mem : o ∈ records) (ho : among o) : r.severity ≤ o.severity := by
  obtain ⟨j, at_j⟩ := List.mem_iff_getElem?.1 mem
  obtain ⟨-, -, least⟩ := h
  have := least j o at_j ho
  omega

theorem found_searchOn {q : FaultRecord → Bool} {records : List FaultRecord} {best : Option (Nat × Nat)}
    (h : Found (q · = true) records best) (x : FaultRecord) :
    Found (q · = true) (records ++ [x]) (searchOn q best (x, records.length)) := by
  by_cases hx : q x = true
  case neg =>
    rw [show searchOn q best (x, records.length) = best from if_neg hx]
    rcases best with - | ⟨severity, i⟩
    · intro r hr
      rcases List.mem_append.1 hr with hr | hr
      · exact h r hr
      · rwa [List.mem_singleton.1 hr]
    · obtain ⟨r, lowest, same⟩ := h
      exact ⟨r, lowest.concat fun hq => absurd hq hx, same⟩
  case pos =>
    rcases best with - | ⟨severity, i⟩
    · simp only [searchOn, if_pos hx]
      exact ⟨x, isLowest_concat_self hx fun o ho hq => absurd hq (h o ho), rfl⟩
    · obtain ⟨r, lowest, same⟩ := h
      by_cases lower : x.severity < severity
      · simp only [searchOn, if_pos hx, if_pos lower]
        exact ⟨x, isLowest_concat_self hx fun o ho hq => by have := lowest.le ho hq; omega, rfl⟩
      · simp only [searchOn, if_pos hx, if_neg lower]
        exact ⟨r, lowest.concat fun _ => by omega, same⟩

theorem found_foldl (q : FaultRecord → Bool) (records : List FaultRecord) :
    Found (q · = true) records (records.zipIdx.foldl (searchOn q) none) := by
  induction records using List.reverseRecOn with
  | nil => simp [Found]
  | append_singleton records x ih =>
    rw [List.zipIdx_append, List.foldl_append]
    simpa using found_searchOn ih x

theorem lowest_eq_some_iff {q : FaultRecord → Bool} {records : List FaultRecord} {i : Nat} :
    lowest q records = some i ↔ ∃ r, IsLowest (q · = true) records i r := by
  have found := found_foldl q records
  rw [lowest_eq_foldl]
  generalize records.zipIdx.foldl (searchOn q) none = best at found
  rcases best with - | ⟨severity, k⟩
  · refine iff_of_false nofun ?_
    rintro ⟨r, at_i, hr, -⟩
    exact found r (List.mem_of_getElem? at_i) hr
  · obtain ⟨o, lowest, -⟩ := found
    refine ⟨fun e => ?_, fun ⟨r, hr⟩ => ?_⟩
    · cases e
      exact ⟨o, lowest⟩
    · exact congrArg some (lowest.unique hr)

theorem lowest_eq_none {q : FaultRecord → Bool} {records : List FaultRecord} (h : lowest q records = none) :
    ∀ r ∈ records, ¬q r = true := by
  have found := found_foldl q records
  rw [lowest_eq_foldl, Option.map_eq_none_iff] at h
  rwa [h] at found

/-- The lowest of the records below a severity is the lowest of all, if that is below it. -/
theorem isLowest_below_iff {severity : Nat} {records : List FaultRecord} {i : Nat} {r : FaultRecord} :
    IsLowest (·.severity < severity) records i r ↔ r.severity < severity ∧ IsLowest (fun _ => True) records i r := by
  constructor
  · rintro ⟨at_i, below, least⟩
    refine ⟨below, at_i, trivial, fun j o at_j _ => ?_⟩
    by_cases o_below : o.severity < severity
    · exact least j o at_j o_below
    · omega
  · rintro ⟨below, at_i, -, least⟩
    exact ⟨at_i, below, fun j o at_j _ => least j o at_j trivial⟩

/-- Record `r` at `i` leaves a full memory for a raise of the severity (R142). -/
def Leaves (severity : Nat) (records : List FaultRecord) (i : Nat) (r : FaultRecord) : Prop :=
  IsLowest (fun o => o.active = false) records i r
    ∨ ((∀ o ∈ records, o.active = true) ∧ r.severity < severity ∧ IsLowest (fun _ => True) records i r)

theorem Leaves.getElem? {severity : Nat} {records : List FaultRecord} {i : Nat} {r : FaultRecord}
    (h : Leaves severity records i r) : records[i]? = some r := by
  rcases h with ⟨at_i, -⟩ | ⟨-, -, at_i, -⟩ <;> exact at_i

theorem dropRecord_eq {i : Nat} {r : FaultRecord} {p : Persistent} (at_i : p.records[i]? = some r) :
    dropRecord i p = { p with records := p.records.eraseIdx i, slots := emptySlot r.slot p.slots } := by
  simp only [dropRecord, at_i, Option.bind_some]

theorem displaced_eq_some_iff {severity : Nat} {records : List FaultRecord} {i : Nat} :
    displaced severity records = some i ↔ ∃ r, Leaves severity records i r := by
  cases passive : lowest (fun r => !r.active) records with
  | some k =>
    obtain ⟨o, lowest⟩ := lowest_eq_some_iff.1 passive
    have o_passive : o.active = false := by simpa using lowest.2.1
    have choice : displaced severity records = some k := by simp only [displaced, passive]
    rw [choice, ← passive, lowest_eq_some_iff]
    refine exists_congr fun r => ⟨fun h => .inl (h.congr fun _ _ => by simp), ?_⟩
    rintro (h | ⟨all_active, -⟩)
    · exact h.congr fun _ _ => by simp
    · simp [all_active o (List.mem_of_getElem? lowest.1)] at o_passive
  | none =>
    have all_active : ∀ r ∈ records, r.active = true := fun r hr => by simpa using lowest_eq_none passive r hr
    have choice : displaced severity records = lowest (fun r => r.active && decide (r.severity < severity)) records := by
      simp only [displaced, passive]
    rw [choice, lowest_eq_some_iff]
    have below : ∀ o ∈ records, (o.active && decide (o.severity < severity)) = true ↔ o.severity < severity := by
      intro o ho
      simp [all_active o ho]
    refine exists_congr fun r => ⟨fun h => .inr ⟨all_active, isLowest_below_iff.1 (h.congr below)⟩, ?_⟩
    rintro (⟨at_i, r_passive, -⟩ | ⟨-, h⟩)
    · simp [all_active r (List.mem_of_getElem? at_i)] at r_passive
    · exact (isLowest_below_iff.2 h).congr fun o ho => (below o ho).symm

/-! ### The slot of a capture -/

theorem findIdx_eq_find? {n : Nat} {α : Type} (q : Fin n → α → Bool) (t : Tab n α) :
    t.findIdx q = (List.finRange n).find? fun i => q i (t.get i) := by
  have rows : t.rows = (List.finRange n).map fun i => (i, t.get i) := by
    refine List.ext_getElem (by simp [Tab.rows, t.ok]) fun i _ _ => ?_
    simp [Tab.rows, Tab.get]
  simp only [Tab.findIdx, rows, List.find?_map, Option.map_map]
  exact Option.map_id'

theorem findIdx_eq_some {n : Nat} {α : Type} {q : Fin n → α → Bool} {t : Tab n α} {k : Fin n} (h : t.findIdx q = some k) :
    q k (t.get k) = true ∧ ∀ j, j < k → q j (t.get j) = false := by
  rw [findIdx_eq_find?, List.find?_eq_some_iff_getElem] at h
  obtain ⟨hk, i, inside, at_i, before⟩ := h
  rw [List.getElem_finRange] at at_i
  subst at_i
  refine ⟨hk, fun j hj => ?_⟩
  simpa using before j.val hj

theorem findIdx_eq_none {n : Nat} {α : Type} {q : Fin n → α → Bool} {t : Tab n α} (h : t.findIdx q = none) (k : Fin n) :
    q k (t.get k) = false := by
  rw [findIdx_eq_find?, List.find?_eq_none] at h
  simpa using h k (List.mem_finRange k)

/-- A fold that keeps the lesser ends with the least. -/
theorem foldl_least {α : Type} (f : α → Nat) (l : List α) (start : α) :
    let least := l.foldl (fun best k => if f k < f best then k else best) start
    f least ≤ f start ∧ ∀ k ∈ l, f least ≤ f k := by
  induction l generalizing start with
  | nil => exact ⟨le_rfl, nofun⟩
  | cons x l ih =>
    obtain ⟨le_next, le_rest⟩ := ih (if f x < f start then x else start)
    simp only [List.foldl_cons, List.forall_mem_cons]
    have next : f (if f x < f start then x else start) ≤ f start ∧ f (if f x < f start then x else start) ≤ f x := by
      split <;> omega
    exact ⟨le_next.trans next.1, le_next.trans next.2, le_rest⟩

/-- The capture number in a slot. -/
def slotNumber (slots : Tab 8 (Option Snapshot)) (k : Fin 8) : Nat :=
  match slots.get k with
  | some x => x.number
  | none => 0

theorem captureSlot_of_filled {slots : Tab 8 (Option Snapshot)} (filled : (slots.findIdx fun _ x => x.isNone) = none) :
    captureSlot slots = (List.finRange 8).foldl (fun best k => if slotNumber slots k < slotNumber slots best then k else best) 0 := by
  simp only [captureSlot, filled]
  rfl

/-- The slot of a capture is the lowest-numbered empty one, else one of the smallest capture number (R148). -/
theorem captureSlot_spec (slots : Tab 8 (Option Snapshot)) :
    (slots.get (captureSlot slots) = none ∧ ∀ j, j < captureSlot slots → slots.get j ≠ none)
      ∨ ((∀ j, slots.get j ≠ none)
        ∧ ∀ j x y, slots.get (captureSlot slots) = some x → slots.get j = some y → x.number ≤ y.number) := by
  cases search : slots.findIdx fun _ x => x.isNone with
  | some k =>
    have choice : captureSlot slots = k := by simp only [captureSlot, search]
    obtain ⟨empty, before⟩ := findIdx_eq_some search
    rw [choice]
    exact .inl ⟨Option.isNone_iff_eq_none.1 empty, fun j hj e => by simpa [e] using before j hj⟩
  | none =>
    refine .inr ⟨fun j e => by simpa [e] using findIdx_eq_none search j, fun j x y at_k at_j => ?_⟩
    have least := (foldl_least (slotNumber slots) (List.finRange 8) 0).2 j (List.mem_finRange j)
    rw [← captureSlot_of_filled search] at least
    simpa only [slotNumber, at_k, at_j] using least

/-! ### New records -/

/-- The numbers below `n`, counted slot by slot. -/
theorem length_filter_numbers (l : List (Option Snapshot)) (n : Nat) :
    ((l.filterMap fun x => x.map (·.number)).filter (· < n)).length
      = (l.filter fun o => o.any fun y => decide (y.number < n)).length := by
  induction l with
  | nil => rfl
  | cons o l ih =>
    cases o with
    | none => simpa using ih
    | some y => by_cases below : y.number < n <;> simp [below, ih]

theorem renumber_get (slots : Tab 8 (Option Snapshot)) (j : Fin 8) :
    (renumber slots).get j = (slots.get j).map fun x =>
      { x with number := (slots.list.filter fun o => o.any fun y => decide (y.number < x.number)).length } := by
  simp only [renumber, Tab.get_map, length_filter_numbers]

section
variable (code : Nat) (source : FaultSource) (severity : Nat) {list : List (Fin 256)} (eff : Fin 256 → Effective) (p : Persistent)

theorem createRecord_nil :
    createRecord code source severity [] eff p =
      { p with records := p.records ++ [⟨code, source, severity, true, 1, p.seconds, p.seconds, 0, true, none⟩] } := rfl

theorem createRecord_capture (captures : list ≠ []) :
    let k := captureSlot p.slots
    let slots := p.slots.set k (some ⟨code, source, p.captures, p.seconds, list.map fun i => (i, eff i)⟩)
    createRecord code source severity list eff p = { p with
      records := (p.records.map fun r => if r.slot = some k then { r with slot := none } else r)
        ++ [⟨code, source, severity, true, 1, p.seconds, p.seconds, 0, true, some k⟩]
      slots := if 4294967295 ≤ p.captures then renumber slots else slots
      captures := if 4294967295 ≤ p.captures then (slots.list.filter (·.isSome)).length else p.captures + 1 } := by
  intro k slots
  rw [createRecord, if_neg (by simpa using captures)]
  by_cases atEnd : 4294967295 ≤ p.captures <;> simp [Config.max32, atEnd, k, slots]

end

/-! ### The start -/

/-- The start where none of the attributes has a fault: the restored items with every record PASSIVE, then the reports held, in order. -/
theorem startFaults_of_no_fault {s : State} (noFault : ∀ t, (s.running.attrs.get t).fault = none) (items : Persistent) (changed : Bool)
    (u : FaultUnit) (out : List Notice) :
    startFaults items changed s ⟨u, out⟩ = u.held.foldl (fun a r => takeReport r s a)
      (edit (fun p => { p with records := p.records.map fun r => { r with active := false } })
        (handCount u.items ⟨⟨items, changed, true, [], Tab.replicate 16 none⟩, out⟩)) := by
  have unchecked : ∀ b : Acc FaultUnit, (b.each 16 fun t a => checkAttribute t s a) = b := fun b =>
    List.foldlRecOn (motive := fun c => c = b) _ _ rfl fun c hc t _ => (checkAttribute_no_fault c (noFault t)).trans hc
  exact unchecked _

/-! ### The obligation -/

/-- Settles O50: the cases of a raise by its equations, what is held and started by those of the reports. -/
theorem raiseIsReoccurrence : Obligations.RaiseIsReoccurrence := by
  refine ⟨fun code source severity list eff p => ?items, fun r s notStarted => handle_held r notStarted,
    fun items changed s u out noFault => ?start, fun code source severity s started => ?taken⟩
  case items =>
    intro known p' record
    refine ⟨fun hk => ?reoccurs, fun unknown room => ?created, fun unknown full => ?displaces⟩
    case reoccurs =>
      have frame : p' = _ := raiseItem_known severity list eff hk
      refine ⟨by rw [frame]; exact List.length_map _, congrArg (·.slots) frame, congrArg (·.captures) frame,
        congrArg (·.overflow) frame, congrArg (·.attrValues) frame, congrArg (·.seconds) frame,
        fun i r at_i => ⟨fun hcode hsource bound => ?_, fun other => ?_⟩⟩
      · rw [raiseItem_known_record severity list eff hk at_i, if_pos ⟨hcode, hsource⟩]
        simp only [FaultRecord.again, satSucc_eq_min bound, hcode, hsource]
      · rw [raiseItem_known_record severity list eff hk at_i, if_neg (not_and_or.2 other)]
    case created =>
      have created : p' = createRecord code source severity list eff p := raiseItem_new severity list eff unknown room
      rw [created]
      refine ⟨fun h => by rw [h]; rfl, fun captures => ⟨captureSlot p.slots, ?_⟩⟩
      rw [createRecord_capture code source severity eff p captures]
      refine ⟨captureSlot_spec p.slots, rfl, rfl, fun goesOn => ?_, fun atEnd => ?_⟩
      · simp [not_le.2 goesOn]
      · simp [atEnd, renumber_get]
    case displaces =>
      intro first leaves
      refine ⟨fun i r h => ?_, fun stay => ?_⟩
      · have at_i : p.records[i]? = some r := Leaves.getElem? h
        have drops : p' = createRecord code source severity list eff (dropRecord i p) :=
          raiseItem_displaces severity list eff unknown full (displaced_eq_some_iff.2 ⟨r, h⟩)
        rw [drops, ← raiseItem_dropRecord_eq_createRecord severity list eff unknown full (List.getElem?_eq_some_iff.1 at_i).1,
          dropRecord_eq at_i]
        rfl
      · refine raiseItem_overflows severity list eff unknown full (Option.eq_none_iff_forall_ne_some.2 fun i displaces => ?_)
        obtain ⟨r, h⟩ := displaced_eq_some_iff.1 displaces
        exact stay i r h
  case start =>
    intro began passive
    simp only [began, startFaults_of_no_fault noFault]
    refine ⟨?_, fun held r => List.foldl_concat ..⟩
    simp [edit_eq, passive]
  case taken =>
    intro items now
    rw [handle_raise started, runFaults_edit]
    rfl

end Sys2Proof.Machine
end

section
/-! PROOFS. WearProofs: clears, heal passes and wear events at the Fault Unit (R143, R144, R152). A wear event is a pass over the
attributes in which each turn touches its own row alone; what it does to a row, and which faults it raises, follows from what one
turn does. -/

namespace Sys2Proof.Machine

/-! ### Clears -/

theorem clearItem_record (code : Nat) (source : FaultSource) (p : Persistent) (i : Nat) :
    (clearItem code source p).records[i]? =
      p.records[i]?.map fun r => if r.code = code ∧ r.source = source then { r with active := false } else r := by
  simp [clearItem]

theorem clearItem_of_no_match {code : Nat} {source : FaultSource} {p : Persistent}
    (none_matches : ∀ r ∈ p.records, r.code ≠ code ∨ r.source ≠ source) : clearItem code source p = p := by
  have same : p.records.map (fun r => if r.isFor code source then { r with active := false } else r) = p.records := by
    refine (List.map_congr_left fun r hr => if_neg ?_).trans (List.map_id _)
    rw [isFor_eq_true]
    exact not_and_or.2 (none_matches r hr)
  simp only [clearItem, same]

/-! ### Heal passes -/

/-- The records that a heal pass ages: PASSIVE and not raised this cycle (R144). -/
abbrev FaultRecord.Ages (r : FaultRecord) : Prop := r.active = false ∧ r.raisedThisCycle = false

theorem healRecord_of_ages (limit : Nat) {r : FaultRecord} (h : r.Ages) :
    healRecord limit r = if r.heal + 1 < limit then some { r with heal := r.heal + 1 } else none := by
  obtain ⟨passive, notRaised⟩ := h
  simp only [healRecord, passive, notRaised, Bool.not_false, Bool.and_self, if_true]
  split_ifs <;> first | rfl | omega

theorem healRecord_of_not_ages (limit : Nat) {r : FaultRecord} (h : ¬r.Ages) :
    healRecord limit r = some { r with raisedThisCycle := false } := by
  have spared : (!r.active && !r.raisedThisCycle) = false := by
    simpa [FaultRecord.Ages] using h
  simp [healRecord, spared]

theorem healRecord_eq_none {limit : Nat} {r : FaultRecord} : healRecord limit r = none ↔ r.Ages ∧ limit ≤ r.heal + 1 := by
  by_cases h : r.Ages
  · rw [healRecord_of_ages limit h, and_iff_right h]
    simp
  · simp [healRecord_of_not_ages limit h, h]

theorem emptySlot_get (o : Option (Fin 8)) (slots : Tab 8 (Option Snapshot)) (k : Fin 8) :
    (emptySlot o slots).get k = if o = some k then none else slots.get k := by
  cases o with
  | none => simp [emptySlot]
  | some j => simp [emptySlot, Tab.get_set, eq_comm]

/-- Emptying the slots of several records leaves those that none of them names. -/
theorem foldl_emptySlot_get (gone : List FaultRecord) (slots : Tab 8 (Option Snapshot)) (k : Fin 8) :
    (gone.foldl (fun slots r => emptySlot r.slot slots) slots).get k =
      if ∃ r ∈ gone, r.slot = some k then none else slots.get k := by
  induction gone generalizing slots with
  | nil => simp
  | cons r gone ih =>
    rw [List.foldl_cons, ih, emptySlot_get]
    by_cases named : r.slot = some k <;> simp [named]

theorem healItems_slot (limit : Nat) (p : Persistent) (k : Fin 8) :
    (healItems limit p).slots.get k =
      if ∃ r ∈ p.records, (r.Ages ∧ limit ≤ r.heal + 1) ∧ r.slot = some k then none else p.slots.get k := by
  simp only [healItems, foldl_emptySlot_get, List.mem_filter, Option.isNone_iff_eq_none, healRecord_eq_none, and_assoc]

/-! ### Passes in which each turn touches its own row -/

/-- Row by row, a pass does what one turn does to its row: once where the pass comes to the row, not at all elsewhere. -/
theorem foldl_row {β ι γ : Type} [DecidableEq ι] {look : β → ι → γ} {turn : β → ι → β} {g : ι → γ → γ}
    (own : ∀ a i, look (turn a i) i = g i (look a i)) (other : ∀ a {i j}, j ≠ i → look (turn a i) j = look a j)
    {l : List ι} (nodup : l.Nodup) (a : β) (j : ι) :
    look (l.foldl turn a) j = if j ∈ l then g j (look a j) else look a j := by
  induction l generalizing a with
  | nil => simp
  | cons i l ih =>
    obtain ⟨notIn, nodup⟩ := List.nodup_cons.1 nodup
    rw [List.foldl_cons, ih nodup]
    by_cases here : j = i
    · subst here
      simp [notIn, own]
    · simp [here, other a here]

/-! ### What a raise leaves alone -/

theorem createRecord_frame (code : Nat) (source : FaultSource) (severity : Nat) (list : List (Fin 256))
    (eff : Fin 256 → Effective) (p : Persistent) :
    (createRecord code source severity list eff p).attrValues = p.attrValues
      ∧ (createRecord code source severity list eff p).seconds = p.seconds := by
  unfold createRecord
  split <;> exact ⟨rfl, rfl⟩

theorem raiseItem_frame (code : Nat) (source : FaultSource) (severity : Nat) (list : List (Fin 256))
    (eff : Fin 256 → Effective) (p : Persistent) :
    (raiseItem code source severity list eff p).attrValues = p.attrValues
      ∧ (raiseItem code source severity list eff p).seconds = p.seconds := by
  unfold raiseItem
  split
  case isTrue known => exact ⟨rfl, rfl⟩
  case isFalse unknown =>
    split
    case isTrue room => exact createRecord_frame ..
    case isFalse full =>
      split
      · exact createRecord_frame code source severity list eff (dropRecord _ p)
      · exact ⟨rfl, rfl⟩

/-! ### One turn at a wear event -/

/-- Counts the wear event: in use, of its kind, its source the event's or ANY (R152). -/
abbrev AttrConfig.Counts (cfg : AttrConfig) (kind : WearKind) (index : Nat) : Prop :=
  cfg.inUse = true ∧ cfg.kind = kind ∧ (cfg.source = none ∨ cfg.source = some index)

/-- A value at or above the threshold with the reported flag clear: the fault is due (R152). -/
abbrev AttrConfig.Due (cfg : AttrConfig) (reported : Option Nat) (value : Nat) : Prop :=
  reported = none ∧ cfg.threshold ≠ 0 ∧ cfg.threshold ≤ value

/-- What the raise of the fault of row `t` does to the items. -/
def raiseAttr (s : State) (t : Fin 16) (p : Persistent) : Persistent :=
  match (s.running.attrs.get t).fault with
  | some f => raiseItem f.code (.attr t) f.severity s.running.snapshotList s.eff p
  | none => p

theorem raiseAttr_frame (s : State) (t : Fin 16) (p : Persistent) :
    (raiseAttr s t p).attrValues = p.attrValues ∧ (raiseAttr s t p).seconds = p.seconds := by
  unfold raiseAttr
  split
  · exact raiseItem_frame ..
  · exact ⟨rfl, rfl⟩

theorem raiseAttr_attrValues (s : State) (t : Fin 16) (p : Persistent) (v : Tab 16 Nat) :
    raiseAttr s t { p with attrValues := v } = { raiseAttr s t p with attrValues := v } := by
  unfold raiseAttr
  split
  · exact raiseItem_attrValues ..
  · rfl

/-- Row `t` sets its reported flag and raises its fault. -/
def reportAttr (s : State) (t : Fin 16) (f : FaultCode) (a : Acc FaultUnit) : Acc FaultUnit :=
  edit (raiseAttr s t) (a.upd fun u => { u with attrReported := u.attrReported.set t (some f.code) })

/-- The check of a row in use: its fault is reported where it is due, and nothing happens elsewhere. -/
theorem checkAttribute_of_inUse {s : State} {t : Fin 16} (a : Acc FaultUnit) (inUse : (s.running.attrs.get t).inUse = true) :
    checkAttribute t s a = match (s.running.attrs.get t).fault with
      | some f => if (s.running.attrs.get t).Due (a.st.attrReported.get t) (a.st.items.attrValues.get t) then
          reportAttr s t f a else a
      | none => a := by
  cases fault : (s.running.attrs.get t).fault with
  | none => exact checkAttribute_no_fault a fault
  | some f =>
    have raises : raiseAttr s t = raiseItem f.code (.attr t) f.severity s.running.snapshotList s.eff := by
      funext p
      simp only [raiseAttr, fault]
    cases reported : a.st.attrReported.get t <;>
      simp [checkAttribute, takeRaise, reportAttr, raises, AttrConfig.Due, fault, reported, inUse]

/-- The turn of row `t` at a wear event. -/
def wearTurn (kind : WearKind) (index : Nat) (s : State) (a : Acc FaultUnit) (t : Fin 16) : Acc FaultUnit :=
  let cfg := s.running.attrs.get t
  if cfg.inUse && cfg.kind == kind && (cfg.source == none || cfg.source == some index) then
    checkAttribute t s (setAttribute t (satSucc Config.max32 (a.st.items.attrValues.get t)) a)
  else a

theorem takeWear_eq_foldl (kind : WearKind) (index : Nat) (s : State) (a : Acc FaultUnit) :
    takeWear kind index s a = (List.finRange 16).foldl (wearTurn kind index s) a := rfl

/-- All that a turn can do: nothing, where the row does not count the event; else it counts, and reports its fault where it has one
that is then due. -/
theorem wearTurn_cases (kind : WearKind) (index : Nat) (s : State) (a : Acc FaultUnit) (t : Fin 16) :
    let cfg := s.running.attrs.get t
    let value := satSucc Config.max32 (a.st.items.attrValues.get t)
    let due := cfg.Due (a.st.attrReported.get t) value
    (¬cfg.Counts kind index ∧ wearTurn kind index s a t = a)
      ∨ (cfg.Counts kind index ∧ (cfg.fault = none ∨ ¬due) ∧ wearTurn kind index s a t = setAttribute t value a)
      ∨ (cfg.Counts kind index ∧ due ∧ ∃ f, cfg.fault = some f
          ∧ wearTurn kind index s a t = reportAttr s t f (setAttribute t value a)) := by
  intro cfg value due
  by_cases counts : cfg.Counts kind index
  case neg =>
    refine .inl ⟨counts, if_neg ?_⟩
    simpa [cfg, and_assoc] using counts
  case pos =>
    have turn : wearTurn kind index s a t = checkAttribute t s (setAttribute t value a) := by
      refine if_pos ?_
      simpa [cfg, and_assoc] using counts
    have set_reported : (setAttribute t value a).st.attrReported = a.st.attrReported := by simp [setAttribute, edit_eq]
    have set_value : (setAttribute t value a).st.items.attrValues.get t = value := by simp [setAttribute]
    rw [turn, checkAttribute_of_inUse _ counts.1, set_reported, set_value]
    rcases fault : cfg.fault with - | f
    · exact .inr (.inl ⟨counts, .inl rfl, rfl⟩)
    · by_cases isDue : due
      · exact .inr (.inr ⟨counts, isDue, f, rfl, if_pos isDue⟩)
      · exact .inr (.inl ⟨counts, .inr isDue, if_neg isDue⟩)

/-! ### What a turn does to the rows -/

/-- Row `t` of the attributes at the Fault Unit: its value and its reported flag. -/
def attrRow (a : Acc FaultUnit) (t : Fin 16) : Nat × Option Nat := (a.st.items.attrValues.get t, a.st.attrReported.get t)

/-- What a wear event makes of a row (R152). -/
def wornRow (kind : WearKind) (index : Nat) (s : State) (t : Fin 16) (row : Nat × Option Nat) : Nat × Option Nat :=
  let cfg := s.running.attrs.get t
  let value := satSucc Config.max32 row.1
  if cfg.Counts kind index then (value, if cfg.Due row.2 value then cfg.fault.map (·.code) else row.2) else row

theorem attrRow_setAttribute (t : Fin 16) (v : Nat) (a : Acc FaultUnit) (j : Fin 16) :
    attrRow (setAttribute t v a) j = if j = t then (v, (attrRow a t).2) else attrRow a j := by
  by_cases here : j = t
  · subst here
    simp [attrRow, setAttribute, edit_eq]
  · simp [attrRow, setAttribute, edit_eq, Tab.get_set, here]

theorem attrRow_reportAttr (s : State) (t : Fin 16) (f : FaultCode) (a : Acc FaultUnit) (j : Fin 16) :
    attrRow (reportAttr s t f a) j = if j = t then ((attrRow a t).1, some f.code) else attrRow a j := by
  by_cases here : j = t
  · subst here
    simp [attrRow, reportAttr, edit_eq, raiseAttr_frame]
  · simp [attrRow, reportAttr, edit_eq, raiseAttr_frame, Tab.get_set, here]

/-- A turn at a wear event makes the worn row of its own, and leaves every other. -/
theorem attrRow_wearTurn (kind : WearKind) (index : Nat) (s : State) (a : Acc FaultUnit) (t j : Fin 16) :
    attrRow (wearTurn kind index s a t) j = if j = t then wornRow kind index s t (attrRow a t) else attrRow a j := by
  rcases wearTurn_cases kind index s a t with ⟨uncounted, turn⟩ | ⟨counts, silent, turn⟩ | ⟨counts, due, f, fault, turn⟩
  · rw [turn, wornRow, if_neg uncounted]
    split <;> simp [*]
  · have flag : wornRow kind index s t (attrRow a t) = (satSucc Config.max32 (attrRow a t).1, (attrRow a t).2) := by
      rw [wornRow, if_pos counts]
      rcases silent with absent | notDue
      · by_cases due : (s.running.attrs.get t).Due (attrRow a t).2 (satSucc Config.max32 (attrRow a t).1)
        · rw [if_pos due, absent, due.1]
          rfl
        · rw [if_neg due]
      · exact congrArg _ (if_neg notDue)
    rw [turn, attrRow_setAttribute, flag]
    rfl
  · have flag : wornRow kind index s t (attrRow a t) = (satSucc Config.max32 (attrRow a t).1, some f.code) := by
      rw [wornRow, if_pos counts, fault]
      exact congrArg _ (if_pos due)
    rw [turn, attrRow_reportAttr, attrRow_setAttribute, attrRow_setAttribute, flag]
    split <;> simp [attrRow]

theorem attrRow_foldl_wearTurn (kind : WearKind) (index : Nat) (s : State) {l : List (Fin 16)} (nodup : l.Nodup)
    (a : Acc FaultUnit) (t : Fin 16) :
    attrRow (l.foldl (wearTurn kind index s) a) t = if t ∈ l then wornRow kind index s t (attrRow a t) else attrRow a t :=
  foldl_row (fun a i => by rw [attrRow_wearTurn, if_pos rfl]) (fun a _ _ other => by rw [attrRow_wearTurn, if_neg other]) nodup a t

/-- A wear event makes the worn row of each of the attributes. -/
theorem attrRow_takeWear (kind : WearKind) (index : Nat) (s : State) (a : Acc FaultUnit) (t : Fin 16) :
    attrRow (takeWear kind index s a) t = wornRow kind index s t (attrRow a t) := by
  rw [takeWear_eq_foldl, attrRow_foldl_wearTurn kind index s (List.nodup_finRange 16), if_pos (List.mem_finRange t)]

/-! ### The raises of a wear event -/

/-- The reported flag of row `t` is set in `b` and was not in `a`. -/
abbrev FlagSet (a b : Acc FaultUnit) (t : Fin 16) : Prop := a.st.attrReported.get t = none ∧ b.st.attrReported.get t ≠ none

/-- But for the values, a turn does to the items what the raise of its fault does, where the turn sets the flag. -/
theorem wearTurn_items (kind : WearKind) (index : Nat) (s : State) (a : Acc FaultUnit) (t : Fin 16) (v : Tab 16 Nat) :
    { (wearTurn kind index s a t).st.items with attrValues := v } =
      if FlagSet a (wearTurn kind index s a t) t then raiseAttr s t { a.st.items with attrValues := v }
      else { a.st.items with attrValues := v } := by
  rcases wearTurn_cases kind index s a t with ⟨-, turn⟩ | ⟨-, -, turn⟩ | ⟨-, due, f, -, turn⟩
  · simp [turn, FlagSet]
  · simp [turn, FlagSet, setAttribute, edit_eq]
  · have flag : FlagSet a (reportAttr s t f (setAttribute t (satSucc Config.max32 (a.st.items.attrValues.get t)) a)) t :=
      ⟨due.1, by simp [reportAttr, edit_eq]⟩
    rw [turn, if_pos flag]
    simp [reportAttr, setAttribute, edit_eq, raiseAttr_attrValues]

/-- The items after the turns of a list of attributes are what the raises of those whose flag was set leave of the items with the
new values. -/
theorem foldl_wearTurn_items (kind : WearKind) (index : Nat) (s : State) {l : List (Fin 16)} (nodup : l.Nodup) (a : Acc FaultUnit) :
    let b := l.foldl (wearTurn kind index s) a
    b.st.items = (l.filter fun t => FlagSet a b t).foldl (fun p t => raiseAttr s t p)
      { a.st.items with attrValues := b.st.items.attrValues } := by
  induction l generalizing a with
  | nil => rfl
  | cons t l ih =>
    obtain ⟨notIn, nodup⟩ := List.nodup_cons.1 nodup
    intro b
    let c := wearTurn kind index s a t
    have others : l.filter (fun j => FlagSet c b j) = l.filter fun j => FlagSet a b j := by
      refine List.filter_congr fun j hj => ?_
      have row : attrRow c j = attrRow a j := by
        rw [attrRow_wearTurn, if_neg fun e : j = t => notIn (e ▸ hj)]
      simp only [FlagSet, show c.st.attrReported.get j = a.st.attrReported.get j from congrArg Prod.snd row]
    have own : FlagSet a b t ↔ FlagSet a c t := by
      have row : attrRow b t = attrRow c t := (attrRow_foldl_wearTurn kind index s nodup c t).trans (if_neg notIn)
      simp only [FlagSet, show b.st.attrReported.get t = c.st.attrReported.get t from congrArg Prod.snd row]
    have rest : b.st.items = (l.filter fun j => FlagSet c b j).foldl (fun p t => raiseAttr s t p)
        { c.st.items with attrValues := b.st.items.attrValues } := ih nodup c
    rw [others, wearTurn_items] at rest
    by_cases flag : FlagSet a c t
    · rw [List.filter_cons_of_pos (by simpa using own.2 flag), List.foldl_cons]
      rwa [if_pos flag] at rest
    · rw [List.filter_cons_of_neg (by simpa using mt own.1 flag)]
      rwa [if_neg flag] at rest

/-! ### What a wear event keeps -/

/-- A wear event is made of edits of the items and of changes of the reported flags: what these keep, it keeps. -/
theorem takeWear_keeps {P : Acc FaultUnit → Prop} (edits : ∀ f a, P a → P (edit f a))
    (flags : ∀ r a, P a → P (a.upd fun u => { u with attrReported := r })) (kind : WearKind) (index : Nat) (s : State)
    {a : Acc FaultUnit} (h : P a) : P (takeWear kind index s a) := by
  rw [takeWear_eq_foldl]
  refine List.foldlRecOn _ _ h fun b hb t _ => ?_
  rcases wearTurn_cases kind index s b t with ⟨-, turn⟩ | ⟨-, -, turn⟩ | ⟨-, -, f, -, turn⟩ <;> rw [turn]
  · exact hb
  · exact edits _ _ hb
  · exact edits _ _ (flags _ _ (edits _ _ hb))

theorem edit_changed {f : Persistent → Persistent} {a : Acc FaultUnit} {p : Persistent}
    (h : a.st.items ≠ p → a.st.changed = true) (differs : (edit f a).st.items ≠ p) : (edit f a).st.changed = true := by
  simp only [edit_eq, Bool.or_eq_true, bne_iff_ne] at differs ⊢
  by_cases same : a.st.items = p
  · exact .inr fun e => differs (e.trans same)
  · exact .inl (h same)

theorem takeWear_changed (kind : WearKind) (index : Nat) (s : State) (a : Acc FaultUnit)
    (h : a.st.changed = true ∨ (takeWear kind index s a).st.items ≠ a.st.items) :
    (takeWear kind index s a).st.changed = true := by
  refine takeWear_keeps (P := fun b => a.st.changed = true ∨ b.st.items ≠ a.st.items → b.st.changed = true)
    (fun f b hb => ?_) (fun _ _ hb => hb) kind index s (a := a) (fun h => h.resolve_right fun ne => ne rfl) h
  rintro (changed | differs)
  · simp [edit_eq, hb (.inl changed)]
  · exact edit_changed (fun ne => hb (.inr ne)) differs

theorem takeWear_frame (kind : WearKind) (index : Nat) (s : State) (a : Acc FaultUnit) :
    (takeWear kind index s a).st.started = a.st.started ∧ (takeWear kind index s a).st.held = a.st.held := by
  refine takeWear_keeps (P := fun b => b.st.started = a.st.started ∧ b.st.held = a.st.held)
    (fun f b hb => ?_) (fun _ _ hb => hb) kind index s ⟨rfl, rfl⟩
  simpa [edit_eq] using hb

theorem takeWear_seconds (kind : WearKind) (index : Nat) (s : State) (a : Acc FaultUnit) :
    (takeWear kind index s a).st.items.seconds = a.st.items.seconds := by
  rw [takeWear_eq_foldl, foldl_wearTurn_items kind index s (List.nodup_finRange 16)]
  refine List.foldlRecOn (motive := fun p : Persistent => p.seconds = a.st.items.seconds) _ _ rfl fun p hp t _ => ?_
  exact (raiseAttr_frame s t p).2.trans hp

/-- Nothing but counts is handed on (R149). -/
theorem takeWear_out (kind : WearKind) (index : Nat) (s : State) {a : Acc FaultUnit} (silent : a.out = []) :
    ∀ n ∈ (takeWear kind index s a).out, ∃ count overflow, n = .faultCount count overflow := by
  refine takeWear_keeps (P := fun b => ∀ n ∈ b.out, ∃ count overflow, n = .faultCount count overflow)
    (fun f b hb n hn => ?_) (fun _ _ hb => hb) kind index s (by simp [silent])
  rw [edit_eq, List.mem_append] at hn
  rcases hn with hn | hn
  · exact hb n hn
  · split at hn
    · exact ⟨_, _, List.mem_singleton.1 hn⟩
    · exact absurd hn List.not_mem_nil

/-! ### The obligation -/

/-- Settles O51: clears and heal passes record by record and slot by slot, the wear event row by row and by the raises it makes. -/
theorem clearMakesPassive : Obligations.ClearMakesPassive := by
  refine ⟨fun code source p => ?clear, fun limit p => ?heal, fun kind index s a t => ?row, fun kind index s a => ?raises,
    fun s started => ⟨fun code source => ?taken, fun kind index => ⟨handle_wear started kind index, takeWear_out kind index s rfl⟩⟩⟩
  case clear =>
    refine ⟨rfl, by simp [clearItem], fun i r at_i => ⟨fun hcode hsource => ?_, fun stands => ?_⟩, clearItem_of_no_match⟩
    · rw [clearItem_record, at_i, Option.map_some, if_pos ⟨hcode, hsource⟩]
    · rw [clearItem_record, at_i, Option.map_some]
      rcases stands with passive | other
      · simp [← passive]
      · rw [if_neg (not_and_or.2 other)]
  case heal =>
    refine ⟨rfl, List.filterMap_congr fun r _ => ?_, fun k => ⟨fun ⟨r, hr, ages, healed, slot⟩ => ?_, fun keeps => ?_⟩⟩
    · split
      · next ages => exact healRecord_of_ages limit ages
      · next spared => exact healRecord_of_not_ages limit spared
    · rw [healItems_slot, if_pos ⟨r, hr, ⟨ages, healed⟩, slot⟩]
    · rw [healItems_slot, if_neg fun ⟨r, hr, ⟨ages, healed⟩, slot⟩ => keeps r hr ages healed slot]
  case row =>
    intro cfg u value counts bound
    have row := attrRow_takeWear kind index s a t
    refine ⟨fun hc => ?_, fun hc => ?_, takeWear_seconds kind index s a⟩
    · rw [wornRow, if_pos hc] at row
      rw [← satSucc_eq_min bound]
      exact Prod.ext_iff.1 row
    · rw [wornRow, if_neg hc] at row
      exact Prod.ext_iff.1 row
  case raises =>
    intro u raised
    obtain ⟨started, held⟩ := takeWear_frame kind index s a
    refine ⟨⟨(List.finRange 16).filter fun t => FlagSet a (takeWear kind index s a) t,
      (List.nodup_finRange 16).filter _, fun t => ?_, ?_⟩, takeWear_changed kind index s a, started, held⟩
    · rw [List.mem_filter, decide_eq_true_iff]
      exact and_iff_right (List.mem_finRange t)
    · exact foldl_wearTurn_items kind index s (List.nodup_finRange 16) a
  case taken =>
    intro now
    have same_count : (clearItem code source s.faults.items).records.length = s.faults.items.records.length := by
      simp [clearItem]
    have same_overflow : (clearItem code source s.faults.items).overflow = s.faults.items.overflow := rfl
    rw [handle_clear started code source, runFaults_edit, same_count, same_overflow]
    simp [now]

end Sys2Proof.Machine
end

section
/-! PROOFS. StepProofs: what every step can do. A step is put together from operations of single blocks and from four operations on
the whole part: the passing of time, an entry to a mode, a re-initialization and the loads. A property that each of them keeps is kept
by every command and every step. -/

namespace Sys2Proof.Machine

/-! ### Store operations that begin -/

section
variable (s : State)

/-- The beginning of a waiting operation touches the store and the changed flag alone. -/
theorem beginOperation_frame :
    s.beginOperation = { s with
      store := s.beginOperation.store, faults := { s.faults with changed := s.beginOperation.faults.changed } } := by
  unfold State.beginOperation
  split <;> rfl

theorem requestOperation_frame (r : StoreRequest) :
    s.requestOperation r = { s with
      store := (s.requestOperation r).store
      faults := { s.faults with changed := (s.requestOperation r).faults.changed } } := by
  unfold State.requestOperation
  split
  · rfl
  · rw [beginOperation_frame]

theorem savePoint_frame (m : Mode) :
    s.savePoint m = { s with
      store := (s.savePoint m).store, faults := { s.faults with changed := (s.savePoint m).faults.changed } } := by
  unfold State.savePoint
  split
  · exact requestOperation_frame s _
  · rfl

/-- The ignition cycle of an entry to ACTIVE is between the Fault Unit and the mail. -/
theorem beginCycle_frame (m : Mode) :
    s.beginCycle m = { s with faults := (s.beginCycle m).faults, mail := (s.beginCycle m).mail } := by
  unfold State.beginCycle
  split <;> rfl

end

/-- Time passes for the warnings in the shown time of the top entry alone. -/
@[simp] theorem advance_recs (dt : Nat) (s : State) : (s.advance dt).warnings.recs = s.warnings.recs := by
  simp only [State.advance]
  split <;> rfl

@[simp] theorem advanceTo_recs (t : Nat) (s : State) : (s.advanceTo t).warnings.recs = s.warnings.recs := advance_recs _ s

/-- The end of STARTING, the active slot record `named`, the items and the current copy having been read. -/
def State.startOn (named : Fin 4) (items : Persistent) (current fresh : Bool) (s : State) : State :=
  let store := s.store.verified
  let s := { s with store := { store with secondIsCurrent := current } }
  match store.goodImage named, store.goodImage 0 with
  | some image, _ =>
    { s with image := image, control := { s.control with activeSlot := named, fallback := false } }.start items fresh
  | none, some image =>
    let s := { s with
      image := image, control := { s.control with activeSlot := 0, fallback := true }
      store := { s.store with reportedFallback := true } }
    (s.runFaults (takeReport (.raise Config.fallbackCode .profileStore 2))).start items fresh
  | none, none => s

theorem leaveStarting_eq (s : State) : s.leaveStarting =
    match s.store.verified.restored with
    | some (c, second) => s.startOn c.activeSlot c.items second false
    | none => s.startOn 0 Persistent.empty true true := by
  unfold State.leaveStarting State.startOn
  dsimp only
  cases s.store.verified.restored <;> rfl

/-! ### What a step is put together from -/

/-- What the Door Supervisor takes apart from modes and re-initializations. -/
inductive DoorEvent : (State → Acc Doors → Acc Doors) → Prop
  | update (i : Fin 256) (e : Effective) : DoorEvent (doorUpdate i e)
  | expiry (d : Fin 6) : DoorEvent (doorExpiry d)
  | flags : DoorEvent fun _ => resetDoorFlags

/-- What the Gauge Engine takes apart from modes and re-initializations. -/
inductive GaugeEvent : (State → Acc Gauges → Acc Gauges) → Prop
  | signal (i : Fin 256) (e : Effective) : GaugeEvent (gaugeSignal i e)
  | testStart : GaugeEvent gaugeTestStart
  | testEnd : GaugeEvent gaugeTestEnd
  | update : GaugeEvent takeGaugeUpdate
  | homed (g : Fin 6) : GaugeEvent (homed g)

/-- What the Warning Engine of `s` takes apart from modes and re-initializations: a delay timer expires in its own state alone. -/
inductive WarningEvent (s : State) : (State → Acc Warnings → Acc Warnings) → Prop
  | update (i : Fin 256) (e : Effective) : WarningEvent s (warningUpdate i e)
  | repetition (n : Nat) : WarningEvent s (repetitionEnd n)
  | acknowledge : WarningEvent s acknowledgeTop
  | minimum : WarningEvent s minimumReached
  | autoDismiss : WarningEvent s autoDismissed
  | rereport : WarningEvent s rereportWarnings
  | onDelay (w : Fin 64) (arming : (s.warnings.recs.get w).state = .arming) : WarningEvent s (enterOn w)
  | offDelay (w : Fin 64) (releasing : (s.warnings.recs.get w).state = .releasing) : WarningEvent s (release w)

/-- What the Lamp Unit takes apart from modes and re-initializations. -/
inductive LampEvent : (State → Acc Lamps → Acc Lamps) → Prop
  | signal (i : Fin 256) (e : Effective) : LampEvent (lampSignal i e)
  | give (l : Fin 24) (r : LampRequest) : LampEvent (giveLamp l r)
  | withdraw (l : Fin 24) (w : Fin 64) : LampEvent (withdrawLamp l w)
  | door (d : Fin 6) (p : Lit) : LampEvent (doorLamps d p)
  | relight : LampEvent relight
  | step : LampEvent takeStep
  | bulb : LampEvent bulbCheckEnds
  | sensing (l : Fin 24) (q : Sensing) : LampEvent (takeSensing l q)
  | rereport : LampEvent rereportLamps

/-- What the Fault Unit of `s` takes: it starts on the empty items or on those of a copy. -/
inductive FaultEvent (s : State) : (State → Acc FaultUnit → Acc FaultUnit) → Prop
  | report (r : Report) : FaultEvent s (takeReport r)
  | cycle : FaultEvent s ignitionCycle
  | reinit (old : Image) : FaultEvent s (reinitFaults old)
  | start (items : Persistent) (changed : Bool)
      (held : items = Persistent.empty ∨ items = s.store.copyA.items ∨ items = s.store.copyB.items) :
      FaultEvent s (startFaults items changed)
  | reset (t : Fin 16) : FaultEvent s fun _ => resetAttr t
  | emptied : FaultEvent s fun _ => emptyMemory
  | rereport : FaultEvent s rereportAttributes
  | second : FaultEvent s fun _ => edit fun p => { p with seconds := satSucc Config.max32 p.seconds }

/-- What the Outbound Unit takes apart from modes and re-initializations. -/
inductive OutboundEvent : (State → Acc Outbound → Acc Outbound) → Prop
  | forward (p : Port) (c : ForwardCopy) : OutboundEvent fun _ => joinForward p c
  | respond (p : Port) (l : List (List Byte)) : OutboundEvent fun _ => joinResponse p l
  | pick : OutboundEvent pickAll
  | complete (p : Port) : OutboundEvent fun _ => completeFrame p
  | abandon (p : Port) : OutboundEvent fun _ => abandonFrame p
  | period (e : Fin 16) : OutboundEvent (takePeriod e)

/-- What the Display Link takes apart from modes and re-initializations. -/
inductive DisplayEvent : (State → Acc Display → Acc Display) → Prop
  | kind (k : RecordKind) (content : List Byte) : DisplayEvent (writeKind k content)
  | mirror (i : Fin 64) (content : List Byte) : DisplayEvent (writeMirror i content)
  | transfer : DisplayEvent startTransfer
  | readyOn : DisplayEvent readyOn
  | readyOff : DisplayEvent readyOff
  | complete (status : Byte) : DisplayEvent (completeTransfer status)
  | refresh : DisplayEvent takeRefresh
  | stall : DisplayEvent takeStall
  | rereport : DisplayEvent fun _ => rereportDisplay

/-- The stores that one event of the Profile Store leaves of the store of `s`. -/
inductive StoreEvent (s : State) : Store → Prop
  | tick : StoreEvent s s.commitTick.store
  | begin : StoreEvent s s.beginOperation.store
  | request (r : StoreRequest) (slot : r ≠ .commit 0) (mode : s.control.mode ≠ .starting) :
      StoreEvent s (s.requestOperation r).store
  | saved (op : StoreOperation) (items : Persistent) (n : Fin 4) (runs : s.store.operation = some op) (carried : items ∈ op.items) :
      StoreEvent s (s.store.saved items n)
  | ended (failure a b : Bool) :
      StoreEvent s { s.store with operation := none, failure := failure, reportedFallback := a, reportedFailure := b }
  | reported (a b : Bool) : StoreEvent s { s.store with reportedFallback := a, reportedFailure := b }
  | refused (n : Fin 4) : StoreEvent s { s.store with status := s.store.status.set n false }
  | verified (m n : Fin 4) (runs : s.store.operation = some (.selectRead m)) :
      StoreEvent s { s.store.spoil with
        status := s.store.status.set n true, operation := some (.selectSave n s.faults.items) }
  | broken (n : Fin 4) (k : CommitStep) (runs : s.store.operation = some (.commit n k)) : StoreEvent s (s.store.broken n)
  | spoiled : StoreEvent s s.store.spoil
  | read (status : Tab 4 Bool) (current reported : Bool) :
      StoreEvent s { s.store with status := status, secondIsCurrent := current, reportedFallback := reported }

/-- The working image, and the images of the slots. -/
def State.ImageAtHand (s : State) (img : Image) : Prop := img = s.image ∨ ∃ n, (s.store.slots.get n).image = some img

/-- A property of the part that everything but a reset and a change of the working image keeps. An entry to a mode and a
re-initialization are taken by all blocks together. -/
structure Steady (P : State → Prop) : Prop where
  mail : ∀ {s} l, P s → P { s with mail := l } := by exact fun _ h => h
  time : ∀ {s} dt, P s → P (s.advance dt) := by exact fun _ h => h
  control : ∀ {s} c, c.mode = s.control.mode → P s → P { s with control := c } := by exact fun _ _ h => h
  frames : ∀ {s} x, P s → P { s with frames := x } := by exact fun _ h => h
  inputs : ∀ {s} x, P s → P { s with inputs := x } := by exact fun _ h => h
  service : ∀ {s} x, P s → P { s with service := x } := by exact fun _ h => h
  changed : ∀ {s} b, P s → P { s with faults := { s.faults with changed := b } } := by exact fun _ h => h
  write : ∀ {s} i w, P s → P (s.runSignals (takeWrite i w)) := by exact fun _ _ h => h
  doors : ∀ {s f}, DoorEvent f → P s → P (s.runDoors f) := by exact fun _ h => h
  gauges : ∀ {s f}, GaugeEvent f → P s → P (s.runGauges f) := by exact fun _ h => h
  warnings : ∀ {s f}, WarningEvent s f → P s → P (s.runWarnings f) := by exact fun _ h => h
  lamps : ∀ {s f}, LampEvent f → P s → P (s.runLamps f) := by exact fun _ h => h
  faults : ∀ {s f} v, FaultEvent s f → P s → P { s with faults := (f v ⟨s.faults, []⟩).st } := by exact fun _ _ h => h
  outbound : ∀ {s f}, OutboundEvent f → P s → P (s.runOutbound f) := by exact fun _ h => h
  display : ∀ {s f}, DisplayEvent f → P s → P (s.runDisplay f) := by exact fun _ h => h
  store : ∀ {s x}, StoreEvent s x → P s → P { s with store := x } := by exact fun _ h => h
  tell : ∀ {s m}, m ≠ .starting → (m = .active → s.control.mode ≠ .active) → P s → P ((s.setMode m).tellMode s.control.mode m)
  reinit : ∀ {s} b, s.control.mode ≠ .active → P s → P (s.reinit b) := by exact fun _ _ h => h

/-- A property that every step keeps. -/
structure Kept (P : State → Prop) : Prop extends Steady P where
  placed : ∀ {s img} b, s.control.mode ≠ .active → s.ImageAtHand img → P s → P ({ s with image := img }.reinit b) := by
    exact fun _ _ _ h => h
  loaded : ∀ {s t table index content}, s.loadEntry table index content = .ok t → P s → P t
  released : ∀ {s} e, P s → P (s.releaseEntry e) := by exact fun _ h => h
  reset : ∀ {s} r, P s → P (State.resetWith (s.commitAt r).store.afterReset s.display.ready s.pending s.now)

/-- A load writes the working image and may resolve signals. -/
theorem loadEntry_frame {s t : State} {table index : Nat} {content : List Byte} (h : s.loadEntry table index content = .ok t) :
    t = { s with image := t.image, signals := t.signals, mail := t.mail } := by
  unfold State.loadEntry at h
  split at h
  · split at h <;> cases h
    rfl
  · unfold State.substitute at h
    split at h <;> cases h
    rfl
  · split at h <;> cases h
    rfl

namespace Steady
variable {P : State → Prop} (k : Steady P) {s : State}
include k

theorem runFrames (f) (h : P s) : P (s.runFrames f) :=
  k.mail (s := { s with frames := (f s ⟨s.frames, []⟩).st }) _ (k.frames _ h)

theorem runInputs (f) (h : P s) : P (s.runInputs f) :=
  k.mail (s := { s with inputs := (f s ⟨s.inputs, []⟩).st }) _ (k.inputs _ h)

theorem runService (f) (h : P s) : P (s.runService f) :=
  k.mail (s := { s with service := (f s ⟨s.service, []⟩).st }) _ (k.service _ h)

theorem runFaults {f} (e : FaultEvent s f) (h : P s) : P (s.runFaults f) :=
  k.mail (s := { s with faults := (f s ⟨s.faults, []⟩).st }) _ (k.faults s e h)

/-- The same when the event looks at another state. -/
theorem runFaultsIn {f} (v : State) (e : FaultEvent s f) (h : P s) :
    P { s with faults := (f v ⟨s.faults, []⟩).st, mail := s.mail ++ (f v ⟨s.faults, []⟩).out } :=
  k.mail (s := { s with faults := (f v ⟨s.faults, []⟩).st }) _ (k.faults v e h)

theorem send (n : Notice) (h : P s) : P (s.send n) := k.mail _ h

theorem answer (p : Port) (code : Nat) (r : Result) (data : List Byte) (h : P s) : P (s.answer p code r data) := k.send _ h

theorem advanceTo (t : Nat) (h : P s) : P (s.advanceTo t) := k.time _ h

theorem writeMode (h : P s) : P s.writeMode := k.display (.kind _ _) h

theorem beginOperation (h : P s) : P s.beginOperation := by
  rw [beginOperation_frame]
  exact k.changed _ (k.store .begin h)

theorem requestOperation {r : StoreRequest} (slot : r ≠ .commit 0) (mode : s.control.mode ≠ .starting) (h : P s) :
    P (s.requestOperation r) := by
  rw [requestOperation_frame]
  exact k.changed _ (k.store (.request r slot mode) h)

theorem commitTick (h : P s) : P s.commitTick := by
  rw [commitTick_frame]
  exact k.changed _ (k.store .tick h)

theorem commitAt (r : StoreStep) (h : P s) : P (s.commitAt r) := commitAt_keeps (fun _ h => k.commitTick h) r h

/-! ### Modes -/

theorem savePoint {m : Mode} (mode : s.control.mode ≠ .starting) (h : P s) : P (s.savePoint m) := by
  unfold State.savePoint
  split
  · exact k.requestOperation (by simp) mode h
  · exact h

/-- The ignition cycle is taken before the blocks are told: it is as if it had been taken in the mode that is left. -/
theorem beginCycle_tell {m : Mode} (start : m ≠ .starting) (fresh : m = .active → s.control.mode ≠ .active) (h : P s) :
    P (((s.setMode m).beginCycle m).tellMode s.control.mode m) := by
  have before : ∀ F M, P { s with faults := F } →
      P ({ s.setMode m with faults := F, mail := M }.tellMode s.control.mode m) := by
    intro F M hF
    have hP : P { s with faults := F, mail := M } := k.mail (s := { s with faults := F }) M hF
    have e : { s.setMode m with faults := F, mail := M } = { s with faults := F, mail := M }.setMode m := by
      unfold State.setMode
      split <;> rfl
    rw [e]
    exact k.tell (s := { s with faults := F, mail := M }) start fresh hP
  unfold State.beginCycle
  split
  · have counted := k.faults (s.setMode m) (.report (.wear .ignitionCycle 0)) h
    have healed := k.faults (s := { s with faults := _ }) ((s.setMode m).runFaults (takeReport (.wear .ignitionCycle 0))) .cycle counted
    refine before _ _ ?_
    simpa only [runFaults_faults, setMode_faults] using healed
  · have e : s.setMode m = { s.setMode m with faults := s.faults, mail := s.mail } := by
      unfold State.setMode
      split <;> rfl
    rw [e]
    exact before _ _ h

theorem enterMode {m : Mode} (start : m ≠ .starting) (fresh : m = .active → s.control.mode ≠ .active) (h : P s) :
    P (s.enterMode m) := by
  refine k.writeMode (k.savePoint ?_ (k.beginCycle_tell start fresh h))
  have : (((s.setMode m).beginCycle m).tellMode s.control.mode m).control.mode = m := by
    simp only [State.tellMode, runDisplay_control, runOutbound_control, runLamps_control, runService_control, runWarnings_control,
      runGauges_control, runDoors_control, runInputs_control, runFrames_control]
    rw [beginCycle_frame]
    exact setMode_mode s m
  rwa [this]

omit k in
theorem modeFor_ne_starting (b : Bool) : modeFor b ≠ .starting := by cases b <;> decide

/-! ### Re-initializations -/

/-- The attributes are checked and the mode is entered after the blocks have been re-initialized. -/
theorem leaveConfiguration_of_reinit (mode : s.control.mode ≠ .active) (h : P (s.reinit false)) : P s.leaveConfiguration :=
  k.enterMode (modeFor_ne_starting _) (fun _ => mode) (k.runFaults (.reinit _) h)

theorem leaveConfiguration (mode : s.control.mode ≠ .active) (h : P s) : P s.leaveConfiguration :=
  k.leaveConfiguration_of_reinit mode (k.reinit false mode h)

theorem wake (h : P s) : P s.wake := by
  unfold State.wake
  split
  · next asleep =>
    have mode : s.control.mode ≠ .active := by rw [asleep]; decide
    exact k.enterMode (modeFor_ne_starting _) (fun _ => mode) (k.runFaults (.reinit _) (k.reinit false mode h))
  · exact h

/-! ### Notices and the end of a step -/

theorem followIgnition (i : Fin 256) (e : Effective) (h : P s) : P (s.followIgnition i e) := by
  unfold State.followIgnition
  split
  · split
    · next standby =>
      split
      · exact k.enterMode (by decide) (fun _ => by rw [standby]; decide) h
      · exact h
    · split
      · exact k.enterMode (by decide) (fun active => nomatch active) h
      · exact h
    · exact h
  · exact h

theorem handle (n : Notice) (h : P s) : P (handle n s) := by
  cases n with
  | update i e =>
    exact k.followIgnition i e (k.runService _ (k.lamps (.signal i e) (k.warnings (.update i e) (k.gauges (.signal i e)
      (k.doors (.update i e) (k.display (.kind _ _) h))))))
  | write i w => exact k.write i w h
  | report r => exact k.runFaults (.report r) h
  | record kind content => exact k.display (.kind kind content) h
  | mirror r content => exact k.display (.mirror r content) h
  | faultCount records overflow => exact k.writeMode (k.control { s.control with faultCount := _, faultOverflow := _ } rfl h)
  | forward p c => exact k.outbound (.forward p c) h
  | respond p code r data => exact k.outbound (.respond p _) h
  | lampGive l r => exact k.lamps (.give l r) h
  | lampWithdraw l w => exact k.lamps (.withdraw l w) h
  | doorRequest d pattern => exact k.lamps (.door d pattern) h
  | buzzer => exact k.lamps .relight h
  | repetition number => exact k.warnings (.repetition number) h
  | activity =>
    simp only [Machine.handle]
    split
    · exact k.control { s.control with sleepTimer := _ } rfl h
    · exact h
  | allClosed b => exact k.control { s.control with allClosed := b } rfl h
  | wake => exact k.wake h
  | endConfiguration =>
    simp only [Machine.handle]
    split
    · next mode => exact k.leaveConfiguration (by rw [mode]; decide) h
    · exact h
  | testStart => exact k.lamps .relight (k.gauges .testStart h)
  | testEnd => exact k.lamps .relight (k.gauges .testEnd h)

theorem finish (h : P s) : P (finish s) :=
  finish_keeps (fun _ l h => k.mail l h) (fun m _ h => k.handle m h)
    (fun _ h => k.display .transfer (k.outbound .pick h)) s h

/-! ### Requests -/

theorem request {p : Port} {code : Nat} {workshop : Bool} {modes : List Mode} {busy : State → Bool} {lengthOk : Bool}
    {work : State → State} (served : ∀ t, t.control.mode ∈ modes → P t → P (work t)) (h : P s) :
    P (State.request p code workshop modes busy lengthOk work s) := by
  have heard := k.runService evaluateAccess h
  unfold State.request
  split
  · dsimp only
    split
    · exact k.answer _ _ _ _ heard
    · split
      · exact k.answer _ _ _ _ heard
      · next mode =>
        split
        · exact k.answer _ _ _ _ heard
        · split
          · exact k.answer _ _ _ _ heard
          · exact served _ (by simpa using mode) heard
  · exact h

theorem withRow {p : Port} {code n : Nat} {params : List Byte} {work : Fin n → State → State} (served : ∀ i, P (work i s)) (h : P s) :
    P (State.withRow p code n params work s) := by
  unfold State.withRow
  split
  · exact served _
  · exact k.answer _ _ _ _ h

variable (p : Port) (params : List Byte)

theorem serveIdentify (h : P s) : P (serveIdentify p params s) := k.request (fun _ _ h => k.answer _ _ _ _ h) h

theorem serveReadSignal (h : P s) : P (serveReadSignal p params s) :=
  k.request (fun _ _ h => k.withRow (fun _ => k.answer _ _ _ _ h) h) h

theorem serveReadFrameEntry (h : P s) : P (serveReadFrameEntry p params s) :=
  k.request (fun _ _ h => k.withRow (fun _ => k.answer _ _ _ _ h) h) h

theorem serveReadFaults (h : P s) : P (serveReadFaults p params s) :=
  k.request (fun _ _ h => k.withRow (fun _ => k.answer _ _ _ _ h) h) h

theorem serveReadSnapshot (h : P s) : P (serveReadSnapshot p params s) := by
  refine k.request (fun _ _ h => k.withRow (fun _ => ?_) h) h
  split <;> exact k.answer _ _ _ _ h

theorem serveReadAttribute (h : P s) : P (serveReadAttribute p params s) :=
  k.request (fun _ _ h => k.withRow (fun _ => k.answer _ _ _ _ h) h) h

theorem serveAcknowledge (h : P s) : P (serveAcknowledge p params s) := by
  refine k.request (fun _ _ h => ?_) h
  dsimp only
  split
  · exact k.answer _ _ _ _ (k.warnings .acknowledge h)
  · exact k.answer _ _ _ _ h

theorem rereportStore (h : P s) : P (s.runStore rereportStore) := by
  have e : (Machine.rereportStore s ⟨s.store, []⟩).st
      = { s.store with reportedFallback := s.control.fallback, reportedFailure := s.store.failure } := by
    simp [Machine.rereportStore]
  refine k.mail (s := { s with store := (Machine.rereportStore s ⟨s.store, []⟩).st }) _ ?_
  rw [e]
  exact k.store (.reported _ _) h

/-- CLEAR FAULTS sends reports alone and resets flags. -/
theorem clearFaults (h : P s) : P s.clearFaults :=
  k.rereportStore (k.display .rereport (k.runFaults .rereport (k.lamps .rereport (k.warnings .rereport (k.doors .flags
    (k.runInputs (fun _ => resetInputFlags) (k.runFrames rereportFrames (k.runFaults .emptied h))))))))

theorem serveClearFaults (h : P s) : P (serveClearFaults p params s) :=
  k.request (fun _ _ h => k.answer _ _ _ _ (k.clearFaults h)) h

theorem serveResetAttribute (h : P s) : P (serveResetAttribute p params s) :=
  k.request (fun _ _ h => k.withRow (fun t => k.answer _ _ _ _ (k.runFaults (.reset t) h)) h) h

theorem serveBeginConfiguration (h : P s) : P (serveBeginConfiguration p params s) :=
  k.request (fun _ _ h => k.answer _ _ _ _ (k.enterMode (by decide) (fun e => nomatch e) h)) h

theorem serveEndConfiguration (h : P s) : P (serveEndConfiguration p params s) :=
  k.request (fun _ mode h => k.answer _ _ _ _ (k.leaveConfiguration (by rw [List.mem_singleton.1 mode]; decide) h)) h

theorem accept (c : TimedCommand) (h : P s) : P (s.accept c p) := k.answer _ _ _ _ (k.service _ h)

theorem serveCommitProfile (h : P s) : P (serveCommitProfile p params s) := by
  refine k.request (fun t mode h => k.withRow (fun n => ?_) h) h
  split
  · exact k.answer _ _ _ _ h
  · next slot =>
    refine k.requestOperation (by simpa using slot) ?_ (k.accept p .commit h)
    show t.control.mode ≠ _
    rw [List.mem_singleton.1 mode]
    decide

theorem serveSelectProfile (h : P s) : P (serveSelectProfile p params s) := by
  refine k.request (fun t mode h => k.withRow (fun n => ?_) h) h
  refine k.requestOperation (by simp) ?_ (k.accept p .select h)
  show t.control.mode ≠ _
  rw [List.mem_singleton.1 mode]
  decide

theorem serveOutputTest (h : P s) : P (serveOutputTest p params s) := by
  refine k.request (fun t _ h => ?_) h
  dsimp only
  split
  · exact k.send _ (k.service _ (k.accept p .outputTest h))
  · exact k.answer _ _ _ _ h

theorem serveStopTest (h : P s) : P (serveStopTest p params s) :=
  k.request (fun _ _ h => k.answer _ _ _ _ (k.runService _ h)) h

/-! ### Store events -/

variable {n : Fin 4} {items : Persistent}

/-- A store operation ends without a write failure. -/
theorem completedWell (h : P s) : P (s.runStore fun _ => Machine.completedWell) := by
  refine k.mail (s := { s with store := (Machine.completedWell ⟨s.store, []⟩).st }) _ ?_
  simp only [Machine.completedWell, upd_st, sayIf_st]
  exact k.store (.ended _ _ _) h

/-- A commit or a select ends without a write failure. -/
theorem completedWithImage (h : P s) : P (s.runStore fun _ a => Machine.completedWell (clearFallback a)) := by
  refine k.mail (s := { s with store := (Machine.completedWell (clearFallback ⟨s.store, []⟩)).st }) _ ?_
  simp only [Machine.completedWell, clearFallback, upd_st, sayIf_st]
  exact k.store (.ended _ _ _) h

/-- A store operation ends with a write failure. -/
theorem completedBadly (h : P s) : P (s.runStore fun _ => Machine.completedBadly) := by
  refine k.mail (s := { s with store := (Machine.completedBadly ⟨s.store, []⟩).st }) _ ?_
  simp only [Machine.completedBadly, upd_st, sayIf_st]
  exact k.store (.ended _ _ _) h

theorem activate (n : Fin 4) (h : P s) : P (s.activate n) := k.writeMode (k.control { s.control with activeSlot := n, fallback := false } rfl h)

theorem commitDone (runs : s.store.operation = some (.commitSave n items)) (h : P s) : P (s.commitDone n items) :=
  k.beginOperation (k.runService _ (k.completedWithImage (k.activate n (k.store (.saved _ items n runs (by simp [StoreOperation.items])) h))))

theorem saveDone (runs : s.store.operation = some (.save items n)) (h : P s) : P (s.saveDone items n) :=
  k.beginOperation (k.completedWell (k.store (.saved _ items n runs (by simp [StoreOperation.items])) h))

theorem selectRefused (n : Fin 4) (h : P s) : P (s.selectRefused n) :=
  k.beginOperation (k.runService _ (k.completedWell (k.store (.refused n) h)))

theorem selectVerified {m : Fin 4} (n : Fin 4) (runs : s.store.operation = some (.selectRead m)) (h : P s) : P (s.selectVerified n) :=
  k.changed (s := { s with store := _ }) _ (k.store (.verified m n runs) h)

theorem saveFailed (h : P s) : P s.saveFailed := k.changed (s := { s with store := _ }) _ (k.store .spoiled h)

theorem leftByFailure {op : StoreOperation} (runs : s.store.operation = some op) (h : P s) : P (s.leftByFailure op) := by
  cases op with
  | commit n step => exact k.store (.broken n step runs) h
  | commitSave => exact k.saveFailed h
  | selectSave => exact k.saveFailed h
  | save => exact k.saveFailed h
  | selectRead => exact h

theorem storeFails {op : StoreOperation} (runs : s.store.operation = some op) (h : P s) : P (s.storeFails op) := by
  have failed := k.completedBadly (k.leftByFailure runs h)
  refine k.beginOperation ?_
  cases op with
  | save => exact failed
  | _ => exact k.runService _ failed

/-! ### Events -/

theorem happening {b : Bool} {f : State → State} {t : State} (hf : b = true → P (f s)) (h : P s)
    (e : Machine.happening b f s = .next t) : P t := by
  unfold Machine.happening at e
  split at e <;> cases e
  · next possible => exact k.finish (hf possible)
  · exact h

theorem expiry {timer : Option Nat} {f : State → State} {t : State} (hf : ∀ u, P (f (s.advanceTo u))) (h : P s)
    (e : Machine.expiry timer f s = .next t) : P t :=
  expiry_keeps h (fun u => k.finish (hf u)) e

theorem failTransmission (p : Port) (h : P s) : P (s.failTransmission p) := by
  unfold State.failTransmission
  dsimp only
  split
  · exact k.outbound (.abandon p) (k.runFrames _ h)
  · exact k.runFrames _ h

theorem transmitted (p : Port) (h : P s) : P (s.transmitted p) := k.outbound (.complete p) (k.runFrames _ h)

theorem sleepDue (h : P s) : P s.sleepDue := by
  unfold State.sleepDue
  split
  · exact k.enterMode (by decide) (fun active => nomatch active) h
  · exact k.control { s.control with sleepTimer := _ } rfl h

theorem countSecond (h : P s) : P s.countSecond :=
  k.runFaults .second (k.control (s := s.advance (1000 - s.control.remainder))
    { (s.advance (1000 - s.control.remainder)).control with remainder := (s.advance (1000 - s.control.remainder)).control.remainder - 1000 } rfl (k.time _ h))

omit k in
theorem delayIn_eq_some {st : WarningState} {w : Fin 64} {u : Nat} (h : delayIn st w s = some u) : (s.warnings.recs.get w).state = st := by
  unfold delayIn at h
  dsimp only at h
  split at h
  · assumption
  · cases h

theorem idle (h : P s) : P s.idle := k.commitTick (k.time 1 h)

/-- A delay of a warning expires in the state it runs in. -/
theorem delayExpiry {st : WarningState} {w : Fin 64} {f : State → State} {t : State}
    (hf : ∀ u, (s.warnings.recs.get w).state = st → P (f (s.advanceTo u))) (h : P s)
    (e : Machine.expiry (delayIn st w s) f s = .next t) : P t := by
  cases timer : delayIn st w s with
  | none => rw [timer] at e; cases e; exact h
  | some u => rw [timer] at e; cases e; exact k.finish (hf u (delayIn_eq_some timer))

theorem commitComplete {t : State} (h : P s) (e : execCommitComplete s = .next t) : P t := by
  have reached := k.commitAt .save h
  unfold execCommitComplete at e
  dsimp only at e
  split at e <;> cases e
  · next runs => exact k.finish (k.commitDone runs reached)
  · exact h

theorem storeWriteFailure {t : State} (failed : StoreStep) (h : P s) (e : execStoreWriteFailure failed s = .next t) : P t := by
  have reached := k.commitAt failed h
  unfold execStoreWriteFailure at e
  dsimp only at e
  split at e <;> cases e
  · exact h
  · exact h
  · next runs => exact k.finish (k.storeFails runs reached)

/-- A command that may not change the working image keeps the property. -/
theorem exec {c : Instr} {t : State} (image : mayChangeImage c = false) (h : P s) (e : Machine.exec c s = .next t) : P t := by
  cases c with
  | receiveError p => exact k.happening (fun _ => k.runFrames _ h) h e
  | transmitError p => exact k.happening (fun _ => k.failTransmission p h) h e
  | transmissionComplete p => exact k.happening (fun _ => k.transmitted p h) h e
  | recoveryTimerExpiry p => exact k.expiry (fun u => k.runFrames _ (k.advanceTo u h)) h e
  | receptionTimerExpiry x => exact k.expiry (fun u => k.runFrames _ (k.advanceTo u h)) h e
  | gapTimerExpiry p => exact k.expiry (fun u => k.runService _ (k.advanceTo u h)) h e
  | identify p params => cases e; exact k.finish (k.serveIdentify p params h)
  | readSignal p params => cases e; exact k.finish (k.serveReadSignal p params h)
  | readFrameEntry p params => cases e; exact k.finish (k.serveReadFrameEntry p params h)
  | readFaults p params => cases e; exact k.finish (k.serveReadFaults p params h)
  | readSnapshot p params => cases e; exact k.finish (k.serveReadSnapshot p params h)
  | readAttribute p params => cases e; exact k.finish (k.serveReadAttribute p params h)
  | acknowledge p params => cases e; exact k.finish (k.serveAcknowledge p params h)
  | clearFaults p params => cases e; exact k.finish (k.serveClearFaults p params h)
  | resetAttribute p params => cases e; exact k.finish (k.serveResetAttribute p params h)
  | beginConfiguration p params => cases e; exact k.finish (k.serveBeginConfiguration p params h)
  | endConfiguration p params => cases e; exact k.finish (k.serveEndConfiguration p params h)
  | commitProfile p params => cases e; exact k.finish (k.serveCommitProfile p params h)
  | selectProfile p params => cases e; exact k.finish (k.serveSelectProfile p params h)
  | outputTest p params => cases e; exact k.finish (k.serveOutputTest p params h)
  | stopTest p params => cases e; exact k.finish (k.serveStopTest p params h)
  | testTimerExpiry => exact k.expiry (fun u => k.runService _ (k.advanceTo u h)) h e
  | commitComplete => exact k.commitComplete h e
  | storeWriteFailure failed => exact k.storeWriteFailure failed h e
  | sleepTimerExpiry => exact k.expiry (fun u => k.sleepDue (k.advanceTo u h)) h e
  | runningTimeSecond => exact k.happening (fun _ => k.countSecond h) h e
  | scan levels samples => exact k.expiry (fun u => k.runInputs _ (k.advanceTo u h)) h e
  | sleepScan levels => exact k.expiry (fun u => k.runInputs _ (k.advanceTo u h)) h e
  | travelTimerExpiry d => exact k.expiry (fun u => k.doors (.expiry d) (k.advanceTo u h)) h e
  | plausibilityTimerExpiry d => exact k.expiry (fun u => k.doors (.expiry d) (k.advanceTo u h)) h e
  | gaugeUpdate => exact k.expiry (fun u => k.gauges .update (k.advanceTo u h)) h e
  | homingTimerExpiry g => exact k.expiry (fun u => k.gauges (.homed g) (k.advanceTo u h)) h e
  | onDelayExpiry w =>
    exact k.delayExpiry (fun u arming => k.warnings (.onDelay w (by simpa using arming)) (k.advanceTo u h)) h e
  | offDelayExpiry w =>
    exact k.delayExpiry (fun u releasing => k.warnings (.offDelay w (by simpa using releasing)) (k.advanceTo u h)) h e
  | minimumTimerExpiry => exact k.expiry (fun u => k.warnings .minimum (k.advanceTo u h)) h e
  | autoDismissTimerExpiry => exact k.expiry (fun u => k.warnings .autoDismiss (k.advanceTo u h)) h e
  | stepTimerExpiry => exact k.expiry (fun u => k.lamps .step (k.advanceTo u h)) h e
  | bulbCheckTimerExpiry => exact k.expiry (fun u => k.lamps .bulb (k.advanceTo u h)) h e
  | lampSensingResult l r => exact k.happening (fun _ => k.lamps (.sensing l r) h) h e
  | periodTimerExpiry x => exact k.expiry (fun u => k.outbound (.period x) (k.advanceTo u h)) h e
  | readyAsserted => exact k.happening (fun _ => k.display .readyOn h) h e
  | readyDeasserted => exact k.happening (fun _ => k.display .readyOff h) h e
  | transferComplete status => exact k.happening (fun _ => k.display (.complete status) h) h e
  | refreshTimerExpiry => exact k.expiry (fun u => k.display .refresh (k.advanceTo u h)) h e
  | stallTimerExpiry => exact k.expiry (fun u => k.display .stall (k.advanceTo u h)) h e
  | reset => exact nomatch image
  | startingComplete => exact nomatch image
  | receivedFrame => exact nomatch image
  | substitute => exact nomatch image
  | releaseSubstitute => exact nomatch image
  | loadEntryFrame => exact nomatch image
  | loadEntryExtract => exact nomatch image
  | loadEntrySignal => exact nomatch image
  | loadEntrySubstitution => exact nomatch image
  | loadEntryInput => exact nomatch image
  | loadEntryAnalog => exact nomatch image
  | loadEntryDoor => exact nomatch image
  | loadEntryGauge => exact nomatch image
  | loadEntryWarning => exact nomatch image
  | loadEntryLamp => exact nomatch image
  | loadEntryPattern => exact nomatch image
  | loadEntryTransmit => exact nomatch image
  | loadEntryDisplay => exact nomatch image
  | loadEntryAttribute => exact nomatch image
  | loadEntrySnapshotList => exact nomatch image
  | loadEntryGeneral => exact nomatch image
  | selectReadComplete => exact nomatch image
  | persistenceSaveComplete => exact nomatch image

end Steady

namespace Kept
variable {P : State → Prop} (k : Kept P) {s : State} (p : Port) (params : List Byte)
include k

/-! ### Loads and substitutions -/

/-- SUBSTITUTE writes an entry as a load of the SUBSTITUTION table does. -/
theorem serveSubstitute (h : P s) : P (serveSubstitute p params s) := by
  refine k.request (fun t _ h => ?_) h
  split
  · next written => exact k.answer _ _ _ _ (k.loaded (table := 4) written h)
  · exact k.answer _ _ _ _ h

theorem serveReleaseSubstitute (h : P s) : P (serveReleaseSubstitute p params s) :=
  k.request (fun _ _ h => k.withRow (fun e => k.answer _ _ _ _ (k.released e h)) h) h

theorem takePart (table index number count : Nat) (bytes : List Byte) (h : P s) : P (s.takePart p table index number count bytes) := by
  have staged : ∀ g, P (s.setStaging p g) := fun _ => k.service _ h
  unfold State.takePart
  dsimp only
  split
  · exact k.answer _ _ _ _ (staged _)
  · split
    · split
      · next loaded => exact k.answer _ _ _ _ (k.loaded loaded (staged none))
      · exact k.answer _ _ _ _ (staged none)
    · exact k.answer _ _ _ _ (staged none)

theorem loadPart (table index part : Nat) (content : List Byte) (h : P s) : P (s.loadPart p table index part content) := by
  unfold State.loadPart
  dsimp only
  split
  · exact k.answer _ _ _ _ h
  · split
    · exact k.takePart p _ _ _ _ _ h
    · exact k.answer _ _ _ _ (k.service _ h)

theorem serveLoad (h : P s) : P (serveLoad p params s) := k.request (fun _ _ h => k.loadPart p _ _ _ _ h) h

/-! ### Received frames -/

theorem serveMessage (message : List Byte) (h : P s) : P (serveMessage p message s) := by
  unfold Machine.serveMessage
  split
  · exact h
  · next code params =>
    split
    · exact k.serveIdentify p params h
    · exact k.serveReadSignal p params h
    · exact k.serveReadFrameEntry p params h
    · exact k.serveReadFaults p params h
    · exact k.serveReadSnapshot p params h
    · exact k.serveReadAttribute p params h
    · exact k.serveAcknowledge p params h
    · exact k.serveClearFaults p params h
    · exact k.serveResetAttribute p params h
    · exact k.serveSubstitute p params h
    · exact k.serveReleaseSubstitute p params h
    · exact k.serveBeginConfiguration p params h
    · exact k.serveEndConfiguration p params h
    · exact k.serveLoad p params h
    · exact k.serveCommitProfile p params h
    · exact k.serveSelectProfile p params h
    · exact k.serveOutputTest p params h
    · exact k.serveStopTest p params h
    · split
      · exact k.answer _ _ _ _ (k.runService _ h)
      · exact h

theorem takeService (data : List Byte) (h : P s) : P (s.takeService p data) := by
  unfold State.takeService
  dsimp only
  split
  · exact k.serveMessage p _ (k.service _ h)
  · exact k.service _ h

theorem sortFrame (f : Frame) (h : P s) : P (s.sortFrame p f) := by
  unfold State.sortFrame
  split
  · exact k.send _ h
  · exact h
  · split
    · exact k.takeService p _ h
    · exact h
  all_goals
    split
    · exact h
    · split
      · exact k.takeService p _ h
      · exact k.runFrames _ h

theorem receive (f : Frame) (h : P s) : P (s.receive p f) := k.sortFrame p f (k.send _ (k.runFrames _ h))

/-! ### Selects and the start -/

/-- The image is put in place before the blocks are re-initialized. -/
theorem selectDone {n : Fin 4} {items : Persistent} {image : Image} (runs : s.store.operation = some (.selectSave n items))
    (slot : (s.store.slots.get n).image = some image) (mode : s.control.mode = .configuring) (h : P s) :
    P (s.selectDone n items image) := by
  have slots : (s.store.saved items n).slots = s.store.slots := by
    simp only [Store.saved, Store.setOther]
    split <;> rfl
  have saved := k.service (s := { s with store := _ }) { s.service with endDue := false }
    (k.store (.saved _ items n runs (by simp [StoreOperation.items])) h)
  have placed := k.placed (img := image) false (by simp [State.activate, State.writeMode, mode])
    (Or.inr ⟨n, by simp [State.activate, State.writeMode, Machine.completedWell, clearFallback, slots, slot]⟩)
    (k.completedWithImage (k.activate n saved))
  exact k.beginOperation (k.runService _ (k.leaveConfiguration_of_reinit (by simp [State.activate, State.writeMode, mode]) placed))

theorem selectSaved (h : P s) : P s.selectSaved := by
  unfold State.selectSaved
  split
  · next runs =>
    split
    · next slot =>
      split
      · next mode => exact k.selectDone runs slot mode h
      · exact h
    · exact h
  · exact h

theorem selectRead {n : Fin 4} (saved : Bool) (runs : s.store.operation = some (.selectRead n)) (h : P s) : P (s.selectRead n saved) := by
  unfold State.selectRead
  dsimp only
  split
  · split
    · exact k.selectSaved (k.selectVerified n runs h)
    · exact k.selectVerified n runs h
  · exact k.selectRefused n h

/-- The blocks start on an image that is put in place. -/
theorem start {img : Image} {items : Persistent} (changed : Bool) (mode : s.control.mode ≠ .active) (image : s.ImageAtHand img)
    (held : items = Persistent.empty ∨ items = s.store.copyA.items ∨ items = s.store.copyB.items) (h : P s) :
    P ({ s with image := img }.start items changed) := by
  have started := k.runFaults (s := { s with image := img }.reinit true) (.start items changed held) (k.placed true mode image h)
  exact k.enterMode (Steady.modeFor_ne_starting _) (fun _ => mode) (k.writeMode (k.runFrames startPorts started))

omit k in
theorem restored_items {t : Store} {c : AreaCopy} {second : Bool} (h : t.restored = some (c, second)) : c = t.copyA ∨ c = t.copyB := by
  unfold Store.restored at h
  split at h
  · split at h <;> cases h
    · exact .inr rfl
    · exact .inl rfl
  all_goals cases h
  · exact .inl rfl
  · exact .inr rfl

omit k in
theorem goodImage_slot {t : Store} {n : Fin 4} {img : Image} (h : t.goodImage n = some img) : (t.slots.get n).image = some img := by
  unfold Store.goodImage at h
  split at h
  · exact h
  · cases h

theorem startOn {items : Persistent} (named : Fin 4) (current fresh : Bool) (mode : s.control.mode ≠ .active)
    (held : items = Persistent.empty ∨ items = s.store.copyA.items ∨ items = s.store.copyB.items) (h : P s) :
    P (s.startOn named items current fresh) := by
  have read : ∀ reported, P { s with store := { s.store.verified with secondIsCurrent := current, reportedFallback := reported } } :=
    fun reported => k.store (.read _ current reported) h
  let put (reported : Bool) (c : Controller) : State := { s with
    store := { s.store.verified with secondIsCurrent := current, reportedFallback := reported }, control := c }
  have controlled : ∀ reported c, c.mode = s.control.mode → P (put reported c) := fun reported c same =>
    k.control (s := { s with store := { s.store.verified with secondIsCurrent := current, reportedFallback := reported } }) c same
      (read reported)
  unfold State.startOn
  dsimp only
  cases good : s.store.verified.goodImage named with
  | some img =>
    exact k.start (s := put s.store.verified.reportedFallback { s.control with activeSlot := named, fallback := false }) fresh mode
      (.inr ⟨named, goodImage_slot good⟩) held (controlled _ _ rfl)
  | none =>
    cases factory : s.store.verified.goodImage 0 with
    | some img =>
      let fallen := put true { s.control with activeSlot := 0, fallback := true }
      let heard := takeReport (.raise Config.fallbackCode .profileStore 2) { fallen with image := img } ⟨s.faults, []⟩
      exact k.start (s := { fallen with faults := heard.st, mail := s.mail ++ heard.out }) fresh mode
        (.inr ⟨0, goodImage_slot factory⟩) held (k.runFaultsIn _ (.report _) (controlled _ _ rfl))
    | none => exact read _

theorem leaveStarting (mode : s.control.mode ≠ .active) (h : P s) : P s.leaveStarting := by
  rw [leaveStarting_eq]
  split
  · next restored =>
    refine k.startOn _ _ _ mode ?_ h
    rcases restored_items restored with e | e
    · exact .inr (.inl (by rw [e]; rfl))
    · exact .inr (.inr (by rw [e]; rfl))
  · exact k.startOn _ _ _ mode (.inl rfl) h

theorem selectReadComplete {t : State} (saved : Bool) (h : P s) (e : execSelectReadComplete saved s = .next t) : P t := by
  unfold execSelectReadComplete at e
  split at e <;> cases e
  · next runs => exact k.finish (k.selectRead saved runs h)
  · exact h

theorem persistenceSaveComplete {t : State} (h : P s) (e : execPersistenceSaveComplete s = .next t) : P t := by
  unfold execPersistenceSaveComplete at e
  split at e <;> cases e
  · next runs => exact k.finish (k.saveDone runs h)
  · exact k.finish (k.selectSaved h)
  · exact h

theorem exec {c : Instr} {t : State} (h : P s) (e : Machine.exec c s = .next t) : P t := by
  cases image : mayChangeImage c with
  | false => exact k.toSteady.exec image h e
  | true =>
    cases c with
    | reset reached => cases e; exact k.reset reached h
    | startingComplete =>
      exact k.happening (fun starting => k.leaveStarting (by rw [eq_of_beq starting]; decide) h) h e
    | receivedFrame p f => exact k.happening (fun _ => k.receive p f h) h e
    | substitute p params => cases e; exact k.finish (k.serveSubstitute p params h)
    | releaseSubstitute p params => cases e; exact k.finish (k.serveReleaseSubstitute p params h)
    | loadEntryFrame p | loadEntryExtract p | loadEntrySignal p | loadEntrySubstitution p | loadEntryInput p | loadEntryAnalog p
    | loadEntryDoor p | loadEntryGauge p | loadEntryWarning p | loadEntryLamp p | loadEntryPattern p | loadEntryTransmit p
    | loadEntryDisplay p | loadEntryAttribute p | loadEntrySnapshotList p | loadEntryGeneral p =>
      cases e
      exact k.finish (k.serveLoad p _ h)
    | selectReadComplete saved => exact k.selectReadComplete saved h e
    | persistenceSaveComplete => exact k.persistenceSaveComplete h e
    | _ => exact nomatch image

/-- Every step keeps the property, where it says nothing of the queue. -/
theorem step {t : State} (h : P s) (e : Machine.step s = .next t)
    (pending : ∀ {s} q, P s → P { s with pending := q } := by exact fun _ h => h) : P t := by
  unfold Machine.step at e
  split at e
  · exact k.exec (pending _ h) e
  · cases e
    split
    · exact k.idle h
    · exact k.finish h

end Kept

end Sys2Proof.Machine
end

section
/-! PROOFS. StoreProofs: the working image and the Profile Store. What each event of the store does to its slots and its operations, and
the statements that follow from it for every step. -/

namespace Sys2Proof.Machine

/-! ### The working image -/

theorem tellMode_image (s : State) (old new : Mode) : (s.tellMode old new).image = s.image := rfl

theorem tellMode_store (s : State) (old new : Mode) : (s.tellMode old new).store = s.store := rfl

/-- Nothing but a load, a substitution, a select, a start and a reset touches the working image. -/
theorem image_steady (img : Image) : Steady fun s => s.image = img where
  tell _ _ h := by rwa [tellMode_image, setMode_image]

/-- Settles O52: what the commands it names leave alone is all that the others are put together from. -/
theorem imageKeptByOthers : Obligations.ImageKeptByOthers :=
  fun _ s _ others e => (image_steady s.image).exec others rfl e

/-! ### Copies of the persistent area -/

section
variable (t : Store) (c : AreaCopy) (items : Persistent) (slot : Fin 4)

@[simp] theorem setOther_slots : (t.setOther c).slots = t.slots := by unfold Store.setOther; split <;> rfl
@[simp] theorem setOther_operation : (t.setOther c).operation = t.operation := by unfold Store.setOther; split <;> rfl
@[simp] theorem setOther_waiting : (t.setOther c).waiting = t.waiting := by unfold Store.setOther; split <;> rfl

@[simp] theorem spoil_slots : t.spoil.slots = t.slots := setOther_slots t _
@[simp] theorem spoil_operation : t.spoil.operation = t.operation := setOther_operation t _
@[simp] theorem spoil_waiting : t.spoil.waiting = t.waiting := setOther_waiting t _

@[simp] theorem saved_slots : (t.saved items slot).slots = t.slots := setOther_slots t _
@[simp] theorem saved_operation : (t.saved items slot).operation = t.operation := setOther_operation t _
@[simp] theorem saved_waiting : (t.saved items slot).waiting = t.waiting := setOther_waiting t _

end

/-! ### Properties of the store alone -/

section
variable {Q : Store → Prop}

/-- A property of the store that its events keep is kept by all that a step is put together from. -/
theorem steady_of_store (event : ∀ {s x}, StoreEvent s x → Q s.store → Q x) : Steady fun s => Q s.store where
  store e h := event e h
  tell _ _ h := by rwa [tellMode_store, setMode_store]

/-- A property of the store that its events and a reset keep is kept by every step. -/
theorem kept_of_store (event : ∀ {s x}, StoreEvent s x → Q s.store → Q x) (reset : ∀ t, Q t → Q t.afterReset) :
    Kept fun s => Q s.store where
  toSteady := steady_of_store event
  loaded e h := by
    rw [loadEntry_frame e]
    exact h
  reset r h := reset _ ((steady_of_store event).commitAt r h)

end

/-! ### The factory slot -/

/-- No commit of slot 0 runs or waits, and slot 0 holds `slot`. -/
structure Store.KeepsFactory (slot : ProfileSlot) (t : Store) : Prop where
  commit : ∀ step, t.operation ≠ some (.commit 0 step)
  save : ∀ items, t.operation ≠ some (.commitSave 0 items)
  waiting : .commit 0 ∉ t.waiting
  slot : t.slots.get 0 = slot

section
variable {slot : ProfileSlot} {s : State} {t : Store}

/-- A row of the slots that is not the factory's may be written. -/
theorem get_zero_set {n : Fin 4} (hn : n ≠ 0) (x : ProfileSlot) : (t.slots.set n x).get 0 = t.slots.get 0 :=
  Tab.get_set_ne _ _ hn.symm

theorem keepsFactory_commitTick (h : s.store.KeepsFactory slot) : s.commitTick.store.KeepsFactory slot := by
  unfold State.commitTick
  split
  · next n runs =>
    have hn : n ≠ 0 := fun e => h.commit _ (e ▸ runs)
    exact ⟨by simp [hn], by simp, h.waiting, h.slot⟩
  · next n runs =>
    have hn : n ≠ 0 := fun e => h.commit _ (e ▸ runs)
    exact ⟨by simp [hn], by simp, h.waiting, by simpa [get_zero_set hn] using h.slot⟩
  · next n runs =>
    have hn : n ≠ 0 := fun e => h.commit _ (e ▸ runs)
    exact ⟨by simp, by simp [hn], by simpa using h.waiting, by simpa [get_zero_set hn] using h.slot⟩
  · exact h

theorem keepsFactory_beginOperation (h : s.store.KeepsFactory slot) : s.beginOperation.store.KeepsFactory slot := by
  unfold State.beginOperation
  split
  · next n rest _ waits =>
    have ⟨hn, hrest⟩ : n ≠ 0 ∧ .commit 0 ∉ rest := by
      have := h.waiting
      rw [waits] at this
      simp only [List.mem_cons, not_or] at this
      exact ⟨fun e => this.1 (by rw [e]), this.2⟩
    exact ⟨by simp [hn], by simp, hrest, by simpa [get_zero_set hn] using h.slot⟩
  · next n rest _ waits =>
    have := h.waiting
    rw [waits] at this
    exact ⟨by simp, by simp, fun w => this (.tail _ w), h.slot⟩
  · next rest _ waits =>
    have := h.waiting
    rw [waits] at this
    exact ⟨by simp, by simp, fun w => this (.tail _ w), by simpa using h.slot⟩
  · exact h

theorem keepsFactory_requestOperation {r : StoreRequest} (other : r ≠ .commit 0) (h : s.store.KeepsFactory slot) :
    (s.requestOperation r).store.KeepsFactory slot := by
  unfold State.requestOperation
  split
  · exact h
  · exact keepsFactory_beginOperation ⟨h.commit, h.save, by simpa using ⟨h.waiting, other.symm⟩, h.slot⟩

theorem keepsFactory_broken {n : Fin 4} (hn : n ≠ 0) (h : t.KeepsFactory slot) : (t.broken n).KeepsFactory slot :=
  ⟨h.commit, h.save, h.waiting, by simpa [Store.broken, hn.symm] using h.slot⟩

theorem keepsFactory_event {x : Store} (e : StoreEvent s x) (h : s.store.KeepsFactory slot) : x.KeepsFactory slot := by
  cases e with
  | tick => exact keepsFactory_commitTick h
  | begin => exact keepsFactory_beginOperation h
  | request r other => exact keepsFactory_requestOperation other h
  | saved => exact ⟨by simpa using h.commit, by simpa using h.save, by simpa using h.waiting, by simpa using h.slot⟩
  | ended => exact ⟨by simp, by simp, h.waiting, h.slot⟩
  | reported => exact ⟨h.commit, h.save, h.waiting, h.slot⟩
  | refused => exact ⟨h.commit, h.save, h.waiting, h.slot⟩
  | verified => exact ⟨by simp, by simp, by simpa using h.waiting, by simpa using h.slot⟩
  | broken n step runs => exact keepsFactory_broken (fun e => h.commit _ (e ▸ runs)) h
  | spoiled => exact ⟨by simpa using h.commit, by simpa using h.save, by simpa using h.waiting, by simpa using h.slot⟩
  | read => exact ⟨h.commit, h.save, h.waiting, h.slot⟩

theorem keepsFactory_afterReset (h : t.KeepsFactory slot) : t.afterReset.KeepsFactory slot := by
  refine ⟨by simp [Store.afterReset], by simp [Store.afterReset], by simp [Store.afterReset], ?_⟩
  unfold Store.afterReset
  dsimp only
  split
  · next n step runs => exact (keepsFactory_broken (fun e => h.commit _ (e ▸ runs)) h).slot
  · exact h.slot

end

/-! ### STARTING -/

/-- In STARTING nothing but the reading of the slots and copies, and reports, comes to the store. -/
theorem startsIdle_kept : Kept State.StartsIdle where
  store {s x} e h starting := by
    obtain ⟨none, empty⟩ := h starting
    cases e with
    | tick =>
      rw [commitTick_of_no_commit (by simp [none])]
      exact ⟨none, empty⟩
    | begin =>
      simp only [State.beginOperation, none, empty]
      exact ⟨trivial, trivial⟩
    | request r _ mode => exact absurd starting mode
    | saved _ _ _ runs => exact absurd runs (by simp [none])
    | ended => exact ⟨rfl, empty⟩
    | verified _ _ runs => exact absurd runs (by simp [none])
    | broken _ _ runs => exact absurd runs (by simp [none])
    | spoiled => exact ⟨by simpa using none, by simpa using empty⟩
    | _ => exact ⟨none, empty⟩
  control _ same h starting := h (same ▸ starting)
  time {s} dt h starting := h (advance_mode s dt ▸ starting)
  tell {s m} other _ _ starting := by
    refine absurd ?_ other
    have : ((s.setMode m).tellMode s.control.mode m).control.mode = m := setMode_mode s m
    rwa [this] at starting
  loaded e h := by
    rw [loadEntry_frame e]
    exact h
  reset r _ _ := ⟨rfl, rfl⟩

/-- Settles O60: slot 0 is no slot of an operation that writes one, and an operation is requested outside STARTING alone. -/
theorem storeOperationsKept : Obligations.StoreOperationsKept := by
  refine ⟨fun s t safe e => ?_, fun s t idle e => startsIdle_kept.step idle e⟩
  obtain ⟨commit, save, waiting⟩ := safe
  have kept : Kept fun u => u.store.KeepsFactory (s.store.slots.get 0) := kept_of_store keepsFactory_event fun _ => keepsFactory_afterReset
  obtain ⟨commit', save', waiting', slot⟩ := kept.step ⟨commit, save, waiting, rfl⟩ e
  exact ⟨⟨commit', save', waiting'⟩, slot⟩

end Sys2Proof.Machine
end

section
/-! PROOFS. InterlockProofs: the door interlock (R75, R77). The summary is evaluated at every change of a door's state and at every
re-initialization, the interlock with it and at every change of mode. -/

namespace Sys2Proof.Machine

/-- The interlock of the Door Supervisor `v` is safe under the configurations `cfg` in the mode `mode`. -/
def InterlockSafeIn (cfg : Tab 6 DoorConfig) (mode : Mode) (v : Doors) : Prop :=
  (v.allClosed = true → ∀ d, (cfg.get d).enabled = true → (v.doors.get d).state = .closed)
    ∧ (v.interlock = false ↔ (mode = .active ∨ mode = .standby) ∧ v.allClosed = true)

theorem interlockSafe_iff (s : State) : s.InterlockSafe ↔ InterlockSafeIn s.running.doors s.control.mode s.doors := Iff.rfl

theorem interlockAsserted_eq_false {mode : Mode} {closed : Bool} :
    interlockAsserted mode closed = false ↔ (mode = .active ∨ mode = .standby) ∧ closed = true := by
  cases mode <;> simp [interlockAsserted]

theorem closed_of_allDoorsClosed {cfg : Tab 6 DoorConfig} {doors : Tab 6 DoorRun} (h : allDoorsClosed cfg doors = true) (d : Fin 6)
    (enabled : (cfg.get d).enabled = true) : (doors.get d).state = .closed := by
  have := List.all_eq_true.1 h d (List.mem_finRange d)
  simpa [enabled] using this

/-- The evaluation of the summaries makes the interlock safe, whatever it was. -/
theorem summarize_safe (always : Bool) (s : State) (a : Acc Doors) :
    InterlockSafeIn s.running.doors s.control.mode (summarize always s a).st :=
  ⟨closed_of_allDoorsClosed, interlockAsserted_eq_false⟩

section
variable {cfg : Tab 6 DoorConfig} {mode : Mode} {v v' : Doors}

/-- What keeps the states of the doors, the summary and the interlock keeps the interlock safe. -/
theorem interlockSafeIn_congr (states : ∀ d, (v'.doors.get d).state = (v.doors.get d).state) (closed : v'.allClosed = v.allClosed)
    (interlock : v'.interlock = v.interlock) (h : InterlockSafeIn cfg mode v) : InterlockSafeIn cfg mode v' := by
  unfold InterlockSafeIn
  simp only [states, closed, interlock]
  exact h

/-- A change of mode sets the interlock anew. -/
theorem doorMode_safe (new : Mode) (s : State) {a : Acc Doors} (h : InterlockSafeIn cfg mode a.st) :
    InterlockSafeIn cfg s.control.mode (doorMode new s a).st := by
  refine ⟨fun closed d enabled => ?_, interlockAsserted_eq_false⟩
  have before := h.1 closed d enabled
  simp only [doorMode, upd_st]
  split
  · simpa using before
  · exact before

end

section
variable {s : State} {a : Acc Doors}

theorem onDoor_safe (d : Fin 6) (f : DoorRun → Told DoorRun) (h : InterlockSafeIn s.running.doors s.control.mode a.st) :
    InterlockSafeIn s.running.doors s.control.mode (Doors.onDoor d f s a).st := by
  simp only [Doors.onDoor, tellRow_fst, Tab.get_set_self]
  split
  · next same =>
    refine interlockSafeIn_congr (v := a.st) (fun e => ?_) rfl rfl h
    simp only [Tab.get_set]
    split
    · next e => rw [e, same]
    · rfl
  · exact summarize_safe _ _ _

theorem doorUpdate_safe (i : Fin 256) (e : Effective) (h : InterlockSafeIn s.running.doors s.control.mode a.st) :
    InterlockSafeIn s.running.doors s.control.mode (doorUpdate i e s a).st := by
  simp only [doorUpdate]
  split
  · exact summarize_safe _ _ _
  · refine each_keeps (P := InterlockSafeIn s.running.doors s.control.mode) (fun d b hb => ?_) a h
    split
    · exact onDoor_safe _ _ hb
    · exact hb

theorem doorEvent_safe {f : State → Acc Doors → Acc Doors} (e : DoorEvent f)
    (h : InterlockSafeIn s.running.doors s.control.mode a.st) : InterlockSafeIn s.running.doors s.control.mode (f s a).st := by
  cases e with
  | update i e => exact doorUpdate_safe i e h
  | expiry d => exact onDoor_safe _ _ h
  | flags => exact interlockSafeIn_congr (v := a.st) (by simp [resetDoorFlags]) rfl rfl h

end

theorem interlockSafe_kept : Kept State.InterlockSafe where
  doors e h := doorEvent_safe e h
  control c same h := by
    rw [interlockSafe_iff] at h ⊢
    rwa [show _ = _ from same]
  time {s} dt h := by
    rw [interlockSafe_iff] at h ⊢
    rwa [advance_mode]
  tell {s m} _ _ h := by
    have told := doorMode_safe (a := ⟨s.doors, []⟩) m (((s.setMode m).runFrames (frameMode s.control.mode m)).runInputs (inputMode m)) h
    simpa [interlockSafe_iff, State.tellMode] using told
  reinit b _ _ := summarize_safe true _ _
  placed b _ _ _ := summarize_safe true _ _
  loaded e h := by
    rw [loadEntry_frame e]
    exact h
  reset r _ := by
    rw [interlockSafe_iff]
    unfold InterlockSafeIn
    simp [State.resetWith, Doors.reset, Controller.reset]

/-- Settles O54. -/
theorem interlockKept : Obligations.InterlockKept :=
  ⟨fun _ _ safe e => interlockSafe_kept.step safe e, fun _ ⟨closed, interlock⟩ released =>
    let ⟨mode, all⟩ := interlock.1 released
    ⟨mode, closed all⟩⟩

end Sys2Proof.Machine
end

section
/-! PROOFS. SoundnessProofs: the Fault Memory and the Snapshot Ring stay sound (sections 8.2 to 8.4). What soundness asks of a record is
its tag: code, source and snapshot slot. An edit of the memory keeps the tags, takes some out with their slots, or adds one. -/

namespace Sys2Proof.Machine

/-! ### Tags -/

/-- Code, source and snapshot slot of a record. -/
abbrev Tag := (Nat × FaultSource) × Option (Fin 8)

/-- The tag of a record. -/
def FaultRecord.tag (r : FaultRecord) : Tag := ((r.code, r.source), r.slot)

/-- Code and source of a snapshot. -/
def Snapshot.key (x : Snapshot) : Nat × FaultSource := (x.code, x.source)

/-- The tags and the slots belong together: a slot is filled for a tag exactly when a tag names it. -/
structure Tied (tags : List Tag) (slots : Tab 8 (Option Snapshot)) : Prop where
  nodup : (tags.map (·.1)).Nodup
  slot_named : ∀ k x, slots.get k = some x → (x.key, some k) ∈ tags
  tag_filled : ∀ key k, (key, some k) ∈ tags → ∃ x, slots.get k = some x ∧ x.key = key

theorem sound_iff (p : Persistent) : p.Sound ↔ p.records.length ≤ 32 ∧ Tied (p.records.map (·.tag)) p.slots := by
  have keys : (p.records.map (·.tag)).map (·.1) = p.records.map fun r => (r.code, r.source) := by
    rw [List.map_map]
    rfl
  constructor
  · rintro ⟨length, nodup, named, filled⟩
    refine ⟨length, keys ▸ nodup, fun k x at_k => ?_, fun key k mem => ?_⟩
    · obtain ⟨r, mem, slot, code, source⟩ := named k x at_k
      exact List.mem_map.2 ⟨r, mem, by simp [FaultRecord.tag, Snapshot.key, slot, code, source]⟩
    · obtain ⟨r, hr, e⟩ := List.mem_map.1 mem
      simp only [FaultRecord.tag, Prod.mk.injEq] at e
      obtain ⟨rfl, slot⟩ := e
      obtain ⟨x, at_k, code, source⟩ := filled r hr k slot
      exact ⟨x, at_k, by simp [Snapshot.key, code, source]⟩
  · rintro ⟨length, nodup, named, filled⟩
    refine ⟨length, keys ▸ nodup, fun k x at_k => ?_, fun r mem k slot => ?_⟩
    · obtain ⟨r, mem, e⟩ := List.mem_map.1 (named k x at_k)
      simp only [FaultRecord.tag, Snapshot.key, Prod.mk.injEq] at e
      obtain ⟨⟨code, source⟩, slot⟩ := e
      exact ⟨r, mem, slot, code, source⟩
    · obtain ⟨x, at_k, key⟩ := filled (r.code, r.source) k (List.mem_map.2 ⟨r, mem, by rw [FaultRecord.tag, slot]⟩)
      simp only [Snapshot.key, Prod.mk.injEq] at key
      exact ⟨x, at_k, key.1, key.2⟩

section
variable {tags tags' : List Tag} {slots slots' : Tab 8 (Option Snapshot)} {p q : Persistent}

/-- An edit that keeps tags and slots keeps the memory sound. -/
theorem sound_of_same_tags (h : p.Sound) (same : q.records.map (·.tag) = p.records.map (·.tag)) (slots : q.slots = p.slots) :
    q.Sound := by
  have length := congrArg List.length same
  simp only [List.length_map] at length
  rw [sound_iff] at h ⊢
  rw [same, slots, length]
  exact h

/-- Tags leave the list, and their slots are emptied. -/
theorem Tied.sublist (h : Tied tags slots) (sub : tags'.Sublist tags)
    (gone : ∀ t ∈ tags, t ∉ tags' → ∀ k, t.2 = some k → slots'.get k = none)
    (kept : ∀ k, (∀ t ∈ tags, t ∉ tags' → t.2 ≠ some k) → slots'.get k = slots.get k) : Tied tags' slots' := by
  obtain ⟨nodup, named, filled⟩ := h
  have stands : ∀ key k, (key, some k) ∈ tags' → slots'.get k = slots.get k := by
    refine fun key k mem => kept k fun t ht left slot => left ?_
    obtain ⟨x, at_k, hkey⟩ := filled t.1 k (slot ▸ ht)
    obtain ⟨y, at_k', hkey'⟩ := filled key k (sub.subset mem)
    obtain rfl : x = y := Option.some.inj (at_k.symm.trans at_k')
    rwa [show t = (key, some k) from Prod.ext (hkey.symm.trans hkey') slot]
  refine ⟨nodup.sublist (sub.map _), fun k x at_k => ?_, fun key k mem => ?_⟩
  · have old : slots'.get k = slots.get k := by
      refine kept k fun t ht left slot => ?_
      simp [gone t ht left k slot] at at_k
    by_contra left
    have mem := named k x (old ▸ at_k)
    simp [gone _ mem left k rfl] at at_k
  · rw [stands key k mem]
    exact filled key k (sub.subset mem)

/-- A tag without a slot joins the list. -/
theorem Tied.concat (h : Tied tags slots) {key : Nat × FaultSource} (new : key ∉ tags.map (·.1)) : Tied (tags ++ [(key, none)]) slots where
  nodup := by
    rw [List.map_append]
    exact h.nodup.append (List.nodup_singleton _) (by simpa using new)
  slot_named k x at_k := List.mem_append_left _ (h.slot_named k x at_k)
  tag_filled key k mem := h.tag_filled key k (by simpa using mem)

/-- A tag joins the list with the slot `k`, which another tag may lose. -/
theorem Tied.capture (h : Tied tags slots) {x : Snapshot} (k : Fin 8) (new : x.key ∉ tags.map (·.1)) :
    Tied (tags.map (fun t => if t.2 = some k then (t.1, none) else t) ++ [(x.key, some k)]) (slots.set k (some x)) := by
  have keys : (tags.map fun t => if t.2 = some k then (t.1, none) else t).map (·.1) = tags.map (·.1) := by
    rw [List.map_map]
    refine List.map_congr_left fun t _ => ?_
    simp only [Function.comp]
    split <;> rfl
  refine ⟨?_, fun j y at_j => ?_, fun key j mem => ?_⟩
  · rw [List.map_append, keys]
    exact h.nodup.append (List.nodup_singleton _) (by simpa using new)
  · rw [Tab.get_set] at at_j
    split at at_j
    · next e =>
      cases at_j
      rw [e]
      exact List.mem_append_right _ (List.mem_singleton_self _)
    · next other =>
      refine List.mem_append_left _ (List.mem_map.2 ⟨_, h.slot_named j y at_j, if_neg ?_⟩)
      simpa using other
  · rcases List.mem_append.1 mem with mem | mem
    · obtain ⟨t, ht, e⟩ := List.mem_map.1 mem
      split at e
      · cases e
      · next other =>
        obtain rfl := e
        rw [Tab.get_set_ne _ _ fun e => other (by rw [e])]
        exact h.tag_filled key j ht
    · cases List.mem_singleton.1 mem
      exact ⟨x, Tab.get_set_self _ _ _, rfl⟩

/-- New numbers leave the keys in the slots. -/
theorem Tied.renumber (h : Tied tags slots) : Tied tags (renumber slots) where
  nodup := h.nodup
  slot_named k x at_k := by
    obtain ⟨y, at_k', rfl⟩ := Option.map_eq_some_iff.1 (renumber_get slots k ▸ at_k)
    exact h.slot_named k y at_k'
  tag_filled key k mem := by
    obtain ⟨x, at_k, hkey⟩ := h.tag_filled key k mem
    exact ⟨_, (renumber_get slots k).trans (congrArg _ at_k), hkey⟩

end

/-! ### Edits -/

section
variable {code : Nat} {source : FaultSource} {p : Persistent}

theorem mem_keys {key : Nat × FaultSource} :
    key ∈ (p.records.map (·.tag)).map (·.1) ↔ ∃ r ∈ p.records, r.code = key.1 ∧ r.source = key.2 := by
  simp [FaultRecord.tag, Prod.ext_iff]

theorem sound_createRecord (severity : Nat) (list : List (Fin 256)) (eff : Fin 256 → Effective) (h : p.Sound)
    (unknown : ¬∃ r ∈ p.records, r.code = code ∧ r.source = source) (room : p.records.length < 32) :
    (createRecord code source severity list eff p).Sound := by
  obtain ⟨-, tied⟩ := (sound_iff p).1 h
  rw [sound_iff]
  cases list with
  | nil =>
    rw [createRecord_nil]
    refine ⟨by simpa using room, ?_⟩
    simpa [FaultRecord.tag] using tied.concat (mt mem_keys.1 unknown)
  | cons i list =>
    rw [createRecord_capture _ _ _ _ _ (List.cons_ne_nil i list)]
    refine ⟨by simpa using room, ?_⟩
    have captured := tied.capture (x := ⟨code, source, p.captures, p.seconds, (i :: list).map fun i => (i, eff i)⟩) (captureSlot p.slots)
      (mt mem_keys.1 unknown)
    have tags : (p.records.map (·.tag)).map (fun t => if t.2 = some (captureSlot p.slots) then (t.1, none) else t)
        = (p.records.map fun r => if r.slot = some (captureSlot p.slots) then { r with slot := none } else r).map (·.tag) := by
      simp only [List.map_map]
      refine List.map_congr_left fun r _ => ?_
      simp only [Function.comp, FaultRecord.tag]
      split <;> simp_all
    rw [tags] at captured
    rw [List.map_append]
    split
    · exact captured.renumber
    · exact captured

theorem sound_dropRecord (i : Nat) (h : p.Sound) : (dropRecord i p).Sound := by
  obtain ⟨length, tied⟩ := (sound_iff p).1 h
  rw [sound_iff]
  refine ⟨(List.length_eraseIdx_le ..).trans length, ?_⟩
  have nodup : (p.records.map (·.tag)).Nodup := tied.nodup.of_map
  have records : (dropRecord i p).records.map (·.tag) = (p.records.map (·.tag)).eraseIdx i := by
    simp [dropRecord, List.eraseIdx_map]
  have dropped : p.records[i]?.bind (·.slot) = (p.records.map (·.tag))[i]?.bind (·.2) := by
    rw [List.getElem?_map, Option.bind_map]
    rfl
  have slots : ∀ k, (dropRecord i p).slots.get k
      = if (p.records.map (·.tag))[i]?.bind (·.2) = some k then none else p.slots.get k := by
    intro k
    simp only [dropRecord, emptySlot_get, dropped]
  rw [records]
  refine tied.sublist (List.eraseIdx_sublist ..) (fun t ht gone k slot => ?_) (fun k kept => ?_)
  · obtain ⟨j, at_j⟩ := List.mem_iff_getElem?.1 ht
    have : j = i := by
      by_contra other
      exact gone (List.mem_eraseIdx_iff_getElem?.2 ⟨j, other, at_j⟩)
    rw [slots, ← this, at_j]
    exact if_pos slot
  · rw [slots]
    refine if_neg fun e => ?_
    obtain ⟨t, at_i, slot⟩ := Option.bind_eq_some_iff.1 e
    refine kept t (List.mem_of_getElem? at_i) (fun mem => ?_) slot
    obtain ⟨j, other, at_j⟩ := List.mem_eraseIdx_iff_getElem?.1 mem
    exact other ((List.getElem?_inj (List.getElem?_eq_some_iff.1 at_j).1 nodup).1 (at_j.trans at_i.symm))

theorem sound_raiseItem (severity : Nat) (list : List (Fin 256)) (eff : Fin 256 → Effective) (h : p.Sound) :
    (raiseItem code source severity list eff p).Sound := by
  by_cases known : ∃ r ∈ p.records, r.code = code ∧ r.source = source
  · rw [raiseItem_known severity list eff known]
    refine sound_of_same_tags h ?_ rfl
    rw [List.map_map]
    refine List.map_congr_left fun r _ => ?_
    simp only [Function.comp]
    split <;> rfl
  · by_cases room : p.records.length < 32
    · rw [raiseItem_new severity list eff known room]
      exact sound_createRecord severity list eff h known room
    · have full : p.records.length = 32 := by have := h.1; omega
      cases leaves : displaced severity p.records with
      | some i =>
        rw [raiseItem_displaces severity list eff known full leaves]
        obtain ⟨r, at_i⟩ := displaced_eq_some_iff.1 leaves
        have inside : i < p.records.length := (List.getElem?_eq_some_iff.1 at_i.getElem?).1
        have length : (dropRecord i p).records.length = p.records.length - 1 := List.length_eraseIdx_of_lt inside
        refine sound_createRecord severity list eff (sound_dropRecord i h) ?_ (by omega)
        rintro ⟨r, mem, matching⟩
        exact known ⟨r, List.mem_of_mem_eraseIdx mem, matching⟩
      | none =>
        rw [raiseItem_overflows severity list eff known full leaves]
        exact sound_of_same_tags h rfl rfl

theorem sound_clearItem (code : Nat) (source : FaultSource) (h : p.Sound) : (clearItem code source p).Sound := by
  refine sound_of_same_tags h ?_ rfl
  simp only [clearItem, List.map_map]
  refine List.map_congr_left fun r _ => ?_
  simp only [Function.comp]
  split <;> rfl

theorem healRecord_tag {limit : Nat} {r r' : FaultRecord} (h : healRecord limit r = some r') : r'.tag = r.tag := by
  unfold healRecord at h
  split at h
  · split at h <;> cases h
    rfl
  · cases h
    rfl

theorem map_tag_filterMap_healRecord (limit : Nat) (records : List FaultRecord) :
    (records.filterMap (healRecord limit)).map (·.tag) = (records.filter fun r => (healRecord limit r).isSome).map (·.tag) := by
  induction records with
  | nil => rfl
  | cons r records ih =>
    cases healed : healRecord limit r with
    | none => simp [healed, ih]
    | some r' => simp [healed, ih, healRecord_tag healed]

theorem sound_healItems (limit : Nat) (h : p.Sound) : (healItems limit p).Sound := by
  obtain ⟨length, tied⟩ := (sound_iff p).1 h
  rw [sound_iff]
  refine ⟨(List.length_filterMap_le ..).trans length, ?_⟩
  have records : (healItems limit p).records.map (·.tag) = _ := map_tag_filterMap_healRecord limit p.records
  have inj : ∀ r ∈ p.records, ∀ o ∈ p.records, r.tag = o.tag → r = o :=
    fun r hr o ho e => List.inj_on_of_nodup_map tied.nodup.of_map hr ho e
  rw [records]
  refine tied.sublist (List.filter_sublist.map _) (fun t ht gone k slot => ?_) (fun k kept => ?_)
  · obtain ⟨r, mem, rfl⟩ := List.mem_map.1 ht
    rw [healItems_slot]
    refine if_pos ⟨r, mem, healRecord_eq_none.1 ?_, slot⟩
    by_contra stays
    exact gone (List.mem_map_of_mem (List.mem_filter.2 ⟨mem, by simpa [Option.isSome_iff_ne_none] using stays⟩))
  · rw [healItems_slot]
    refine if_neg ?_
    rintro ⟨r, mem, leaves, slot⟩
    refine kept r.tag (List.mem_map_of_mem mem) (fun stays => ?_) slot
    obtain ⟨o, ho, same⟩ := List.mem_map.1 stays
    obtain ⟨mem', heals⟩ := List.mem_filter.1 ho
    rw [inj o mem' r mem same, healRecord_eq_none.2 leaves] at heals
    cases heals

end

/-! ### The Fault Unit -/

section
variable {a : Acc FaultUnit} {s : State}

theorem checkAttribute_sound (t : Fin 16) (h : a.st.items.Sound) : (checkAttribute t s a).st.items.Sound := by
  simp only [checkAttribute]
  split
  · split
    · rw [takeRaise, edit_items]
      exact sound_raiseItem _ _ _ h
    · exact h
  · exact h

theorem clearAttribute_sound (t : Fin 16) (h : a.st.items.Sound) : (clearAttribute t a).st.items.Sound := by
  unfold clearAttribute
  split
  · rw [takeClear, edit_items]
    exact sound_clearItem _ _ h
  · exact h

theorem setAttribute_sound (t : Fin 16) (v : Nat) (h : a.st.items.Sound) : (setAttribute t v a).st.items.Sound := by
  rw [setAttribute, edit_items]
  exact sound_of_same_tags h rfl rfl

theorem takeReport_sound (r : Report) (h : a.st.items.Sound) : (takeReport r s a).st.items.Sound := by
  unfold takeReport
  split
  · exact h
  · cases r with
    | raise code source severity =>
      simp only [takeRaise, edit_items]
      exact sound_raiseItem _ _ _ h
    | clear code source =>
      simp only [takeClear, edit_items]
      exact sound_clearItem _ _ h
    | wear kind index =>
      refine each_keeps (P := fun u => u.items.Sound) (fun t b hb => ?_) a h
      dsimp only
      split
      · exact checkAttribute_sound t (setAttribute_sound t _ hb)
      · exact hb

theorem checkAll_sound (h : a.st.items.Sound) : (a.each 16 fun t a => checkAttribute t s a).st.items.Sound :=
  each_keeps (P := fun u => u.items.Sound) (fun t _ => checkAttribute_sound t) a h

theorem reinitFaults_sound (old : Image) (h : a.st.items.Sound) : (reinitFaults old s a).st.items.Sound := by
  refine each_keeps (P := fun u => u.items.Sound) (fun t b hb => ?_) a h
  unfold reinitAttribute
  extract_lets cfg was kept ends
  have set : kept.st.items.Sound := by
    simp only [kept]
    split
    · exact setAttribute_sound t 0 hb
    · exact hb
  refine checkAttribute_sound t ?_
  split
  · exact clearAttribute_sound t set
  · exact set

theorem startFaults_sound {items : Persistent} (changed : Bool) (h : items.Sound) : (startFaults items changed s a).st.items.Sound := by
  unfold startFaults
  refine checkAll_sound (eachOf_keeps (P := fun u : FaultUnit => u.items.Sound) (fun r _ => takeReport_sound r) _ _ ?_)
  rw [edit_items, handCount_st]
  refine sound_of_same_tags h ?_ rfl
  rw [List.map_map]
  rfl

theorem empty_sound : Persistent.empty.Sound := by
  refine ⟨by simp [Persistent.empty], by simp [Persistent.empty], ?_, ?_⟩ <;> simp [Persistent.empty]

end

/-! ### The store -/

/-- The copies and the operation that runs hold sound items. -/
def Store.HoldsSound (t : Store) : Prop :=
  t.copyA.items.Sound ∧ t.copyB.items.Sound ∧ ∀ op, t.operation = some op → ∀ p ∈ op.items, p.Sound

section
variable {t : Store} {s : State}

theorem current_sound (h : t.HoldsSound) : t.current.items.Sound := by
  unfold Store.current
  split
  · exact h.2.1
  · exact h.1

theorem other_sound (h : t.HoldsSound) : t.other.items.Sound := by
  unfold Store.other
  split
  · exact h.1
  · exact h.2.1

theorem setOther_sound {c : AreaCopy} (h : t.HoldsSound) (hc : c.items.Sound) : (t.setOther c).HoldsSound := by
  unfold Store.setOther
  split
  · exact ⟨hc, h.2.1, h.2.2⟩
  · exact ⟨h.1, hc, h.2.2⟩

theorem spoil_sound (h : t.HoldsSound) : t.spoil.HoldsSound := setOther_sound h (other_sound h)

theorem saved_sound {items : Persistent} (slot : Fin 4) (h : t.HoldsSound) (hi : items.Sound) : (t.saved items slot).HoldsSound :=
  setOther_sound (c := ⟨items, slot, _, true⟩) h hi

/-- Another operation runs, which carries sound items or none. -/
theorem Store.HoldsSound.run {u : Store} (h : t.HoldsSound) (a : u.copyA = t.copyA) (b : u.copyB = t.copyB)
    (carried : ∀ op, u.operation = some op → ∀ p ∈ op.items, p.Sound) : u.HoldsSound :=
  ⟨a ▸ h.1, b ▸ h.2.1, carried⟩

theorem commitTick_sound (hi : s.faults.items.Sound) (h : s.store.HoldsSound) : s.commitTick.store.HoldsSound := by
  unfold State.commitTick
  split
  · exact h.run rfl rfl (by simp [StoreOperation.items])
  · exact h.run rfl rfl (by simp [StoreOperation.items])
  · exact (spoil_sound h).run rfl rfl (by simpa [StoreOperation.items] using hi)
  · exact h

theorem beginOperation_sound (hi : s.faults.items.Sound) (h : s.store.HoldsSound) : s.beginOperation.store.HoldsSound := by
  unfold State.beginOperation
  split
  · exact h.run rfl rfl (by simp [StoreOperation.items])
  · exact h.run rfl rfl (by simp [StoreOperation.items])
  · exact (spoil_sound h).run rfl rfl (by simpa [StoreOperation.items] using hi)
  · exact h

/-- An event of the store writes, and takes, items that are sound. -/
theorem storeEvent_sound {x : Store} (e : StoreEvent s x) (hi : s.faults.items.Sound) (h : s.store.HoldsSound) : x.HoldsSound := by
  cases e with
  | tick => exact commitTick_sound hi h
  | begin => exact beginOperation_sound hi h
  | request r =>
    unfold State.requestOperation
    split
    · exact h
    · exact beginOperation_sound hi h
  | saved op items n runs carried => exact saved_sound n h (h.2.2 op runs items carried)
  | ended => exact h.run rfl rfl nofun
  | verified => exact (spoil_sound h).run rfl rfl (by simpa [StoreOperation.items] using hi)
  | spoiled => exact spoil_sound h
  | _ => exact h

theorem afterReset_sound (h : t.HoldsSound) : t.afterReset.HoldsSound := by
  unfold Store.afterReset
  dsimp only
  split <;> exact ⟨h.1, h.2.1, nofun⟩

end

theorem faultsSound_iff (s : State) : s.FaultsSound ↔ s.faults.items.Sound ∧ s.store.HoldsSound := Iff.rfl

theorem faultsSound_steady : Steady State.FaultsSound where
  store e h := ⟨h.1, storeEvent_sound e h.1 h.2⟩
  faults {s f} v e h := by
    refine ⟨?_, h.2⟩
    cases e with
    | report r => exact takeReport_sound r h.1
    | cycle => simpa [ignitionCycle] using sound_healItems _ h.1
    | reinit old => exact reinitFaults_sound old h.1
    | start items changed held =>
      refine startFaults_sound changed ?_
      obtain rfl | rfl | rfl := held
      · exact empty_sound
      · exact h.2.1
      · exact h.2.2.1
    | reset t => exact clearAttribute_sound t (setAttribute_sound t 0 h.1)
    | emptied =>
      simp only [emptyMemory, upd_st, edit_items]
      exact ⟨by simp, by simp, by simp, by simp⟩
    | rereport => exact checkAll_sound h.1
    | second =>
      simp only [edit_items]
      exact sound_of_same_tags h.1 rfl rfl
  tell {s m} _ _ h := by
    have told : ((s.setMode m).tellMode s.control.mode m).faults = s.faults := setMode_faults s m
    rwa [faultsSound_iff, told, tellMode_store, setMode_store]

theorem faultsSound_kept : Kept State.FaultsSound where
  toSteady := faultsSound_steady
  loaded e h := by
    rw [loadEntry_frame e]
    exact h
  reset r h := ⟨empty_sound, afterReset_sound (faultsSound_steady.commitAt r h).2⟩

/-- Settles O55: every edit of the memory keeps it sound, and the store holds what the memory held. -/
theorem faultsSoundKept : Obligations.FaultsSoundKept := fun _ _ sound e => faultsSound_kept.step sound e

end Sys2Proof.Machine
end

section
/-! PROOFS. QueueProofs: the queues of the ports, the display records, the stall timer and the lamp requests (R129, R157 to R159, R165,
R166, R170): four properties of one block each, kept by all that the block can take. -/

namespace Sys2Proof.Machine

/-- The Display Link takes a change of mode in a state that agrees with the one entered on the Mode Controller and the running image. -/
theorem tellMode_display (s : State) (old new : Mode) : ∃ v : State, v.running = s.running ∧ v.control = s.control
    ∧ (s.tellMode old new).display = (displayMode old new v ⟨s.display, []⟩).st :=
  ⟨_, rfl, rfl, rfl⟩

/-! ### Queues -/

/-- A port holds no more than R158 and R159 allow. -/
def OutPort.Fits (q : OutPort) : Prop := q.forward.length ≤ 16 ∧ q.responseLoad ≤ 8

/-- Every port and every backlog of the Outbound Unit. -/
def Outbound.Bounded (o : Outbound) : Prop := (∀ p, (o.ports.get p).Fits) ∧ ∀ e, (o.schedule.get e).backlog ≤ 15

theorem queuesBounded_iff (s : State) : s.QueuesBounded ↔ s.outbound.Bounded := Iff.rfl

section
variable {a : Acc Outbound} {q : OutPort} {s : State}

theorem onPort_bounded {p : Port} {f : OutPort → Told OutPort} (fits : ∀ q, q.Fits → (f q).1.Fits) (h : a.st.Bounded) :
    (Outbound.onPort p f a).st.Bounded := by
  refine ⟨fun p' => ?_, h.2⟩
  simp only [Outbound.onPort, tellRow_fst, Tab.get_set]
  split
  · exact fits _ (h.1 p)
  · exact h.1 p'

theorem mapPorts_bounded {f : OutPort → OutPort} (fits : ∀ q, q.Fits → (f q).Fits) (h : a.st.Bounded) :
    (Outbound.mapPorts f a).st.Bounded := by
  refine ⟨fun p => ?_, h.2⟩
  simp only [Outbound.mapPorts, upd_st, Tab.get_map]
  exact fits _ (h.1 p)

theorem modifyBacklog_bounded {e : Fin 16} {f : TransmitRun → TransmitRun} (low : ∀ r, r.backlog ≤ 15 → (f r).backlog ≤ 15)
    (h : a.st.Bounded) : (a.upd fun o => { o with schedule := o.schedule.modify e f }).st.Bounded := by
  refine ⟨h.1, fun e' => ?_⟩
  simp only [upd_st, Tab.get_modify]
  split
  · exact low _ (h.2 e)
  · exact h.2 e'

theorem retime_bounded (h : a.st.Bounded) : (retime s a).st.Bounded := by
  refine ⟨h.1, fun e => ?_⟩
  simp only [retime, upd_st, Tab.get_mapIdx, retimeEntry]
  split
  · split <;> exact h.2 e
  · exact Nat.zero_le _

theorem responseLoad_of_landed (q : OutPort) : { q with flight := none }.responseLoad ≤ q.responseLoad := by
  simp [OutPort.responseLoad]

/-- A frame in flight that a port has disowned counts as it did. -/
theorem responseLoad_disown (q : OutPort) : { q with flight := q.flight.map disown }.responseLoad = q.responseLoad := by
  rcases q with ⟨forward, response, _ | ⟨kind, frame⟩, last, catchUp⟩
  · rfl
  · cases kind <;> rfl

/-- A free port's pick takes what it sends out of its queue. -/
theorem pickFrame_fits (p : Port) (schedule : Tab 16 TransmitRun) (free : q.flight = none) (h : q.Fits) :
    (pickFrame p s schedule q).Fits := by
  obtain ⟨copies, load⟩ := h
  simp only [OutPort.responseLoad, free, Nat.add_zero] at load
  unfold pickFrame
  split
  · next segment rest queued =>
    rw [queued] at load
    exact ⟨copies, load⟩
  · next empty =>
    extract_lets e u catchUp choice marked
    split
    · exact ⟨copies, by simp [OutPort.responseLoad, empty, free]⟩
    · split
      · next waits =>
        have fewer : (q.forward.tail).length ≤ 16 := by simp only [List.length_tail]; omega
        rw [show q.forward = _ from waits] at fewer
        exact ⟨fewer, by simp [OutPort.responseLoad, marked, empty]⟩
      · exact ⟨copies, by simp [OutPort.responseLoad, marked, empty]⟩
      · exact ⟨copies, by simp [OutPort.responseLoad, marked, empty, free]⟩

theorem completeFrame_bounded (p : Port) (h : a.st.Bounded) : (completeFrame p a).st.Bounded := by
  have landed : (Outbound.onPort p (fun q => ({ q with flight := none }, [])) a).st.Bounded :=
    onPort_bounded (fun q fits => ⟨fits.1, (responseLoad_of_landed q).trans fits.2⟩) h
  unfold completeFrame
  dsimp only
  split
  · exact modifyBacklog_bounded (fun r low => (Nat.sub_le _ _).trans low) landed
  · exact landed

/-- A response segment goes back to the queue it has counted against. -/
theorem abandonFrame_bounded (p : Port) (h : a.st.Bounded) : (abandonFrame p a).st.Bounded := by
  refine onPort_bounded (fun q fits => ?_) h
  obtain ⟨copies, load⟩ := fits
  have landed := (responseLoad_of_landed q).trans load
  split
  · exact ⟨copies, load⟩
  · exact ⟨copies, landed⟩
  · exact ⟨copies, landed⟩
  · next flies =>
    refine ⟨copies, ?_⟩
    simpa [OutPort.responseLoad, flies] using load

theorem outboundMode_bounded (new : Mode) (h : a.st.Bounded) : (outboundMode new s a).st.Bounded := by
  unfold outboundMode
  refine retime_bounded ?_
  split
  · exact mapPorts_bounded (fun q fits => ⟨Nat.zero_le _, fits.2⟩) h
  · exact mapPorts_bounded (fun q _ => ⟨Nat.zero_le _, by simp [OutPort.responseLoad]⟩) h
  · exact h

theorem outboundEvent_bounded {f : State → Acc Outbound → Acc Outbound} (e : OutboundEvent f) (h : a.st.Bounded) :
    (f s a).st.Bounded := by
  cases e with
  | forward p c =>
    refine onPort_bounded (fun q fits => ?_) h
    split
    · exact ⟨by simp only [List.length_append, List.length_singleton]; omega, fits.2⟩
    · exact fits
  | respond p l =>
    refine onPort_bounded (fun q fits => ?_) h
    dsimp only
    split
    · next room =>
      refine ⟨fits.1, ?_⟩
      simp only [OutPort.responseLoad, List.length_append] at room ⊢
      omega
    · exact fits
  | pick =>
    refine ⟨fun p => ?_, h.2⟩
    simp only [pickAll, upd_st, Tab.get_mapIdx]
    split
    · next sends =>
      exact pickFrame_fits p _ (by simpa using (Bool.and_eq_true_iff.1 sends).2) (h.1 p)
    · exact h.1 p
  | complete p => exact completeFrame_bounded p h
  | abandon p => exact abandonFrame_bounded p h
  | period e => exact modifyBacklog_bounded (fun r low => satSucc_le low) h

theorem reinitOutbound_bounded (h : a.st.Bounded) : (reinitOutbound a).st.Bounded := by
  refine ⟨(mapPorts_bounded (fun q fits => ⟨Nat.zero_le _, ?_⟩) h).1, fun e => ?_⟩
  · exact (responseLoad_disown q).le.trans fits.2
  · simp [reinitOutbound]

end

theorem queuesBounded_kept : Kept State.QueuesBounded where
  outbound e h := outboundEvent_bounded e h
  tell {s m} _ _ h := by
    have before : (s.setMode m).outbound.Bounded := by rwa [setMode_outbound]
    exact outboundMode_bounded (a := ⟨_, []⟩) m before
  reinit b _ h := reinitOutbound_bounded (a := ⟨_, []⟩) h
  placed b _ _ h := reinitOutbound_bounded (a := ⟨_, []⟩) h
  loaded e h := by
    rw [loadEntry_frame e]
    exact h
  reset _ _ := ⟨fun p => by simp [State.resetWith, Outbound.reset, OutPort.reset, OutPort.responseLoad],
    fun e => by simp [State.resetWith, Outbound.reset]⟩

/-! ### Display records -/

/-- A record of kind `kind` is dirty or sent as it stands, and empty if it is of none (R165, R166). -/
def DisplayRecord.SoundAs (kind : RecordKind) (r : DisplayRecord) : Prop :=
  (r.dirty = true ∨ r.current = r.lastSent)
    ∧ (kind = .none → r.current = DisplayRecord.emptyContent ∧ r.lastSent = DisplayRecord.emptyContent)

/-- Every record of the link is sound as the kind that `kinds` gives it. -/
def Display.SoundAs (kinds : Tab 64 RecordKind) (d : Display) : Prop := ∀ i, (d.records.get i).SoundAs (kinds.get i)

theorem recordsSound_iff (s : State) : s.RecordsSound ↔ s.display.SoundAs s.running.display := Iff.rfl

section
variable {s : State} {a : Acc Display} {kinds : Tab 64 RecordKind}

theorem mapRecords_sound {f : Fin 64 → RecordKind → DisplayRecord → DisplayRecord}
    (each : ∀ i r, r.SoundAs (kinds.get i) → (f i (s.running.display.get i) r).SoundAs (s.running.display.get i))
    (h : a.st.SoundAs kinds) : (Display.mapRecords s f a).st.SoundAs s.running.display := fun i => by
  rw [mapRecords_get]
  exact each i _ (h i)

theorem restall_sound (h : a.st.SoundAs kinds) : (restall s a).st.SoundAs kinds := fun i => by
  rw [restall_records]
  exact h i

theorem writeRecord_sound {kind : RecordKind} (content : List Byte) {r : DisplayRecord} (defined : kind ≠ .none) (h : r.SoundAs kind) :
    (writeRecord content r).SoundAs kind := by
  unfold writeRecord
  split
  · exact h
  · exact ⟨.inl rfl, fun e => absurd e defined⟩

theorem writeKind_sound (k : RecordKind) (content : List Byte) (h : a.st.SoundAs s.running.display) :
    (writeKind k content s a).st.SoundAs s.running.display := by
  refine mapRecords_sound (fun i r hr => ?_) h
  split
  · next written => exact writeRecord_sound content (written.1 ▸ written.2) hr
  · exact hr

theorem writeMirror_sound (j : Fin 64) (content : List Byte) (h : a.st.SoundAs s.running.display) :
    (writeMirror j content s a).st.SoundAs s.running.display := by
  refine mapRecords_sound (fun i r hr => ?_) h
  split
  · next written => exact writeRecord_sound content (by rw [written.2]; decide) hr
  · exact hr

theorem markAll_sound (h : a.st.SoundAs s.running.display) : (markAll s a).st.SoundAs s.running.display := by
  refine mapRecords_sound (fun i r hr => ?_) h
  split
  · exact hr
  · exact ⟨.inl rfl, hr.2⟩

theorem clearStall_sound (h : a.st.SoundAs kinds) : (clearStall a).st.SoundAs kinds := fun i => by
  rw [clearStall_records]
  exact h i

@[simp] theorem raiseStall_records (a : Acc Display) : (raiseStall a).st.records = a.st.records := by
  simp only [raiseStall, upd_st, sayIf_st]

theorem completeTransfer_sound (status : Byte) (h : a.st.SoundAs s.running.display) :
    (completeTransfer status s a).st.SoundAs s.running.display := by
  unfold completeTransfer
  split
  · exact h
  · next t flies =>
    dsimp only
    split
    · have sent := mapRecords_sound (s := s) (a := a.upd fun d => { d with flight := none })
        (f := fun i kind r => if i = t.index then sentRecord kind t.copy r else r) (fun i r hr => by
          split
          · refine ⟨sentRecord_sound fun none => ?_, fun none => ?_⟩
            · rw [(hr.2 none).1, (hr.2 none).2]
            · rw [none] at hr ⊢
              exact hr.2 rfl
          · exact hr) h
      rw [sayAll_st]
      split
      · exact markAll_sound sent
      · exact sent
    · exact restall_sound h

theorem displayEvent_sound {f : State → Acc Display → Acc Display} (e : DisplayEvent f) (h : a.st.SoundAs s.running.display) :
    (f s a).st.SoundAs s.running.display := by
  cases e with
  | kind k content => exact writeKind_sound k content h
  | mirror i content => exact writeMirror_sound i content h
  | transfer =>
    unfold startTransfer
    dsimp only
    split
    · split <;> exact h
    · exact h
  | readyOn =>
    unfold readyOn
    dsimp only
    split
    · exact markAll_sound (clearStall_sound (a := a.upd _ |>.upd _) h)
    · exact restall_sound h
  | readyOff => exact restall_sound (a := a.upd _) h
  | complete status => exact completeTransfer_sound status h
  | refresh => exact markAll_sound (a := a.upd _) h
  | stall =>
    intro i
    simpa [takeStall] using h i
  | rereport =>
    intro i
    dsimp only [rereportDisplay]
    split
    · simpa using h i
    · exact h i

theorem displayMode_sound (old new : Mode) (h : a.st.SoundAs s.running.display) :
    (displayMode old new s a).st.SoundAs s.running.display := by
  have sends : ∀ new, Mode.sends new = true → (displayMode old new s a).st.SoundAs s.running.display := by
    intro new hs
    cases new <;> cases hs <;>
    · simp only [displayMode]
      split
      · exact markAll_sound (a := a.upd _) h
      · split
        · exact restall_sound h
        · exact restall_sound h
  cases new with
  | active => exact sends _ rfl
  | configuring => exact sends _ rfl
  | standby => exact clearStall_sound h
  | sleep => exact clearStall_sound h
  | starting => exact h

/-- A record whose kind changes is emptied. -/
theorem takeKinds_sound (old : Image) (h : a.st.SoundAs old.display) : (takeKinds old s a).st.SoundAs s.running.display := by
  refine mapRecords_sound (fun i r hr => ⟨takeKind_sound hr.1, fun none => ?_⟩) h
  by_cases same : old.display.get i = s.running.display.get i
  · simpa [takeKind, same] using hr.2 (same.trans none)
  · simp [takeKind, same]

end

theorem recordsSound_kept : Kept State.RecordsSound where
  display e h := displayEvent_sound e h
  tell {s m} _ _ h := by
    obtain ⟨v, running, -, e⟩ := tellMode_display (s.setMode m) s.control.mode m
    rw [setMode_running] at running
    rw [setMode_display] at e
    have told := displayMode_sound (s := v) (a := ⟨s.display, []⟩) s.control.mode m (running ▸ h)
    rw [recordsSound_iff, e, show ((s.setMode m).tellMode s.control.mode m).running = s.running from setMode_running s m, ← running]
    exact told
  reinit b _ h := takeKinds_sound (a := ⟨_, []⟩) _ h
  placed b _ _ h := takeKinds_sound (a := ⟨_, []⟩) _ h
  loaded e h := by
    rw [loadEntry_frame e]
    exact h
  reset _ _ := fun i => by
    simp [State.resetWith, Display.reset, DisplayRecord.reset]

/-! ### The stall timer -/

/-- The stall timer runs exactly under the conditions of R170, the mode being `mode`. -/
def Display.StallsIn (mode : Mode) (d : Display) : Prop :=
  d.stall ≠ none ↔ d.link = .running ∧ (mode = .active ∨ mode = .configuring) ∧ d.ready = false
    ∧ ∃ i, (d.records.get i).dirty = true

theorem stallFollows_iff (s : State) : s.StallFollows ↔ s.display.StallsIn s.control.mode := Iff.rfl

theorem sends_iff {mode : Mode} : mode.sends = true ↔ mode = .active ∨ mode = .configuring := by cases mode <;> simp [Mode.sends]

theorem anyDirty_iff {d : Display} : anyDirty d = true ↔ ∃ i, (d.records.get i).dirty = true := by
  simp only [anyDirty, List.any_eq_true]
  constructor
  · rintro ⟨r, mem, dirty⟩
    obtain ⟨i, rfl⟩ := Tab.get_of_mem mem
    exact ⟨i, dirty⟩
  · rintro ⟨i, dirty⟩
    exact ⟨_, List.getElem_mem _, dirty⟩

section
variable {s : State} {a : Acc Display}

/-- The timer follows its conditions whatever it did before. -/
theorem restall_stallsIn (s : State) (a : Acc Display) : (restall s a).st.StallsIn s.control.mode := by
  simp [Display.StallsIn, restall_eq, ← sends_iff, ← anyDirty_iff, anyDirty, and_assoc]

theorem mapRecords_stallsIn (f : Fin 64 → RecordKind → DisplayRecord → DisplayRecord) (s : State) (a : Acc Display) :
    (Display.mapRecords s f a).st.StallsIn s.control.mode := restall_stallsIn s _

theorem markAll_stallsIn (s : State) (a : Acc Display) : (markAll s a).st.StallsIn s.control.mode := mapRecords_stallsIn _ s a

theorem raiseStall_stallsIn {mode : Mode} (h : a.st.StallsIn mode) : (raiseStall a).st.StallsIn mode := by
  simp only [raiseStall, upd_st, sayIf_st]
  exact h

theorem clearStall_stallsIn {mode : Mode} (h : a.st.StallsIn mode) : (clearStall a).st.StallsIn mode := by
  simp only [clearStall, upd_st, sayIf_st]
  exact h

theorem displayEvent_stallsIn {f : State → Acc Display → Acc Display} (e : DisplayEvent f) (h : a.st.StallsIn s.control.mode) :
    (f s a).st.StallsIn s.control.mode := by
  cases e with
  | kind | mirror => exact mapRecords_stallsIn _ s a
  | transfer =>
    unfold startTransfer
    dsimp only
    split
    · split <;> exact h
    · exact h
  | readyOn =>
    unfold readyOn
    dsimp only
    split
    · exact markAll_stallsIn s _
    · exact restall_stallsIn s _
  | readyOff => exact restall_stallsIn s _
  | complete status =>
    unfold completeTransfer
    split
    · exact h
    · dsimp only
      split
      · rw [sayAll_st]
        split
        · exact markAll_stallsIn s _
        · exact mapRecords_stallsIn _ s _
      · exact restall_stallsIn s _
  | refresh => exact markAll_stallsIn s _
  | stall =>
    refine raiseStall_stallsIn ?_
    simp [Display.StallsIn]
  | rereport =>
    dsimp only [rereportDisplay]
    split
    · exact raiseStall_stallsIn h
    · exact h

/-- In a mode that does not send the link is IDLE and the timer stopped. -/
theorem displayMode_stallsIn (old : Mode) {new : Mode} (entered : s.control.mode = new) (started : new ≠ .starting) :
    (displayMode old new s a).st.StallsIn new := by
  subst entered
  unfold displayMode
  split
  · split
    · exact markAll_stallsIn s _
    · split <;> exact restall_stallsIn s _
  · split
    · exact markAll_stallsIn s _
    · split <;> exact restall_stallsIn s _
  · simp [Display.StallsIn]
  · simp [Display.StallsIn]
  · next e => exact absurd e started

end

theorem stallFollows_kept : Kept State.StallFollows where
  display e h := displayEvent_stallsIn e h
  control c same h := by
    rw [stallFollows_iff] at h ⊢
    rwa [show c.mode = _ from same]
  time {s} dt h := by
    rw [stallFollows_iff] at h ⊢
    rwa [advance_mode]
  tell {s m} started _ _ := by
    obtain ⟨v, -, control, e⟩ := tellMode_display (s.setMode m) s.control.mode m
    have mode : v.control.mode = m := by rw [control, setMode_mode]
    rw [stallFollows_iff, e, show ((s.setMode m).tellMode s.control.mode m).control = (s.setMode m).control from rfl, setMode_mode]
    exact displayMode_stallsIn _ mode started
  reinit b _ _ := mapRecords_stallsIn _ _ _
  placed b _ _ _ := mapRecords_stallsIn _ _ _
  loaded e h := by
    rw [loadEntry_frame e]
    exact h
  reset _ _ := by
    rw [stallFollows_iff]
    simp [Display.StallsIn, State.resetWith, Display.reset, Controller.reset]

/-! ### Lamp requests -/

/-- A lamp's requests stand in their order, one for a warning at most. -/
def LampRun.Ordered (r : LampRun) : Prop :=
  r.requests.Pairwise LampRequest.before ∧ (r.requests.map (·.warning)).Nodup

/-- Every lamp of the unit. -/
def Lamps.Ordered (u : Lamps) : Prop := ∀ l, (u.lamps.get l).Ordered

theorem lampRequestsOrdered_iff (s : State) : s.LampRequestsOrdered ↔ s.lamps.Ordered := Iff.rfl

section
variable {s : State} {a : Acc Lamps} {r : LampRun}

theorem ordered_filter (p : LampRequest → Bool) (h : r.Ordered) : { r with requests := r.requests.filter p }.Ordered :=
  ⟨h.1.sublist List.filter_sublist, h.2.sublist (List.filter_sublist.map _)⟩

theorem addRequest_perm (q : LampRequest) (l : List LampRequest) : (addRequest q l).Perm (q :: l) := by
  induction l with
  | nil => exact .refl _
  | cons x l ih =>
    unfold addRequest
    split
    · exact .refl _
    · exact (ih.cons x).trans (.swap q x l)

/-- A warning's request takes the place of the one it had. -/
theorem ordered_addRequest (q : LampRequest) (h : r.Ordered) :
    { r with requests := addRequest q (r.requests.filter (·.warning != q.warning)) }.Ordered := by
  obtain ⟨order, single⟩ := ordered_filter (·.warning != q.warning) h
  have others : ∀ o ∈ r.requests.filter (·.warning != q.warning), o.warning ≠ q.warning := fun o ho => by
    simpa using (List.mem_filter.1 ho).2
  refine ⟨addRequest_ordered order others, ((addRequest_perm q _).map _).nodup_iff.2 ?_⟩
  rw [List.map_cons, List.nodup_cons]
  refine ⟨fun mem => ?_, single⟩
  obtain ⟨o, ho, same⟩ := List.mem_map.1 mem
  exact others o ho same

theorem relight_requests (s : State) (a : Acc Lamps) (l : Fin 24) :
    ((relight s a).st.lamps.get l).requests = (a.st.lamps.get l).requests := by
  simp [relight]

theorem relight_ordered (h : a.st.Ordered) : (relight s a).st.Ordered := fun l => by
  have := h l
  unfold LampRun.Ordered at this ⊢
  rwa [relight_requests]

theorem onLamps_ordered {f : Fin 24 → LampConfig → LampRun → Told LampRun} (each : ∀ l cfg r, r.Ordered → (f l cfg r).1.Ordered)
    (h : a.st.Ordered) : (Lamps.onLamps s f a).st.Ordered :=
  relight_ordered fun l => by
    simp only [tellRows_get]
    exact each l _ _ (h l)

theorem lampSignal_ordered (i : Fin 256) (e : Effective) (h : a.st.Ordered) :
    (lampSignal i e s a).st.Ordered := by
  unfold lampSignal
  refine onLamps_ordered (fun l cfg r hr => ?_) ?_
  · split <;> exact hr
  · split <;> exact h

theorem lampEvent_ordered {f : State → Acc Lamps → Acc Lamps} (e : LampEvent f) (h : a.st.Ordered) :
    (f s a).st.Ordered := by
  cases e with
  | signal i e => exact lampSignal_ordered i e h
  | give l q =>
    refine onLamps_ordered (fun k cfg r hr => ?_) h
    split
    · exact ordered_addRequest q hr
    · exact hr
  | withdraw l w =>
    refine onLamps_ordered (fun k cfg r hr => ?_) h
    split
    · exact ordered_filter _ hr
    · exact hr
  | door d p =>
    refine onLamps_ordered (fun k cfg r hr => ?_) h
    split <;> exact hr
  | relight => exact relight_ordered h
  | step =>
    have lit := relight_ordered (s := s) (a := a.upd fun u =>
      { u with step := (u.step + 1) % 65536, stepTimer := some (s.now + s.running.general.stepInterval) }) h
    unfold takeStep
    dsimp only
    split
    · rw [sayIf_st]
      exact lit
    · exact lit
  | bulb => exact relight_ordered (a := a.upd _) h
  | sensing l q =>
    refine onLamps_ordered (fun k cfg r hr => ?_) h
    split
    · cases q <;> exact hr
    · exact hr
  | rereport =>
    refine onLamps_ordered (fun k cfg r hr => ?_) h
    split <;> exact hr

theorem lampMode_ordered (new : Mode) (h : a.st.Ordered) : (lampMode new s a).st.Ordered := by
  unfold lampMode
  refine onLamps_ordered (fun k cfg r hr => ?_) h
  split <;> exact hr

theorem freshLamp_requests (l : Fin 24) (cfg : LampConfig) (s : State) (r : LampRun) :
    (freshLamp l cfg s r).1.requests = r.requests := rfl

theorem reinitLamps_ordered (h : a.st.Ordered) : (reinitLamps s a).st.Ordered := by
  unfold reinitLamps
  extract_lets dimmed timed resolved
  have fresh : resolved.st.Ordered := onLamps_ordered (fun l cfg r hr => by
    unfold LampRun.Ordered
    rwa [freshLamp_requests]) h
  rwa [say_st]

end

theorem lampRequestsOrdered_kept : Kept State.LampRequestsOrdered where
  lamps e h := lampEvent_ordered e h
  tell {s m} _ _ h := by
    rw [lampRequestsOrdered_iff, ← setMode_lamps s m] at h
    exact lampMode_ordered (a := ⟨_, []⟩) m h
  reinit b _ h := reinitLamps_ordered (a := ⟨_, []⟩) h
  placed b _ _ h := reinitLamps_ordered (a := ⟨_, []⟩) h
  loaded e h := by
    rw [loadEntry_frame e]
    exact h
  reset _ _ := fun l => by
    simp [State.resetWith, Lamps.reset, LampRun.reset]

/-- Settles O56: four properties of one block each. -/
theorem queuesAndRecordsKept : Obligations.QueuesAndRecordsKept :=
  ⟨fun _ _ h e => queuesBounded_kept.step h e, fun _ _ h e => recordsSound_kept.step h e,
    fun _ _ h e => stallFollows_kept.step h e, fun _ _ h e => lampRequestsOrdered_kept.step h e⟩

end Sys2Proof.Machine
end

section
/-! PROOFS. PresentationProofs: the Presentation Stack and the Waiting List (R114 to R118, R125). What is listed is described by a
predicate of its own, so that an operation on the lists and the change of a record that goes with it can be stated apart; and both
statements, of the stack alone and of the whole presentation, are proved once, with a condition `full` before what only the second asks
for. -/

namespace Sys2Proof.Machine

/-! ### What the lists hold -/

/-- The lists of `v` hold the warnings of `q`, each once, the stack's levels rising; in full, the levels are those of the running
definitions, and the Waiting List is in their order. -/
structure Lists (full : Prop) (s : State) (q : Fin 64 → Prop) (v : Warnings) : Prop where
  rising : v.stack.Pairwise fun a b => a.level < b.level
  nodup : v.listed.Nodup
  listed : ∀ w, w ∈ v.listed ↔ q w
  named : full → ∀ e ∈ v.stack, e.level = levelOf s e.warning
  ordered : full → v.waiting.Pairwise fun a b => levelOf s a ≤ levelOf s b

/-- No unmasked warning waits above the top of the stack or beside an empty one. -/
def NoneAbove (s : State) (v : Warnings) : Prop :=
  ∀ w ∈ v.waiting, masked s v (levelOf s w) = false → ∃ top, v.stack.head? = some top ∧ top.level ≤ levelOf s w

/-- The lists hold the warnings of `q`, and in full none of those that wait should be presented. -/
structure Presents (full : Prop) (s : State) (q : Fin 64 → Prop) (v : Warnings) : Prop extends Lists full s q v where
  settled : full → NoneAbove s v

/-- The warnings that the records of `v` make presentable. -/
def Warnings.shows (v : Warnings) (w : Fin 64) : Prop := (v.recs.get w).presentable = true

/-- Nothing is presented and every warning is OFF. -/
def Warnings.Quiet (v : Warnings) : Prop := v.listed = [] ∧ ∀ w, (v.recs.get w).state = .off

section
variable {full : Prop} {s : State} {q q' : Fin 64 → Prop} {v v' : Warnings} {a : Acc Warnings} {w : Fin 64}

theorem Lists.congr (h : Lists full s q v) (stack : v'.stack = v.stack) (waiting : v'.waiting = v.waiting) (same : ∀ w, q w ↔ q' w) :
    Lists full s q' v' := by
  obtain ⟨rising, nodup, listed, named, ordered⟩ := h
  have lists : v'.listed = v.listed := by rw [Warnings.listed, stack, waiting, Warnings.listed]
  exact ⟨stack ▸ rising, lists ▸ nodup, fun w => (lists ▸ listed w).trans (same w), stack ▸ named, waiting ▸ ordered⟩

theorem NoneAbove.congr (h : NoneAbove s v) (stack : v'.stack = v.stack) (waiting : v'.waiting = v.waiting) (moving : v'.moving = v.moving) :
    NoneAbove s v' := by
  unfold NoneAbove masked at h ⊢
  rwa [stack, waiting, moving]

theorem Presents.congr (h : Presents full s q v) (stack : v'.stack = v.stack) (waiting : v'.waiting = v.waiting)
    (moving : v'.moving = v.moving) (same : ∀ w, q w ↔ q' w) : Presents full s q' v' :=
  ⟨h.toLists.congr stack waiting same, fun f => (h.settled f).congr stack waiting moving⟩

/-- A change of the top entry that keeps its warning and its level. -/
theorem Presents.retop {top top' : StackEntry} {rest : List StackEntry} (h : Presents full s q v) (old : v.stack = top :: rest)
    (new : v'.stack = top' :: rest) (warning : top'.warning = top.warning) (level : top'.level = top.level)
    (waiting : v'.waiting = v.waiting) (moving : v'.moving = v.moving) : Presents full s q v' := by
  obtain ⟨⟨rising, nodup, listed, named, ordered⟩, settled⟩ := h
  have lists : v'.listed = v.listed := by simp [Warnings.listed, old, new, warning, waiting]
  refine ⟨⟨?_, lists ▸ nodup, lists ▸ listed, fun f e he => ?_, waiting ▸ ordered⟩, fun f w hw unmasked => ?_⟩
  · rw [old, List.pairwise_cons] at rising
    rw [new, List.pairwise_cons, level]
    exact rising
  · rw [new] at he
    rcases List.mem_cons.1 he with rfl | he
    · rw [level, warning]
      exact named f top (old ▸ List.mem_cons_self)
    · exact named f e (old ▸ List.mem_cons_of_mem _ he)
  · rw [waiting] at hw
    obtain ⟨t, head, low⟩ := settled f w hw (by simpa [masked, moving] using unmasked)
    rw [old] at head
    cases head
    exact ⟨top', by rw [new]; rfl, level ▸ low⟩

/-- With nothing listed there is nothing to be out of order. -/
theorem presents_of_quiet (h : v.Quiet) : Presents full s v.shows v := by
  obtain ⟨empty, off⟩ := h
  have ⟨stack, waiting⟩ : v.stack = [] ∧ v.waiting = [] := by simpa [Warnings.listed] using empty
  refine ⟨⟨by simp [stack], by simp [empty], fun w => ?_, by simp [stack], by simp [waiting]⟩, fun _ => ?_⟩
  · simp [empty, Warnings.shows, WarningRun.presentable, off w]
  · simp [NoneAbove, waiting]

/-! ### Operations on the lists -/

@[simp] theorem topChanged_stack (s : State) (a : Acc Warnings) : (topChanged s a).st.stack = a.st.stack := by
  cases h : a.st.stack with
  | nil => rw [topChanged_nil s h, h]
  | cons => exact (topChanged_cons s h).1

@[simp] theorem topChanged_waiting (s : State) (a : Acc Warnings) : (topChanged s a).st.waiting = a.st.waiting := by
  cases h : a.st.stack with
  | nil => rw [topChanged_nil s h]
  | cons => exact (topChanged_cons s h).2.1

@[simp] theorem topChanged_recs (s : State) (a : Acc Warnings) : (topChanged s a).st.recs = a.st.recs := by
  cases h : a.st.stack with
  | nil => rw [topChanged_nil s h]
  | cons => exact (topChanged_cons s h).2.2.1

@[simp] theorem topChanged_moving (s : State) (a : Acc Warnings) : (topChanged s a).st.moving = a.st.moving := by
  simp only [topChanged, showPresent, say_st, upd_st]
  split
  · rfl
  · split
    · split <;> rfl
    · rfl

@[simp] theorem showPresent_st (s : State) (a : Acc Warnings) : (showPresent s a).st = a.st := rfl

@[simp] theorem push_recs (w : Fin 64) (s : State) (a : Acc Warnings) : (push w s a).st.recs = a.st.recs := by
  simp [push]

@[simp] theorem push_moving (w : Fin 64) (s : State) (a : Acc Warnings) : (push w s a).st.moving = a.st.moving := by
  simp [push]

/-- Of a rising stack an entry of a level above the top's is below none. -/
theorem above_iff {n : Nat} {stack : List StackEntry} (rising : stack.Pairwise fun a b => a.level < b.level) :
    above n stack = true ↔ ∀ e ∈ stack, n < e.level := by
  cases stack with
  | nil => simp [above]
  | cons top rest =>
    simp only [above, decide_eq_true_eq, List.forall_mem_cons]
    exact ⟨fun low => ⟨low, fun e he => low.trans ((List.pairwise_cons.1 rising).1 e he)⟩, fun h => h.1⟩

theorem push_lists (h : Lists full s q a.st) (new : ¬q w) (low : above (levelOf s w) a.st.stack = true) :
    Lists full s (fun x => x = w ∨ q x) (push w s a).st := by
  obtain ⟨rising, nodup, listed, named, ordered⟩ := h
  have lists : (push w s a).st.listed = w :: a.st.listed := by simp [push, Warnings.listed]
  refine ⟨?_, ?_, fun x => ?_, fun f => ?_, by simpa [push] using ordered⟩
  · simp only [push, topChanged_stack, upd_st, List.pairwise_cons]
    exact ⟨(above_iff rising).1 low, rising⟩
  · rw [lists, List.nodup_cons, listed]
    exact ⟨new, nodup⟩
  · rw [lists, List.mem_cons, listed]
  · simp only [push, topChanged_stack, upd_st, List.forall_mem_cons]
    exact ⟨rfl, named f⟩

/-- A warning leaves the stack or the Waiting List, wherever it stands. -/
theorem remove_lists (h : Lists full s q v) (stack : v'.stack = v.stack.filter (·.warning != w))
    (waiting : v'.waiting = v.waiting.erase w) : Lists full s (fun x => x ≠ w ∧ q x) v' := by
  obtain ⟨rising, nodup, listed, named, ordered⟩ := h
  have filtered : v'.stack.Sublist v.stack := stack ▸ List.filter_sublist
  have erased : v'.waiting.Sublist v.waiting := waiting ▸ List.erase_sublist
  refine ⟨rising.sublist filtered, nodup.sublist ((filtered.map _).append erased), fun x => ?_,
    fun f e he => named f e (filtered.subset he), fun f => (ordered f).sublist erased⟩
  have waitingNodup : v.waiting.Nodup := (List.nodup_append.1 nodup).2.1
  have onStack : x ∈ v'.stack.map (·.warning) ↔ x ≠ w ∧ x ∈ v.stack.map (·.warning) := by
    simp only [stack, List.mem_map, List.mem_filter, bne_iff_ne]
    constructor
    · rintro ⟨e, ⟨he, ne⟩, rfl⟩
      exact ⟨ne, e, he, rfl⟩
    · rintro ⟨ne, e, he, rfl⟩
      exact ⟨e, ⟨he, ne⟩, rfl⟩
  have inWaiting : x ∈ v'.waiting ↔ x ≠ w ∧ x ∈ v.waiting := by rw [waiting, waitingNodup.mem_erase_iff]
  rw [← listed x, Warnings.listed, List.mem_append, onStack, inWaiting, Warnings.listed, List.mem_append]
  tauto

theorem erase_lists (h : Lists full s q v) (waits : w ∈ v.waiting) :
    Lists full s (fun x => x ≠ w ∧ q x) { v with waiting := v.waiting.erase w } := by
  refine remove_lists h (List.filter_eq_self.2 fun e he => ?_).symm rfl
  have apart := (List.nodup_append.1 h.nodup).2.2
  simpa using fun same : e.warning = w => apart _ (List.mem_map_of_mem he) w waits same

/-- A warning that may not be pushed though unmasked finds the stack's top in its way. -/
theorem top_of_not_above {n : Nat} {stack : List StackEntry} (h : ¬above n stack = true) : ∃ top, stack.head? = some top ∧ top.level ≤ n := by
  cases stack with
  | nil => exact absurd rfl h
  | cons top rest => exact ⟨top, rfl, by simpa [above] using h⟩

/-- The promotion check leaves none that should be presented waiting, whatever waited before. -/
theorem promote_presents {otherwise : Acc Warnings → Acc Warnings}
    (kept : (otherwise a).st.stack = a.st.stack ∧ (otherwise a).st.waiting = a.st.waiting ∧ (otherwise a).st.moving = a.st.moving)
    (h : Lists full s q a.st) : Presents full s q (promote s otherwise a).st := by
  obtain ⟨stack, waiting, moving⟩ := kept
  have stays : NoneAbove s a.st → Presents full s q (otherwise a).st := fun settled =>
    ⟨h.congr stack waiting fun _ => .rfl, fun _ => settled.congr stack waiting moving⟩
  unfold promote
  split
  · next w best =>
    have waits : w ∈ a.st.waiting := List.mem_of_find?_eq_some best
    have first : full → ∀ x ∈ a.st.waiting, masked s a.st (levelOf s x) = false → levelOf s w ≤ levelOf s x := by
      intro f x hx unmasked
      obtain ⟨-, before, after, split, skipped⟩ := List.find?_eq_some_iff_append.1 best
      have order := h.ordered f
      rw [split] at order hx
      rcases List.mem_append.1 hx with hx | hx
      · have := skipped x hx
        simp [unmasked] at this
      · rcases List.mem_cons.1 hx with rfl | hx
        · exact le_rfl
        · exact (List.pairwise_cons.1 (List.pairwise_append.1 order).2.1).1 x hx
    split
    · next low =>
      have pushed := push_lists (a := a.upd fun v => { v with waiting := v.waiting.erase w }) (erase_lists h waits) (by simp) low
      refine ⟨pushed.congr rfl rfl fun x => ?_, fun f x hx unmasked => ?_⟩
      · by_cases e : x = w
        · simp [e, (h.listed w).1 (List.mem_append_right _ waits)]
        · simp [e]
      · have mem : x ∈ a.st.waiting := List.mem_of_mem_erase (by simpa [push] using hx)
        exact ⟨_, by simp only [push, topChanged_stack, upd_st]; rfl, first f x mem (by simpa [masked] using unmasked)⟩
    · next high =>
      obtain ⟨top, head, low⟩ := top_of_not_above high
      refine ⟨h.congr stack waiting fun _ => .rfl, fun f x hx unmasked => ?_⟩
      rw [waiting] at hx
      rw [stack]
      exact ⟨top, head, low.trans (first f x hx (by simpa [masked, moving] using unmasked))⟩
  · next none =>
    refine stays fun w hw unmasked => ?_
    have := List.find?_eq_none.1 none w hw
    simp [unmasked] at this

/-! ### Arrival -/

theorem enqueue_perm (s : State) (recs : Tab 64 WarningRun) (w : Fin 64) (l : List (Fin 64)) : (enqueue s recs w l).Perm (w :: l) := by
  induction l with
  | nil => exact .refl _
  | cons x l ih =>
    unfold enqueue
    dsimp only
    split
    · exact .refl _
    · exact (ih.cons x).trans (.swap w x l)

theorem enqueue_ordered (recs : Tab 64 WarningRun) {l : List (Fin 64)} (h : l.Pairwise fun a b => levelOf s a ≤ levelOf s b) :
    (enqueue s recs w l).Pairwise fun a b => levelOf s a ≤ levelOf s b := by
  induction l with
  | nil => simp [enqueue]
  | cons x l ih =>
    obtain ⟨first, rest⟩ := List.pairwise_cons.1 h
    unfold enqueue
    dsimp only
    split
    · next before =>
      have low : levelOf s w ≤ levelOf s x := by omega
      refine List.pairwise_cons.2 ⟨fun y hy => ?_, h⟩
      rcases List.mem_cons.1 hy with rfl | hy
      · exact low
      · exact low.trans (first y hy)
    · next after =>
      refine List.pairwise_cons.2 ⟨fun y hy => ?_, ih rest⟩
      rcases List.mem_cons.1 ((enqueue_perm s recs w l).mem_iff.1 hy) with rfl | hy
      · omega
      · exact first y hy

@[simp] theorem giveStamp_stack (w : Fin 64) (v : Warnings) : (giveStamp w v).stack = v.stack := by unfold giveStamp; dsimp only; split <;> rfl
@[simp] theorem giveStamp_waiting (w : Fin 64) (v : Warnings) : (giveStamp w v).waiting = v.waiting := by
  unfold giveStamp; dsimp only; split <;> rfl
@[simp] theorem giveStamp_moving (w : Fin 64) (v : Warnings) : (giveStamp w v).moving = v.moving := by
  unfold giveStamp; dsimp only; split <;> rfl

theorem giveStamp_shows (w : Fin 64) (v : Warnings) (x : Fin 64) : (giveStamp w v).shows x ↔ v.shows x := by
  unfold giveStamp Warnings.shows
  dsimp only
  split
  · simp only [Tab.get_modify]
    split
    · next e => rw [e]; rfl
    · rfl
  · simp only [Tab.get_map, Tab.get_modify]
    split
    · next e => rw [e]; rfl
    · rfl

theorem arrive_presents (h : Presents full s q a.st) (new : ¬q w) : Presents full s (fun x => x = w ∨ q x) (arrive w s a).st := by
  have stamped : Presents full s q (a.upd (giveStamp w)).st :=
    h.congr (giveStamp_stack w _) (giveStamp_waiting w _) (giveStamp_moving w _) fun _ => .rfl
  unfold arrive
  extract_lets b
  split
  · next up =>
    obtain ⟨unmasked, low⟩ := Bool.and_eq_true_iff.1 up
    refine ⟨push_lists stamped.toLists new low, fun f x hx free => ?_⟩
    refine ⟨_, by simp only [push, topChanged_stack, upd_st]; rfl, ?_⟩
    obtain ⟨top, head, below⟩ := stamped.settled f x (show x ∈ b.st.waiting by simpa [push] using hx)
      (show masked s b.st (levelOf s x) = false by simpa [masked] using free)
    have := (above_iff stamped.rising).1 low top (List.mem_of_mem_head? head)
    exact this.le.trans below
  · next down =>
    obtain ⟨rising, nodup, listed, named, ordered⟩ := stamped.toLists
    have perm : (b.st.stack.map (·.warning) ++ enqueue s b.st.recs w b.st.waiting).Perm (w :: b.st.listed) :=
      ((enqueue_perm s b.st.recs w _).append_left _).trans List.perm_middle
    refine ⟨⟨rising, ?_, fun x => ?_, named, fun f => enqueue_ordered _ (ordered f)⟩, fun f x hx free => ?_⟩
    · refine perm.nodup_iff.2 (List.nodup_cons.2 ⟨fun mem => new ((listed w).1 mem), nodup⟩)
    · rw [← listed x, ← List.mem_cons]
      exact perm.mem_iff
    · rcases List.mem_cons.1 ((enqueue_perm s b.st.recs w _).mem_iff.1 hx) with rfl | hx
      · refine top_of_not_above fun low => down ?_
        rw [show masked s b.st (levelOf s x) = false from free, show above (levelOf s x) b.st.stack = true from low]
        rfl
      · exact stamped.settled f x hx free

theorem arrive_shows (w : Fin 64) (s : State) (a : Acc Warnings) (x : Fin 64) : (arrive w s a).st.shows x ↔ a.st.shows x := by
  unfold arrive
  extract_lets b
  rw [← giveStamp_shows w a.st x]
  split
  · unfold Warnings.shows
    rw [push_recs]
    rfl
  · rfl

/-! ### Withdrawal -/

theorem promote_recs {otherwise : Acc Warnings → Acc Warnings} (kept : (otherwise a).st.recs = a.st.recs) :
    (promote s otherwise a).st.recs = a.st.recs := by
  unfold promote
  split
  · split
    · rw [push_recs]
      rfl
    · exact kept
  · exact kept

theorem withdraw_shows (w : Fin 64) (s : State) (a : Acc Warnings) (x : Fin 64) : (withdraw w s a).st.shows x ↔ a.st.shows x := by
  have stamped : ∀ x, (setWarning w (fun r => { r with stamp := none }) a).st.shows x ↔ a.st.shows x := fun x => by
    simp only [setWarning, upd_st, Warnings.shows, Tab.get_modify]
    split
    · next e => rw [e]; rfl
    · rfl
  unfold withdraw
  extract_lets b
  rw [← stamped x]
  split
  · rfl
  · split
    · unfold Warnings.shows
      rw [promote_recs (topChanged_recs s _)]
      rfl
    · rfl

/-- A withdrawn warning leaves the lists; the promotion check follows where it was the top. -/
theorem withdraw_presents (w : Fin 64) (h : Presents full s q a.st) : Presents full s (fun x => x ≠ w ∧ q x) (withdraw w s a).st := by
  have nodup := h.nodup
  unfold withdraw
  extract_lets b
  split
  · next empty =>
    have stack : a.st.stack = [] := empty
    refine ⟨remove_lists h.toLists (show b.st.stack = _ by rw [empty, stack]; rfl) rfl, fun f x hx free => ?_⟩
    exact h.settled f x (List.mem_of_mem_erase hx) free
  · next top rest stack =>
    have stack : a.st.stack = top :: rest := stack
    rw [Warnings.listed, stack, List.map_cons, List.cons_append, List.nodup_cons, List.mem_append, not_or] at nodup
    obtain ⟨⟨below, waiting⟩, -⟩ := nodup
    split
    · next e =>
      have others : rest.filter (·.warning != w) = rest := List.filter_eq_self.2 fun r hr => by
        simpa [← e] using fun same : r.warning = top.warning => below (same ▸ List.mem_map_of_mem hr)
      refine promote_presents (by simp) (remove_lists h.toLists ?_ ?_)
      · rw [stack, List.filter_cons_of_neg (by simp [e]), others]
        rfl
      · rw [List.erase_of_not_mem (e ▸ waiting)]
        rfl
    · next ne =>
      refine ⟨remove_lists h.toLists ?_ rfl, fun f x hx free => ?_⟩
      · rw [stack, List.filter_cons_of_pos (by simpa using ne)]
        rfl
      · obtain ⟨t, head, low⟩ := h.settled f x (List.mem_of_mem_erase hx) free
        rw [stack] at head
        cases head
        exact ⟨top, rfl, low⟩

/-! ### Warning states -/

theorem setWarning_shows (w : Fin 64) (f : WarningRun → WarningRun) (a : Acc Warnings) (x : Fin 64) :
    (setWarning w f a).st.shows x ↔ if x = w then (f (a.st.recs.get w)).presentable = true else a.st.shows x := by
  simp only [setWarning, upd_st, Warnings.shows, Tab.get_modify]
  split <;> rfl

theorem setWarning_presents (w : Fin 64) (f : WarningRun → WarningRun) (h : Presents full s q a.st) :
    Presents full s q (setWarning w f a).st := h.congr rfl rfl rfl fun _ => .rfl

/-- A change of a record that leaves the warning as presentable as it was. -/
theorem setWarning_keeps {f : WarningRun → WarningRun} (h : Presents full s a.st.shows a.st)
    (same : (f (a.st.recs.get w)).presentable = (a.st.recs.get w).presentable) :
    Presents full s (setWarning w f a).st.shows (setWarning w f a).st := by
  refine h.congr rfl rfl rfl fun x => ?_
  rw [setWarning_shows]
  split
  · next e => rw [same, e]; rfl
  · rfl

theorem sayAll_presents (l : List Notice) : Presents full s q (a.sayAll l).st ↔ Presents full s q a.st := .rfl

/-- An entry to ON from OFF or ARMING makes the warning presentable; from RELEASING or LATCHED it keeps its place. -/
theorem enterOn_presents (w : Fin 64) (h : Presents full s a.st.shows a.st) :
    Presents full s (enterOn w s a).st.shows (enterOn w s a).st := by
  unfold enterOn
  extract_lets cfg r new raised set said lit
  have at_said : Presents full s a.st.shows said.st := setWarning_presents w _ h
  have at_lit : lit.st = said.st := by
    simp only [lit]
    split <;> rfl
  split
  · next fresh =>
    have hidden : ¬a.st.shows w := by
      have : r.state = .off ∨ r.state = .arming := by simpa [new] using fresh
      have : r.presentable = false := by rcases this with e | e <;> simp [WarningRun.presentable, e]
      simpa [Warnings.shows] using this
    refine Presents.congr (arrive_presents (at_lit ▸ at_said) hidden) rfl rfl rfl fun x => ?_
    rw [arrive_shows, Warnings.shows, at_lit, ← Warnings.shows]
    refine .symm ((setWarning_shows w _ a x).trans ?_)
    split
    · next e => simp [e, WarningRun.presentable]
    · next ne => simp [ne]
  · next old =>
    refine setWarning_keeps h ?_
    have : ¬r.state = .off ∧ ¬r.state = .arming := by simpa [new] using old
    have : (a.st.recs.get w).state = .on ∨ (a.st.recs.get w).state = .releasing ∨ (a.st.recs.get w).state = .latched := by
      change ¬(a.st.recs.get w).state = .off ∧ ¬(a.st.recs.get w).state = .arming at this
      cases e : (a.st.recs.get w).state <;> simp [e] at this ⊢
    rcases this with e | e | e <;> simp [WarningRun.presentable, e, old]

theorem enterOff_presents (w : Fin 64) (h : Presents full s a.st.shows a.st) :
    Presents full s (enterOff w s a).st.shows (enterOff w s a).st := by
  unfold enterOff
  extract_lets r cleared set said lit
  have at_said : Presents full s a.st.shows said.st := setWarning_presents w _ h
  have shown : ∀ x, said.st.shows x ↔ x ≠ w ∧ a.st.shows x := fun x =>
    (setWarning_shows w _ a x).trans (by split <;> simp_all [WarningRun.presentable])
  have at_lit : lit.st = said.st := by
    simp only [lit]
    split <;> rfl
  split
  · refine (withdraw_presents w (at_lit ▸ at_said)).congr rfl rfl rfl fun x => ?_
    rw [withdraw_shows, Warnings.shows, at_lit, ← Warnings.shows, shown]
  · next hidden =>
    rw [at_lit]
    refine at_said.congr rfl rfl rfl fun x => ?_
    rw [shown]
    refine ⟨fun hx => ⟨fun e => hidden ?_, hx⟩, And.right⟩
    rw [e] at hx
    exact hx

/-- An off-delay ends in RELEASING, or in ON where it is 0. -/
theorem release_presents (w : Fin 64) (stands : (a.st.recs.get w).state = .on ∨ (a.st.recs.get w).state = .releasing)
    (h : Presents full s a.st.shows a.st) : Presents full s (release w s a).st.shows (release w s a).st := by
  unfold release
  split
  · refine setWarning_keeps h ?_
    rcases stands with e | e <;> simp [WarningRun.presentable, e]
  · exact enterOff_presents w h

theorem evaluateWarning_presents (w : Fin 64) (h : Presents full s a.st.shows a.st) :
    Presents full s (evaluateWarning w s a).st.shows (evaluateWarning w s a).st := by
  unfold evaluateWarning
  extract_lets cfg r primary condition b
  have hb : Presents full s b.st.shows b.st := setWarning_keeps h rfl
  have state : (b.st.recs.get w).state = r.state := by simp [b, setWarning, r]
  split
  · exact hb
  · split
    · next off =>
      split
      · exact enterOn_presents w hb
      · exact setWarning_keeps hb (by simp [WarningRun.presentable, state, off]; rfl)
    · exact enterOn_presents w hb
    · exact enterOn_presents w hb
    · exact enterOff_presents w hb
    · next on =>
      split
      · exact release_presents w (.inl (state.trans on)) hb
      · exact setWarning_keeps hb (by simp [WarningRun.presentable, state, on])
    · exact hb

/-! ### Acknowledgements and masks -/

theorem acknowledged_presents (w : Fin 64) (h : Presents full s a.st.shows a.st) :
    Presents full s (acknowledged w s a).st.shows (acknowledged w s a).st := by
  unfold acknowledged
  split
  · exact enterOff_presents w h
  · refine (withdraw_presents w (setWarning_presents w _ h)).congr rfl rfl rfl fun x => ?_
    rw [withdraw_shows, setWarning_shows]
    split <;> simp_all [WarningRun.presentable]

theorem acknowledgeTop_presents (h : Presents full s a.st.shows a.st) :
    Presents full s (acknowledgeTop s a).st.shows (acknowledgeTop s a).st := by
  unfold acknowledgeTop
  split
  · exact h
  · next top rest stack =>
    split
    · exact h
    · split
      · exact acknowledged_presents _ h
      · exact h.retop stack rfl rfl rfl rfl rfl

theorem minimumReached_presents (h : Presents full s a.st.shows a.st) :
    Presents full s (minimumReached s a).st.shows (minimumReached s a).st := by
  unfold minimumReached
  extract_lets b
  have hb : Presents full s b.st.shows b.st := h.congr rfl rfl rfl fun _ => .rfl
  split
  · exact hb
  · exact acknowledged_presents _ hb

theorem repetitionEnd_presents (number : Nat) (h : Presents full s a.st.shows a.st) :
    Presents full s (repetitionEnd number s a).st.shows (repetitionEnd number s a).st := by
  unfold repetitionEnd
  split
  · next top rest _ stack =>
    split
    · have less : Presents full s a.st.shows { a.st with stack := { top with remaining := top.remaining - 1 } :: rest } :=
        h.retop stack rfl rfl rfl rfl rfl
      dsimp only
      split
      · exact less.congr rfl rfl rfl fun _ => .rfl
      · exact less
    · exact h
  · exact h

theorem rereportWarnings_presents (h : Presents full s a.st.shows a.st) :
    Presents full s (rereportWarnings s a).st.shows (rereportWarnings s a).st := by
  refine h.congr rfl rfl rfl fun x => ?_
  simp only [rereportWarnings, Warnings.shows, tellRows_get]
  split <;> rfl

/-- A change of the mask is followed by the promotion check; without one the mask stands, or nothing waits. -/
theorem remask_presents {promoting : Bool} (quiet : promoting = false → a.st.waiting = []) (h : Presents full s a.st.shows a.st) :
    Presents full s (remask promoting s a).st.shows (remask promoting s a).st := by
  unfold remask
  extract_lets g moving before after b
  have lists : Lists full s a.st.shows b.st := h.toLists.congr rfl rfl fun _ => .rfl
  split
  · refine (promote_presents (otherwise := id) ⟨rfl, rfl, rfl⟩ lists).congr rfl rfl rfl fun x => ?_
    unfold Warnings.shows
    rw [promote_recs (otherwise := id) rfl]
    rfl
  · next stands =>
    refine ⟨lists, fun f x hx free => ?_⟩
    cases promoting with
    | false =>
      have : b.st.waiting = [] := quiet rfl
      rw [this] at hx
      cases hx
    | true =>
      have same : before = after := by simpa using stands
      exact h.settled f x hx (by
        unfold masked at free ⊢
        rw [show (if a.st.moving then s.running.general.movingMask else s.running.general.stationaryMask) = after from same]
        exact free)

theorem warningUpdate_presents (i : Fin 256) (e : Effective) (active : s.control.mode = .active) (h : Presents full s a.st.shows a.st) :
    Presents full s (warningUpdate i e s a).st.shows (warningUpdate i e s a).st := by
  unfold warningUpdate
  extract_lets g old viewed isActive edge pressed remasked
  have hActive : isActive = true := by simpa [isActive] using active
  have hv : Presents full s viewed.st.shows viewed.st := h.congr rfl rfl rfl fun _ => .rfl
  have hp : Presents full s pressed.st.shows pressed.st := by
    simp only [pressed]
    split
    · exact acknowledgeTop_presents hv
    · exact hv
  have hr : Presents full s remasked.st.shows remasked.st := by
    simp only [remasked]
    split
    · exact remask_presents (by simp [hActive]) hp
    · exact hp
  refine each_keeps (P := fun v => Presents full s v.shows v) (fun w b hb => ?_) _ hr
  dsimp only
  split
  · exact evaluateWarning_presents w hb
  · exact hb

/-! ### Outside ACTIVE -/

theorem quiet_stack (h : v.Quiet) : v.stack = [] := by simpa using (List.append_eq_nil_iff.1 h.1).1

theorem quiet_waiting (h : v.Quiet) : v.waiting = [] := (List.append_eq_nil_iff.1 h.1).2

theorem Warnings.Quiet.congr (h : v.Quiet) (stack : v'.stack = v.stack) (waiting : v'.waiting = v.waiting)
    (recs : ∀ w, (v'.recs.get w).state = (v.recs.get w).state) : v'.Quiet :=
  ⟨by rw [Warnings.listed, stack, waiting]; exact h.1, fun w => (recs w).trans (h.2 w)⟩

theorem remask_quiet (h : a.st.Quiet) : (remask false s a).st.Quiet := h.congr rfl rfl fun _ => rfl

theorem acknowledgeTop_quiet (h : a.st.Quiet) : (acknowledgeTop s a).st.Quiet := by
  simp only [acknowledgeTop, quiet_stack h]
  exact h

theorem warningUpdate_quiet (i : Fin 256) (e : Effective) (inactive : s.control.mode ≠ .active) (h : a.st.Quiet) :
    (warningUpdate i e s a).st.Quiet := by
  unfold warningUpdate
  extract_lets g old viewed isActive edge pressed remasked
  have hActive : isActive = false := by simpa [isActive] using inactive
  have hr : remasked.st.Quiet := by
    have hp : pressed.st.Quiet := by
      simp only [pressed, edge, hActive, Bool.false_and, Bool.false_eq_true, if_false]
      exact h
    simp only [remasked, hActive]
    split
    · exact remask_quiet hp
    · exact hp
  refine each_keeps (P := Warnings.Quiet) (fun w b hb => ?_) _ hr
  simpa [hActive] using hb

theorem rereportWarnings_quiet (h : a.st.Quiet) : (rereportWarnings s a).st.Quiet := by
  refine h.congr rfl rfl fun w => ?_
  simp only [rereportWarnings, tellRows_get]
  split <;> rfl

/-- Nothing but an update event comes to the warnings outside ACTIVE: no delay runs, and no entry stands on the stack. -/
theorem warningEvent_quiet {f : State → Acc Warnings → Acc Warnings} (e : WarningEvent s f) (inactive : s.control.mode ≠ .active)
    (current : a.st = s.warnings) (h : a.st.Quiet) : (f s a).st.Quiet := by
  cases e with
  | update i e => exact warningUpdate_quiet i e inactive h
  | repetition n =>
    simp only [repetitionEnd, quiet_stack h]
    cases a.st.request <;> exact h
  | acknowledge => exact acknowledgeTop_quiet h
  | minimum =>
    simp only [minimumReached, upd_st, quiet_stack h]
    exact h.congr (quiet_stack h).symm rfl fun _ => rfl
  | autoDismiss => exact acknowledgeTop_quiet (a := a.upd _) h
  | rereport => exact rereportWarnings_quiet h
  | onDelay w arming =>
    rw [← current, h.2 w] at arming
    cases arming
  | offDelay w releasing =>
    rw [← current, h.2 w] at releasing
    cases releasing

theorem warningEvent_presents {f : State → Acc Warnings → Acc Warnings} (e : WarningEvent s f) (active : s.control.mode = .active)
    (current : a.st = s.warnings) (h : Presents full s a.st.shows a.st) : Presents full s (f s a).st.shows (f s a).st := by
  cases e with
  | update i e => exact warningUpdate_presents i e active h
  | repetition n => exact repetitionEnd_presents n h
  | acknowledge => exact acknowledgeTop_presents h
  | minimum => exact minimumReached_presents h
  | autoDismiss => exact acknowledgeTop_presents (a := a.upd _) (h.congr rfl rfl rfl fun _ => .rfl)
  | rereport => exact rereportWarnings_presents h
  | onDelay w => exact enterOn_presents w h
  | offDelay w releasing => exact release_presents w (.inr (current ▸ releasing)) h

/-! ### Modes -/

theorem warningsActive_presents (h : a.st.Quiet) : Presents full s (warningsActive s a).st.shows (warningsActive s a).st := by
  unfold warningsActive
  have hr : (remask false s (a.upd fun v => { v with stampCounter := 0 })).st.Quiet := remask_quiet (a := a.upd _) h
  refine each_keeps (P := fun v => Presents full s v.shows v) (fun w b hb => ?_) _ (presents_of_quiet hr)
  split
  · exact evaluateWarning_presents w hb
  · exact hb

theorem warningsDepart_quiet (s : State) (a : Acc Warnings) : (warningsDepart s a).st.Quiet :=
  ⟨rfl, fun w => by simp [warningsDepart, WarningRun.reset]⟩

theorem reinitWarnings_quiet (h : a.st.Quiet) : (reinitWarnings s a).st.Quiet := remask_quiet (a := a.upd _) h

end

/-! ### Every step -/

/-- The presentation of `s` is sound, in full or as far as the stack goes. -/
def State.Presentation (full : Prop) (s : State) : Prop :=
  (s.control.mode ≠ .active → s.warnings.Quiet) ∧ Presents full s s.warnings.shows s.warnings

theorem stackSound_iff (s : State) : s.StackSound ↔ s.Presentation False := by
  constructor
  · rintro ⟨quiet, rising, nodup, listed⟩
    exact ⟨quiet, ⟨rising, nodup, listed, False.elim, False.elim⟩, False.elim⟩
  · rintro ⟨quiet, ⟨rising, nodup, listed, -, -⟩, -⟩
    exact ⟨quiet, rising, nodup, listed⟩

theorem presentationSound_iff (s : State) : s.PresentationSound ↔ s.Presentation True := by
  constructor
  · rintro ⟨⟨quiet, rising, nodup, listed⟩, named, ordered, settled⟩
    exact ⟨quiet, ⟨rising, nodup, listed, fun _ => named, fun _ => ordered⟩, fun _ => settled⟩
  · rintro ⟨quiet, ⟨rising, nodup, listed, named, ordered⟩, settled⟩
    exact ⟨⟨quiet, rising, nodup, listed⟩, named trivial, ordered trivial, settled trivial⟩

section
variable {full : Prop}

/-- Of a state the presentation looks at the running image alone. -/
theorem Presents.state {s s' : State} {q : Fin 64 → Prop} {v : Warnings} (h : Presents full s q v) (running : s'.running = s.running) :
    Presents full s' q v := by
  obtain ⟨⟨rising, nodup, listed, named, ordered⟩, settled⟩ := h
  refine ⟨⟨rising, nodup, listed, ?_, ?_⟩, ?_⟩
  · unfold levelOf at named ⊢
    rwa [running]
  · unfold levelOf at ordered ⊢
    rwa [running]
  · unfold NoneAbove masked levelOf at settled ⊢
    rwa [running]

theorem presentation_of_quiet {s : State} (h : s.warnings.Quiet) : s.Presentation full := ⟨fun _ => h, presents_of_quiet h⟩

/-- Time passes for the shown time of the top entry. -/
theorem presentation_advance {s : State} (dt : Nat) (h : s.Presentation full) : (s.advance dt).Presentation full := by
  obtain ⟨quiet, presents⟩ := h
  cases stack : s.warnings.stack with
  | nil =>
    have same : (s.advance dt).warnings = s.warnings := by simp [State.advance, stack]
    unfold State.Presentation
    rw [advance_mode, same]
    exact ⟨quiet, presents.state rfl⟩
  | cons top rest =>
    have moved : (s.advance dt).warnings = { s.warnings with stack := { top with shown := top.shown + dt } :: rest } := by
      simp [State.advance, stack]
    unfold State.Presentation
    rw [advance_mode, moved]
    refine ⟨fun inactive => ?_, Presents.state (presents.retop stack rfl rfl rfl rfl rfl) rfl⟩
    rw [quiet_stack (quiet inactive)] at stack
    cases stack

/-- The Warning Engine takes a change of mode in a state that agrees with the one entered. -/
theorem tellMode_warnings (s : State) (old new : Mode) : ∃ v : State, v.running = s.running ∧ v.control = s.control
    ∧ (s.tellMode old new).warnings = (warningMode old new v ⟨s.warnings, []⟩).st := by
  refine ⟨s.runFrames (frameMode old new) |>.runInputs (inputMode new) |>.runDoors (doorMode new) |>.runGauges (gaugeMode old new),
    rfl, rfl, ?_⟩
  simp [State.tellMode]

theorem presentation_tell {s : State} {m : Mode} (fresh : m = .active → s.control.mode ≠ .active) (h : s.Presentation full) :
    ((s.setMode m).tellMode s.control.mode m).Presentation full := by
  obtain ⟨v, running, -, e⟩ := tellMode_warnings (s.setMode m) s.control.mode m
  have mode : ((s.setMode m).tellMode s.control.mode m).control.mode = m := setMode_mode s m
  rw [setMode_running] at running
  rw [setMode_warnings] at e
  have after : ((s.setMode m).tellMode s.control.mode m).running = v.running := (setMode_running s m).trans running.symm
  by_cases active : m = .active
  · have quiet := h.1 (fresh active)
    have told : ((s.setMode m).tellMode s.control.mode m).warnings = (warningsActive v ⟨s.warnings, []⟩).st := by
      rw [e, warningMode, active]
      rfl
    refine ⟨fun inactive => absurd (mode.trans active) inactive, ?_⟩
    rw [told]
    exact (warningsActive_presents (a := ⟨s.warnings, []⟩) quiet).state after
  · refine presentation_of_quiet ?_
    rw [e, warningMode, if_neg (by simpa using active)]
    split
    · exact warningsDepart_quiet _ _
    · next inactive => exact h.1 (by simpa using inactive)

theorem presentation_kept : Kept (State.Presentation full) where
  mail _ h := ⟨h.1, h.2.state rfl⟩
  time dt h := presentation_advance dt h
  control c same h := ⟨fun inactive => h.1 (same ▸ inactive), h.2.state rfl⟩
  frames _ h := ⟨h.1, h.2.state rfl⟩
  inputs _ h := ⟨h.1, h.2.state rfl⟩
  service _ h := ⟨h.1, h.2.state rfl⟩
  changed _ h := ⟨h.1, h.2.state rfl⟩
  write _ _ h := ⟨h.1, h.2.state rfl⟩
  doors _ h := ⟨h.1, h.2.state rfl⟩
  gauges _ h := ⟨h.1, h.2.state rfl⟩
  warnings {s f} e h := by
    by_cases active : s.control.mode = .active
    · refine ⟨fun inactive => absurd active inactive, Presents.state ?_ (s := s) rfl⟩
      exact warningEvent_presents (a := ⟨s.warnings, []⟩) e active rfl h.2
    · exact presentation_of_quiet (warningEvent_quiet (a := ⟨s.warnings, []⟩) e active rfl (h.1 active))
  lamps _ h := ⟨h.1, h.2.state rfl⟩
  faults _ _ h := ⟨h.1, h.2.state rfl⟩
  outbound _ h := ⟨h.1, h.2.state rfl⟩
  display _ h := ⟨h.1, h.2.state rfl⟩
  store _ h := ⟨h.1, h.2.state rfl⟩
  tell _ fresh h := presentation_tell fresh h
  reinit b inactive h := presentation_of_quiet (reinitWarnings_quiet (a := ⟨_, []⟩) (h.1 inactive))
  placed b inactive _ h := presentation_of_quiet (reinitWarnings_quiet (a := ⟨_, []⟩) (h.1 inactive))
  loaded e h := by
    rw [loadEntry_frame e]
    exact ⟨h.1, h.2.state rfl⟩
  released _ h := ⟨h.1, h.2.state rfl⟩
  reset _ _ := presentation_of_quiet ⟨rfl, fun w => by simp [State.resetWith, Warnings.reset, WarningRun.reset]⟩

end

/-- Settles O57. -/
theorem stackSoundKept : Obligations.StackSoundKept := fun s t sound e =>
  (stackSound_iff t).2 (presentation_kept.step ((stackSound_iff s).1 sound) e fun _ h => ⟨h.1, h.2.state rfl⟩)

/-- Settles O58. -/
theorem presentationSoundKept : Obligations.PresentationSoundKept := fun s t sound e =>
  (presentationSound_iff t).2 (presentation_kept.step ((presentationSound_iff s).1 sound) e fun _ h => ⟨h.1, h.2.state rfl⟩)

end Sys2Proof.Machine
end

section
/-! PROOFS. LoaderProofs: what a load that is accepted leaves of an image, whatever its content (R183): a predicate of the readers that
their composition keeps, and the parts of an image that the loaders leave alone. -/

namespace Sys2Proof.Machine

/-! ### What a reader that accepts ensures -/

namespace Reader
variable {α β : Type} {Q : β → Prop} {R : α → Prop}

/-- Every value that the reader answers has the property `Q`. -/
def Ensures (Q : β → Prop) (r : Reader β) : Prop := ∀ c b rest, r c = .ok (b, rest) → Q b

theorem Ensures.pure {b : β} (h : Q b) : Ensures Q (Pure.pure b : Reader β) := fun _ _ _ e => by
  cases e
  exact h

theorem Ensures.throw (r : Result) : Ensures Q (throw r : Reader β) := fun _ _ _ e => nomatch e

theorem Ensures.bind_of {p : Reader α} {k : α → Reader β} (hp : Ensures R p) (hk : ∀ a, R a → Ensures Q (k a)) :
    Ensures Q (p >>= k) := fun c b rest e => by
  change (p c >>= fun x => (k x.1) x.2) = _ at e
  cases first : p c with
  | error r => rw [first] at e; cases e
  | ok x => rw [first] at e; exact hk x.1 (hp c x.1 x.2 first) x.2 b rest e

theorem Ensures.bind {p : Reader α} {k : α → Reader β} (hk : ∀ a, Ensures Q (k a)) : Ensures Q (p >>= k) :=
  .bind_of (R := fun _ => True) (fun _ _ _ _ => trivial) fun a _ => hk a

theorem Ensures.check {b : Bool} {r : Result} {k : Unit → Reader β} (hk : b = true → Ensures Q (k ())) :
    Ensures Q (check b r >>= k) := by
  cases b
  · exact .throw r
  · exact hk rfl

theorem Ensures.on {r : Reader β} (h : Ensures Q r) {c : List Byte} {b : β} (e : r.on c = .ok b) : Q b := by
  unfold Reader.on at e
  split at e <;> cases e
  exact h _ _ _ ‹_›

theorem Ensures.mono {Q' : β → Prop} {r : Reader β} (h : Ensures Q r) (imp : ∀ b, Q b → Q' b) : Ensures Q' r :=
  fun c b rest e => imp b (h c b rest e)

theorem times_length (m : Nat) (p : Reader α) : Ensures (fun l : List α => l.length = m) (times m p) := by
  induction m with
  | zero => exact .pure rfl
  | succ m ih => exact .bind fun a => .bind_of ih fun l length => .pure (by simp [length])

end Reader

/-! ### What the loaders leave alone -/

/-- Nothing but a SIGNAL, a SUBSTITUTION or a GAUGE load changes the limits of a signal, an entry of the Substitution Table or a gauge. -/
structure Image.SameCore (img img' : Image) : Prop where
  limits : ∀ i, (img'.signals.get i).min = (img.signals.get i).min ∧ (img'.signals.get i).max = (img.signals.get i).max
  substitution : img'.substitution = img.substitution
  gauges : img'.gauges = img.gauges

section
variable {img img' img'' : Image}

theorem sameCore_of_signals (signals : img'.signals = img.signals) (substitution : img'.substitution = img.substitution)
    (gauges : img'.gauges = img.gauges) : img.SameCore img' :=
  ⟨fun i => by rw [signals]; exact ⟨rfl, rfl⟩, substitution, gauges⟩

theorem Image.SameCore.trans (h : img.SameCore img') (h' : img'.SameCore img'') : img.SameCore img'' :=
  ⟨fun i => ⟨(h'.limits i).1.trans (h.limits i).1, (h'.limits i).2.trans (h.limits i).2⟩, h'.substitution.trans h.substitution,
    h'.gauges.trans h.gauges⟩

theorem sameCore_setSource (img : Image) (i : Fin 256) (w : Source) : img.SameCore (img.setSource i w) := by
  refine ⟨fun j => ?_, rfl, rfl⟩
  simp only [Image.setSource, Tab.get_modify]
  split
  · next e => rw [e]; exact ⟨rfl, rfl⟩
  · exact ⟨rfl, rfl⟩

/-- A writer that moves changes sources alone (R22). -/
theorem sameCore_retarget (img : Image) (former target : Option (Fin 256)) (w : Source) : img.SameCore (img.retarget former target w) := by
  have left : ∀ img' : Image, img.SameCore img' → img.SameCore (match target with | some i => img'.setSource i w | none => img') := by
    intro img' h
    cases target with
    | none => exact h
    | some i => exact h.trans (sameCore_setSource _ i w)
  refine left _ ?_
  cases former with
  | none => exact sameCore_of_signals rfl rfl rfl
  | some i =>
    dsimp only
    split
    · exact sameCore_setSource img i .none
    · exact sameCore_of_signals rfl rfl rfl

/-- A writer that moves in an image whose other tables have been written. -/
theorem sameCore_then_retarget (h : img.SameCore img') (former target : Option (Fin 256)) (w : Source) :
    img.SameCore (img'.retarget former target w) := h.trans (sameCore_retarget img' former target w)

end

open Reader

theorem loadFrame_sameCore (index : Nat) (img : Image) : Ensures img.SameCore (loadFrame index img) := by
  unfold loadFrame
  dsimp only
  repeat refine .bind fun _ => ?_
  exact .pure (sameCore_of_signals rfl rfl rfl)

/-- A load that writes one table and moves one writer. -/
theorem Ensures.retarget {img img' : Image} (signals : img'.signals = img.signals) (substitution : img'.substitution = img.substitution)
    (gauges : img'.gauges = img.gauges) (former target : Option (Fin 256)) (w : Source) :
    Ensures img.SameCore (Pure.pure (img'.retarget former target w)) :=
  .pure (sameCore_then_retarget (sameCore_of_signals signals substitution gauges) former target w)

theorem loadExtract_sameCore (index : Nat) (img : Image) : Ensures img.SameCore (loadExtract index img) := by
  unfold loadExtract
  dsimp only
  repeat refine .bind fun _ => ?_
  refine Ensures.retarget ?_ ?_ ?_ _ _ _ <;> rfl

theorem loadInput_sameCore (index : Nat) (img : Image) : Ensures img.SameCore (loadInput index img) := by
  unfold loadInput
  dsimp only
  repeat refine .bind fun _ => ?_
  refine Ensures.retarget ?_ ?_ ?_ _ _ _ <;> rfl

theorem loadAnalog_sameCore (index : Nat) (img : Image) : Ensures img.SameCore (loadAnalog index img) := by
  unfold loadAnalog
  dsimp only
  repeat refine .bind fun _ => ?_
  refine Ensures.retarget ?_ ?_ ?_ _ _ _ <;> rfl

theorem loadDoor_sameCore (index : Nat) (img : Image) : Ensures img.SameCore (loadDoor index img) := by
  unfold loadDoor
  dsimp only
  repeat refine .bind fun _ => ?_
  refine Ensures.retarget ?_ ?_ ?_ _ _ _ <;> rfl

theorem loadWarning_sameCore (index : Nat) (img : Image) : Ensures img.SameCore (loadWarning index img) := by
  unfold loadWarning
  dsimp only
  repeat refine .bind fun _ => ?_
  exact .pure (sameCore_of_signals rfl rfl rfl)

theorem loadLamp_sameCore (index : Nat) (img : Image) : Ensures img.SameCore (loadLamp index img) := by
  unfold loadLamp
  repeat refine .bind fun _ => ?_
  exact .pure (sameCore_of_signals rfl rfl rfl)

theorem loadPattern_sameCore (index : Nat) (img : Image) : Ensures img.SameCore (loadPattern index img) := by
  unfold loadPattern
  repeat refine .bind fun _ => ?_
  exact .pure (sameCore_of_signals rfl rfl rfl)

theorem loadTransmit_sameCore (index : Nat) (img : Image) : Ensures img.SameCore (loadTransmit index img) := by
  unfold loadTransmit
  dsimp only
  repeat refine .bind fun _ => ?_
  exact .pure (sameCore_of_signals rfl rfl rfl)

theorem loadDisplay_sameCore (index : Nat) (img : Image) : Ensures img.SameCore (loadDisplay index img) := by
  unfold loadDisplay
  dsimp only
  repeat refine .bind fun _ => ?_
  exact .pure (sameCore_of_signals rfl rfl rfl)

theorem loadAttribute_sameCore (index : Nat) (img : Image) : Ensures img.SameCore (loadAttribute index img) := by
  unfold loadAttribute
  repeat refine .bind fun _ => ?_
  exact .pure (sameCore_of_signals rfl rfl rfl)

theorem loadSnapshotList_sameCore (index : Nat) (img : Image) : Ensures img.SameCore (loadSnapshotList index img) := by
  unfold loadSnapshotList
  repeat refine .bind fun _ => ?_
  exact .pure (sameCore_of_signals rfl rfl rfl)

theorem loadGeneral_sameCore (index : Nat) (img : Image) : Ensures img.SameCore (loadGeneral index img) := by
  unfold loadGeneral
  dsimp only
  repeat refine .bind fun _ => ?_
  exact .pure (sameCore_then_retarget (sameCore_then_retarget (sameCore_then_retarget (by exact sameCore_of_signals rfl rfl rfl) _ _ _)
    _ _ _) _ _ _)

/-- Every table but SIGNAL, SUBSTITUTION and GAUGE. -/
theorem tableLoader_sameCore {table : Nat} (index : Nat) (img : Image) (other : table ≠ 8) :
    Ensures img.SameCore (tableLoader table index img) := by
  unfold tableLoader
  split
  · exact loadFrame_sameCore index img
  · exact loadExtract_sameCore index img
  · exact loadInput_sameCore index img
  · exact loadAnalog_sameCore index img
  · exact loadDoor_sameCore index img
  · exact absurd rfl other
  · exact loadWarning_sameCore index img
  · exact loadLamp_sameCore index img
  · exact loadPattern_sameCore index img
  · exact loadTransmit_sameCore index img
  · exact loadDisplay_sameCore index img
  · exact loadAttribute_sameCore index img
  · exact loadSnapshotList_sameCore index img
  · exact loadGeneral_sameCore index img
  · exact .throw _

/-- A GAUGE load writes one gauge, which is sound (R83). -/
theorem loadGauge_ensures (index : Nat) (img : Image) :
    Ensures (fun img' => ∃ g cfg, GaugeConfig.Sound cfg ∧ img' = { img with gauges := img.gauges.set g cfg }) (loadGauge index img) := by
  unfold loadGauge
  dsimp only
  refine .bind fun inUse => .bind fun source => .bind fun fs => .bind fun count => ?_
  refine .bind_of (R := fun all => all.length = 8) (times_length 8 _) fun all length => ?_
  refine .bind fun rest => .bind fun k => .bind fun slew => .bind fun kind => .bind fun position => .bind fun overrun => .bind fun sweep =>
    .bind fun g => .bind fun source => .check fun counts => .check fun rising => .check fun rests => .check fun positions => ?_
  refine .pure ⟨g, _, ?_, rfl⟩
  simp only [Bool.and_eq_true, decide_eq_true_eq, List.all_eq_true] at counts rising rests positions
  refine ⟨fun empty => ?_, rising.1, rising.2, rests.1.1, fun v at_v => ?_⟩
  · have := congrArg List.length empty
    simp only [List.length_take, List.length_nil] at this
    omega
  · dsimp only at at_v
    split at at_v
    · cases at_v
    · split at at_v
      · cases at_v
      · cases at_v
        exact positions.1

/-- A SIGNAL load writes one signal (R23). -/
theorem loadSignal_ensures (index : Nat) (img : Image) :
    Ensures (fun x => ∃ cfg, x.2.2 = { img with signals := img.signals.set x.1 cfg }) (loadSignal index img) := by
  unfold loadSignal
  dsimp only
  refine .bind fun lo => .bind fun hi => .bind fun present => .bind fun value => .bind fun i => .bind fun _ => ?_
  split
  · refine .bind fun _ => .bind fun _ => .pure ⟨_, rfl⟩
  · exact .pure ⟨_, rfl⟩

/-- A SUBSTITUTION load writes one entry of the Substitution Table (R40). -/
theorem loadSubstitution_ensures (index : Nat) (img : Image) :
    Ensures (fun x => x.2.2 = { img with substitution := img.substitution.set x.1 x.2.1 }) (loadSubstitution index img) := by
  unfold loadSubstitution
  dsimp only
  refine .bind fun inUse => .bind fun signal => .bind fun kind => .bind fun alternate => .bind fun value => .bind fun forced =>
    .bind fun e => .bind fun i => .bind fun j => ?_
  split
  · refine .bind fun _ => .bind fun _ => .pure rfl
  · exact .pure rfl

end Sys2Proof.Machine
end

section
/-! PROOFS. ResolutionProofs: every signal stays resolved (R31, R33, R44). A signal's resolution looks at its own record, at its limits, at
its entry and at the own state of the entry's alternate; whatever changes one of these is followed by the resolution of every signal that
looks at it. -/

namespace Sys2Proof.Machine

/-! ### What a resolution looks at -/

section
variable {img img' : Image} {t t' u : Tab 256 SignalRun} {i k : Fin 256}

/-- Two resolutions that look at the same give the same, but for the written status that each finds. -/
theorem resolved_alike (limits : (img'.signals.get i).min = (img.signals.get i).min ∧ (img'.signals.get i).max = (img.signals.get i).max)
    (entry : img'.subOf i = img.subOf i) (status : ownStatus img' i (u.get i) = ownStatus img i (t.get i))
    (own : (u.get i).own = (t.get i).own) (qual : (u.get i).qual = (t.get i).qual) (held : (u.get i).held = (t.get i).held)
    (alternate : ∀ e, img.subOf i = some e → alternateValue img' u e = alternateValue img t e) :
    resolved img' u i = { resolved img t i with written := (u.get i).written } := by
  have offered : (img.subOf i).bind (alternateValue img' u) = (img.subOf i).bind (alternateValue img t) := by
    cases named : img.subOf i with
    | none => rfl
    | some e => exact alternate e named
  simp only [resolved, limits, entry, status, offered]
  generalize u.get i = r' at own qual held ⊢
  generalize t.get i = r at own qual held ⊢
  obtain ⟨⟩ := r
  obtain ⟨⟩ := r'
  simp only at own qual held
  subst own qual held
  split
  · rfl
  · split <;> rfl

/-- The same for a record that stands. -/
theorem resolved_stands (stands : u.get i = t.get i)
    (limits : (img'.signals.get i).min = (img.signals.get i).min ∧ (img'.signals.get i).max = (img.signals.get i).max)
    (entry : ∀ k, k = i ∨ (∃ e, img.subOf i = some e ∧ e.alternate = .signal k) → img'.subOf k = img.subOf k)
    (alternate : ∀ e, img.subOf i = some e → ∀ j, e.alternate = .signal j → u.get j = t.get j) :
    resolved img' u i = resolved img t i := by
  have blocks : ∀ k, img'.subOf k = img.subOf k → img'.blocks k = img.blocks k := fun k e => by simp only [Image.blocks, e]
  have here := entry i (.inl rfl)
  refine (resolved_alike (t := t) limits here ?_ (by rw [stands]) (by rw [stands]) (by rw [stands]) fun e named => ?_).trans ?_
  · simp only [ownStatus, blocks i here, stands]
  · unfold alternateValue
    split
    · rfl
    · rfl
    · next j names =>
      have same : ownStatus img' j (u.get j) = ownStatus img j (t.get j) := by
        rw [ownStatus, ownStatus, blocks j (entry j (.inr ⟨e, named, names⟩)), alternate e named j names]
      rw [same, alternate e named j names]
  · rw [stands, ← (resolved_own img t i).2.1]

/-! ### Resolutions with dependents -/

/-- Signal `k` has an entry in use with signal `i` as its alternate. -/
def DependsOn (img : Image) (k i : Fin 256) : Prop :=
  ∃ m, (img.substitution.get m).inUse = true ∧ (img.substitution.get m).alternate = .signal i ∧ (img.substitution.get m).signal = k

theorem dependsOn_of_subOf {e : SubEntry} (named : img.subOf k = some e) (alternate : e.alternate = .signal i) : DependsOn img k i := by
  obtain ⟨m, rfl, inUse, signal⟩ := subOf_some named
  exact ⟨m, inUse, alternate, signal⟩

theorem Resolutions.weaken {must must' may : Fin 256 → Prop} (h : Resolutions img t must may u) (fewer : ∀ k, must' k → must k) :
    Resolutions img t must' may u := ⟨h.1, fun k => ⟨fun hk => (h.2 k).1 (fewer k hk), (h.2 k).2⟩⟩

/-- The signal and all that depend on it are resolved. -/
theorem resolveWithDependents_resolutions {must may : Fin 256 → Prop} {a : Acc (Tab 256 SignalRun)} (self : may i)
    (dependents : ∀ k, DependsOn img k i → may k) (h : Resolutions img t must may a.st) :
    Resolutions img t (fun k => k = i ∨ DependsOn img k i ∨ must k) may (resolveWithDependents img i a).st := by
  have pass : ∀ (l : List SubEntry), (∀ e ∈ l, e.inUse = true → e.alternate = .signal i → may e.signal) →
      ∀ (m : Fin 256 → Prop) (b : Acc (Tab 256 SignalRun)), Resolutions img t m may b.st →
      Resolutions img t (fun k => (∃ e ∈ l, e.inUse = true ∧ e.alternate = .signal i ∧ e.signal = k) ∨ m k) may (b.eachOf l fun e a =>
        if e.inUse && e.alternate == .signal i then resolve img e.signal a else a).st := by
    intro l
    induction l with
    | nil => exact fun _ m b hb => hb.weaken (by simp)
    | cons e l ih =>
      intro hl m b hb
      have next : Resolutions img t (fun k => (e.inUse = true ∧ e.alternate = .signal i ∧ e.signal = k) ∨ m k) may
          (if (e.inUse && e.alternate == .signal i) = true then resolve img e.signal b else b).st := by
        split
        · next depends =>
          simp only [Bool.and_eq_true, beq_iff_eq] at depends
          refine (resolve_resolutions (hl e List.mem_cons_self depends.1 depends.2) hb).weaken ?_
          rintro k (⟨-, -, rfl⟩ | hk)
          · exact .inl rfl
          · exact .inr hk
        · next other =>
          simp only [Bool.and_eq_true, beq_iff_eq, not_and] at other
          refine hb.weaken ?_
          rintro k (⟨inUse, alternate, -⟩ | hk)
          · exact absurd alternate (other inUse)
          · exact hk
      refine (ih (fun e he => hl e (List.mem_cons_of_mem _ he)) _ _ next).weaken ?_
      rintro k (⟨x, mem, hx⟩ | hk)
      · rcases List.mem_cons.1 mem with rfl | mem
        · exact .inr (.inl hx)
        · exact .inl ⟨x, mem, hx⟩
      · exact .inr (.inr hk)
  have entries : ∀ e ∈ img.substitution.list, ∃ m, img.substitution.get m = e := fun e => Tab.get_of_mem
  refine (pass _ (fun e he inUse alternate => ?_) _ _ (resolve_resolutions self h)).weaken ?_
  · obtain ⟨m, rfl⟩ := entries e he
    exact dependents _ ⟨m, inUse, alternate, rfl⟩
  · rintro k (rfl | ⟨m, inUse, alternate, signal⟩ | hk)
    · exact .inr (.inl rfl)
    · exact .inl ⟨_, List.getElem_mem _, inUse, alternate, signal⟩
    · exact .inr (.inr hk)

theorem resolutions_refl (img : Image) (t : Tab 256 SignalRun) (may : Fin 256 → Prop) : Resolutions img t (fun _ => False) may t :=
  ⟨fun _ => ⟨rfl, rfl, rfl⟩, fun _ => ⟨False.elim, .inl rfl, fun _ => rfl⟩⟩

/-- The resolutions that follow a write of an entry reach the signals it names and named, and what depends on them. -/
theorem takeSubstitution_reaches {old new : SubEntry} (s : State) (a : Acc (Tab 256 SignalRun)) :
    let named := fun k => (new.inUse = true ∧ new.signal = k) ∨ (old.inUse = true ∧ old.signal = k)
    Resolutions s.image a.st (fun k => named k ∨ ∃ i, named i ∧ DependsOn s.image k i) (fun _ => True)
      (takeSubstitution old new s a).st := by
  intro named
  have first : Resolutions s.image a.st (fun k => new.inUse = true ∧ (new.signal = k ∨ DependsOn s.image k new.signal)) (fun _ => True)
      (if new.inUse then resolveWithDependents s.image new.signal a else a).st := by
    split
    · refine (resolveWithDependents_resolutions trivial (fun _ _ => trivial) (resolutions_refl _ _ _)).weaken ?_
      rintro k ⟨-, rfl | depends⟩
      · exact .inl rfl
      · exact .inr (.inl depends)
    · next unused => exact (resolutions_refl _ _ _).weaken fun k h => absurd h.1 unused
  unfold takeSubstitution
  extract_lets b
  split
  · refine (resolveWithDependents_resolutions trivial (fun _ _ => trivial) first).weaken ?_
    rintro k ((⟨inUse, rfl⟩ | ⟨-, rfl⟩) | ⟨i, ⟨inUse, rfl⟩ | ⟨-, rfl⟩, depends⟩)
    · exact .inr (.inr ⟨inUse, .inl rfl⟩)
    · exact .inl rfl
    · exact .inr (.inr ⟨inUse, .inr depends⟩)
    · exact .inr (.inl depends)
  · next covered =>
    have same : old.inUse = true → new.inUse = true ∧ new.signal = old.signal := fun used => by simpa [used] using covered
    refine first.weaken ?_
    rintro k ((⟨inUse, rfl⟩ | ⟨used, rfl⟩) | ⟨i, ⟨inUse, rfl⟩ | ⟨used, rfl⟩, depends⟩)
    · exact ⟨inUse, .inl rfl⟩
    · exact ⟨(same used).1, .inl (same used).2⟩
    · exact ⟨inUse, .inr depends⟩
    · exact ⟨(same used).1, .inr ((same used).2 ▸ depends)⟩

/-! ### Tables that stay resolved -/

/-- Every signal of the table is resolved under the image. -/
def ResolvedUnder (img : Image) (t : Tab 256 SignalRun) : Prop := ∀ i, t.get i = resolved img t i

/-- Where every signal that a change affects is resolved after it, all are. -/
theorem resolvedUnder_after {affected must may : Fin 256 → Prop} (h : ResolvedUnder img t)
    (stands : ∀ k, ¬affected k → t'.get k = t.get k ∧ resolved img' t' k = resolved img t k)
    (reached : Resolutions img' t' must may u) (cover : ∀ k, affected k → must k) : ResolvedUnder img' u := by
  intro k
  obtain ⟨must_k, either, -⟩ := reached.2 k
  rw [resolved_congr reached.1 either]
  by_cases hk : affected k
  · exact must_k (cover k hk)
  · obtain ⟨same, resolution⟩ := stands k hk
    rcases either with e | e
    · rw [e, resolution, same]
      exact h k
    · exact e

theorem takeWrite_resolved (i : Fin 256) (w : SignalWrite) {s : State} {a : Acc (Tab 256 SignalRun)} (h : ResolvedUnder s.image a.st) :
    ResolvedUnder s.image (takeWrite i w s a).st := by
  unfold takeWrite
  extract_lets r r' b
  have others : ∀ k, k ≠ i → b.st.get k = a.st.get k := fun k ne => Tab.get_set_ne _ _ ne
  split
  · refine resolvedUnder_after (affected := fun k => k = i ∨ DependsOn s.image k i) h (fun k far => ?_)
      (resolveWithDependents_resolutions trivial (fun _ _ => trivial) (resolutions_refl _ _ fun _ => True))
      (fun k near => near.imp id .inl)
    rw [not_or] at far
    refine ⟨others k far.1, resolved_stands (others k far.1) ⟨rfl, rfl⟩ (fun _ _ => rfl) fun e named j alternate => others j fun e => ?_⟩
    exact far.2 (dependsOn_of_subOf named (e ▸ alternate))
  · next unchanged =>
    simp only [Bool.or_eq_true, bne_iff_ne, not_or, not_not] at unchanged
    obtain ⟨⟨own, status⟩, qual⟩ := unchanged
    have here : b.st.get i = r' := Tab.get_set_self _ _ _
    have held : r'.held = r.held := by simp only [r', written]; split <;> rfl
    have eff : r'.eff = r.eff := by simp only [r', written]; split <;> rfl
    have alternate : ∀ e, alternateValue s.image b.st e = alternateValue s.image a.st e := by
      intro e
      unfold alternateValue
      split
      · rfl
      · rfl
      · next j _ =>
        by_cases e : j = i
        · rw [e, here, own, status]
        · rw [others j e]
    intro k
    by_cases e : k = i
    · subst e
      rw [resolved_alike (t := a.st) ⟨rfl, rfl⟩ rfl (by rw [here]; exact status) (by rw [here]; exact own) (by rw [here]; exact qual)
        (by rw [here]; exact held) fun e _ => alternate e, ← h k, here]
      change r' = { r with written := r'.written }
      generalize r' = x at own qual held eff ⊢
      generalize r = y at own qual held eff ⊢
      obtain ⟨⟩ := x
      obtain ⟨⟩ := y
      simp only at own qual held eff
      subst own qual held eff
      rfl
    · rw [others k e, h k]
      refine .symm ((resolved_alike ⟨rfl, rfl⟩ rfl (by rw [others k e]) (by rw [others k e]) (by rw [others k e]) (by rw [others k e])
        fun e _ => alternate e).trans ?_)
      rw [others k e, ← (resolved_own s.image a.st k).2.1]

/-- A SIGNAL load changes the limits, the source and the own state of one signal. -/
theorem takeSignalLoad_resolved (i : Fin 256) (constant : Option Int) (cfg : SignalConfig) {s : State} {a : Acc (Tab 256 SignalRun)}
    (loaded : s.image = { img with signals := img.signals.set i cfg }) (h : ResolvedUnder img a.st) :
    ResolvedUnder s.image (takeSignalLoad i constant s a).st := by
  unfold takeSignalLoad
  extract_lets _ r r' c fresh
  have others : ∀ k, k ≠ i → (a.upd (·.set i fresh)).st.get k = a.st.get k := fun k ne => Tab.get_set_ne _ _ ne
  refine resolvedUnder_after (affected := fun k => k = i ∨ DependsOn s.image k i) h (fun k far => ?_)
    (resolveWithDependents_resolutions trivial (fun _ _ => trivial) (resolutions_refl _ _ fun _ => True))
    (fun k near => near.imp id .inl)
  rw [not_or] at far
  have entry : ∀ k, s.image.subOf k = img.subOf k := fun k => by rw [loaded]; rfl
  refine ⟨others k far.1, resolved_stands (others k far.1) ?_ (fun k _ => entry k) fun e named j alternate => others j fun e => ?_⟩
  · rw [loaded]
    simp [Tab.get_set_ne _ _ far.1]
  · exact far.2 (dependsOn_of_subOf ((entry k).trans named) (e ▸ alternate))

/-- An entry that names a signal neither before nor after its write is no matter to it. -/
theorem subOf_set {e : Fin 16} {new : SubEntry} (before : ¬((img.substitution.get e).inUse = true ∧ (img.substitution.get e).signal = k))
    (after : ¬(new.inUse = true ∧ new.signal = k)) : { img with substitution := img.substitution.set e new }.subOf k = img.subOf k := by
  have pred : ∀ m, (((img.substitution.set e new).get m).inUse && ((img.substitution.set e new).get m).signal == k)
      = ((img.substitution.get m).inUse && (img.substitution.get m).signal == k) := by
    intro m
    rw [Tab.get_set]
    split
    · next at_e =>
      rw [at_e]
      refine (Bool.eq_false_iff.2 ?_).trans (Bool.eq_false_iff.2 ?_).symm
      · simpa using after
      · simpa using before
    · rfl
  simp only [Image.subOf, Image.subIndex, findIdx_eq_find?, pred]
  cases found : (List.finRange 16).find? fun m => (img.substitution.get m).inUse && (img.substitution.get m).signal == k with
  | none => rfl
  | some m =>
    have hm := List.find?_some found
    have : m ≠ e := fun at_e => before (by simpa [at_e] using hm)
    simp [Tab.get_set_ne _ _ this]

theorem takeSubstitution_resolved (e : Fin 16) (new : SubEntry) {s : State} {a : Acc (Tab 256 SignalRun)}
    (loaded : s.image = { img with substitution := img.substitution.set e new }) (h : ResolvedUnder img a.st) :
    ResolvedUnder s.image (takeSubstitution (img.substitution.get e) new s a).st := by
  refine resolvedUnder_after h (fun k far => ⟨rfl, ?_⟩) (takeSubstitution_reaches s a) fun k near => near
  simp only [not_or, not_exists, not_and] at far
  obtain ⟨unnamed, independent⟩ := far
  have entry : ∀ k, (¬(new.inUse = true ∧ new.signal = k)) → (¬((img.substitution.get e).inUse = true ∧ (img.substitution.get e).signal = k)) →
      s.image.subOf k = img.subOf k := fun k after before => by rw [loaded]; exact subOf_set before after
  have here := entry k (not_and.2 unnamed.1) (not_and.2 unnamed.2)
  refine resolved_stands rfl (by rw [loaded]; exact ⟨rfl, rfl⟩) ?_ fun _ _ _ _ => rfl
  rintro j (rfl | ⟨x, named, alternate⟩)
  · exact here
  · have depends := dependsOn_of_subOf (here.trans named) alternate
    exact entry j (fun hj => independent j (.inl hj) depends) (fun hj => independent j (.inr hj) depends)

/-- A re-initialization resolves every signal from the starting values (R44). -/
theorem reinitSignals_resolved (starting : Bool) (s : State) (a : Acc (Tab 256 SignalRun)) :
    ResolvedUnder s.image (reinitSignals starting s a).st := by
  intro i
  unfold reinitSignals
  extract_lets fresh t events
  have at_t : ∀ k, t.get k = resolved s.image fresh k := fun k => Tab.get_mapIdx _ _ _
  have same : SameOwn fresh t := fun k => by rw [at_t]; exact resolved_own _ _ _
  exact (at_t i).trans (resolved_congr same (.inr (at_t i))).symm

/-- A load of another table is no matter to the signals. -/
theorem resolvedUnder_of_sameCore (core : img.SameCore img') (h : ResolvedUnder img t) : ResolvedUnder img' t := fun i => by
  have entry : ∀ k, img'.subOf k = img.subOf k := fun k => by
    simp only [Image.subOf, Image.subIndex, core.substitution]
  rw [h i]
  refine .symm (resolved_stands ?_ (core.limits i) (fun k _ => entry k) fun _ _ _ _ => ?_) <;> rfl

end

/-! ### Every step -/

theorem loadEntry_resolved {s t : State} {table index : Nat} {content : List Byte} (h : s.SignalsResolved)
    (e : s.loadEntry table index content = .ok t) : t.SignalsResolved := by
  unfold State.loadEntry at e
  split at e
  · split at e <;> cases e
    next loaded =>
    obtain ⟨cfg, written⟩ := (loadSignal_ensures index s.image).on loaded
    exact takeSignalLoad_resolved (a := ⟨s.signals, []⟩) _ _ cfg written h
  · unfold State.substitute at e
    split at e <;> cases e
    next loaded =>
    exact takeSubstitution_resolved (a := ⟨s.signals, []⟩) _ _ ((loadSubstitution_ensures index s.image).on loaded) h
  · next other _ =>
    split at e <;> cases e
    next loaded =>
    by_cases gauge : table = 8
    · subst gauge
      obtain ⟨g, cfg, -, rfl⟩ := (loadGauge_ensures index s.image).on loaded
      refine fun i => (h i).trans (.symm (resolved_stands ?_ ⟨?_, ?_⟩ (fun _ _ => ?_) fun _ _ _ _ => ?_)) <;> rfl
    · exact resolvedUnder_of_sameCore ((tableLoader_sameCore index s.image gauge).on loaded) h

theorem subOf_factory (i : Fin 256) : Image.factory.subOf i = none :=
  subOf_absent fun m inUse => by simp [Image.factory, SubEntry.blank] at inUse

theorem resolved_reset (i : Fin 256) : resolved Image.factory (Tab.replicate 256 SignalRun.reset) i = SignalRun.reset := by
  have status : ownStatus Image.factory i SignalRun.reset = .neverReceived := by
    simp [ownStatus, Image.blocks, subOf_factory, SignalRun.reset]
  simp only [resolved, subOf_factory, Tab.get_replicate, status]
  rfl

theorem signalsResolved_kept : Kept State.SignalsResolved where
  write {s} i w h := takeWrite_resolved (a := ⟨s.signals, []⟩) i w h
  tell {s m} _ _ h := by
    have signals : ((s.setMode m).tellMode s.control.mode m).signals = s.signals := setMode_signals s m
    have image : ((s.setMode m).tellMode s.control.mode m).image = s.image := setMode_image s m
    unfold State.SignalsResolved
    rwa [signals, image]
  reinit b _ _ := reinitSignals_resolved b _ ⟨_, []⟩
  placed b _ _ _ := reinitSignals_resolved b _ ⟨_, []⟩
  loaded e h := loadEntry_resolved h e
  released {s} x h := takeSubstitution_resolved (a := ⟨s.signals, []⟩) x _ (s := { s with image := { s.image with
    substitution := s.image.substitution.set x { s.image.substitution.get x with inUse := false } } }) rfl h
  reset _ _ := fun i => by
    simp only [State.resetWith, resolved_reset, Tab.get_replicate]

/-! ### Table 2-4 -/

theorem ownStatus_unnamed {img : Image} {i : Fin 256} (r : SignalRun) (h : img.subOf i = none) : ownStatus img i r = r.written := by
  simp [ownStatus, Image.blocks, h]

/-- A signal without an entry shows its own state, or its held value while that is not VALID. -/
theorem resolved_unnamed {img : Image} {i : Fin 256} (t : Tab 256 SignalRun) (h : img.subOf i = none) :
    ((t.get i).written = .valid →
        resolved img t i = { t.get i with eff := ⟨(t.get i).own, .valid, none, (t.get i).qual⟩, held := (t.get i).own })
      ∧ ((t.get i).written ≠ .valid →
        resolved img t i = { t.get i with eff := ⟨(t.get i).held, .invalid, some (t.get i).written, false⟩ }) := by
  have status := ownStatus_unnamed (t.get i) h
  constructor <;> intro written <;> simp [resolved, h, status, written]

/-- A signal with an entry is BLOCKED by it while it is FORCED without alternate. -/
theorem ownStatus_named {img : Image} {i : Fin 256} {x : SubEntry} (r : SignalRun) (h : img.subOf i = some x) :
    ownStatus img i r = if x.forced = true ∧ x.alternate = .none then .blocked else r.written := by
  simp [ownStatus, Image.blocks, h]

/-- What an entry offers, as the statement writes it out. -/
theorem alternateValue_eq (img : Image) (t : Tab 256 SignalRun) (x : SubEntry) : alternateValue img t x =
    match x.alternate with
    | .none => none
    | .constant v => some v
    | .signal j => if ownStatus img j (t.get j) = .valid then some (t.get j).own else none := by
  unfold alternateValue
  cases x.alternate with
  | none => rfl
  | constant v => rfl
  | signal j => simp

/-- A signal with an entry that gives way to it, by force or because the own status is not VALID. -/
theorem resolved_named {img : Image} {i : Fin 256} {x : SubEntry} (t : Tab 256 SignalRun) (h : img.subOf i = some x) :
    (x.forced = false → ownStatus img i (t.get i) = .valid →
        resolved img t i = { t.get i with eff := ⟨(t.get i).own, .valid, none, (t.get i).qual⟩, held := (t.get i).own })
      ∧ (x.forced = true ∨ ownStatus img i (t.get i) ≠ .valid →
        (∀ v, alternateValue img t x = some v →
          resolved img t i = { t.get i with
            eff := ⟨clamp (img.signals.get i).min (img.signals.get i).max v, .substituted, none,
              decide (clamp (img.signals.get i).min (img.signals.get i).max v ≠ v)⟩
            held := clamp (img.signals.get i).min (img.signals.get i).max v })
        ∧ (alternateValue img t x = none → resolved img t i = { t.get i with
            eff := ⟨(t.get i).held, .invalid,
              some (if ownStatus img i (t.get i) = .valid then .blocked else ownStatus img i (t.get i)), false⟩ })) := by
  refine ⟨fun free valid => by simp [resolved, h, free, valid], fun gives => ⟨fun v offered => ?_, fun offered => ?_⟩⟩ <;>
  · have first : (!x.forced && ownStatus img i (t.get i) == .valid) = false := by
      rcases gives with forced | invalid
      · simp [forced]
      · simp [invalid]
    simp [resolved, h, first, offered]

/-- Settles O59. -/
theorem signalsResolvedKept : Obligations.SignalsResolvedKept := by
  refine ⟨fun s t h e => signalsResolved_kept.step h e, fun img t i => ?_, fun img t k => ?_⟩
  · intro r unnamed
    have none := subOf_absent unnamed
    exact ⟨ownStatus_unnamed _ none, resolved_unnamed t none⟩
  · intro x i r cfg own offered inUse alone
    have named : img.subOf i = some x := subOf_unique inUse rfl fun m used names => by
      by_contra other
      exact alone m other used names
    have offers : alternateValue img t x = offered := alternateValue_eq img t x
    obtain ⟨own_valid, gives⟩ := resolved_named t named
    refine ⟨ownStatus_named r named, own_valid, fun h => ?_⟩
    obtain ⟨value, nothing⟩ := gives h
    exact ⟨fun v hv => value v (offers.trans hv), fun none => nothing (offers.trans none)⟩

end Sys2Proof.Machine
end

section
/-! PROOFS. GaugeScaleProofs: the characteristic (R87) and the bounds that every step keeps the gauges in (R83, R89), with their coils
(R92, R97 to R100). -/

namespace Sys2Proof.Machine

/-! ### The characteristic -/

theorem increasing_iff (points : List (Int × Nat)) : increasing points = true ↔ points.Pairwise fun a b => a.1 < b.1 := by
  induction points with
  | nil => simp [increasing]
  | cons a rest ih =>
    cases rest with
    | nil => simp [increasing]
    | cons b rest =>
      simp only [increasing, Bool.and_eq_true, decide_eq_true_eq, ih]
      refine ⟨fun ⟨first, order⟩ => List.pairwise_cons.2 ⟨fun c hc => ?_, order⟩, fun order => ?_⟩
      · rcases List.mem_cons.1 hc with rfl | hc
        · exact first
        · exact first.trans ((List.pairwise_cons.1 order).1 c hc)
      · obtain ⟨first, order⟩ := List.pairwise_cons.1 order
        exact ⟨first b List.mem_cons_self, order⟩

theorem interpolate_below {x v : Int} {p : Nat} {rest : List (Int × Nat)} (below : v ≤ x) : interpolate ((x, p) :: rest) v = p := by
  cases rest with
  | nil => rfl
  | cons b rest => simp [interpolate, below]

/-- Past the second breakpoint the first is no matter. -/
theorem interpolate_past {a b : Int × Nat} {v : Int} {rest : List (Int × Nat)} (first : a.1 < b.1) (past : b.1 ≤ v) :
    interpolate (a :: b :: rest) v = interpolate (b :: rest) v := by
  simp only [interpolate]
  rw [if_neg (by omega), if_neg (by omega)]

/-- The correction goes from nothing to the difference of the ordinates. -/
theorem correction_bounds {v x x' : Int} (p p' : Nat) (from_x : x ≤ v) (to_x' : v < x') :
    let q := ((v - x) * ((p' : Int) - p)).tdiv (x' - x)
    (min p p' : Nat) ≤ (p : Int) + q ∧ (p : Int) + q ≤ (max p p' : Nat) := by
  have span : 0 < x' - x := by omega
  have part : 0 ≤ v - x := by omega
  have toward : ∀ d : Int, 0 ≤ d → 0 ≤ ((v - x) * d).tdiv (x' - x) ∧ ((v - x) * d).tdiv (x' - x) ≤ d := by
    intro d hd
    have nonneg : 0 ≤ (v - x) * d := Int.mul_nonneg part hd
    rw [Int.tdiv_eq_ediv_of_nonneg nonneg]
    refine ⟨Int.ediv_nonneg nonneg span.le, Int.ediv_le_of_le_mul span ?_⟩
    rw [Int.mul_comm d]
    exact Int.mul_le_mul_of_nonneg_right (by omega) hd
  intro q
  rcases Nat.le_total p p' with up | down
  · obtain ⟨low, high⟩ := toward (p' - p) (by omega)
    simp only [q]
    omega
  · have neg : ((v - x) * ((p' : Int) - p)).tdiv (x' - x) = -((v - x) * ((p : Int) - p')).tdiv (x' - x) := by
      rw [← Int.neg_tdiv]
      congr 1
      ring
    obtain ⟨low, high⟩ := toward (p - p') (by omega)
    simp only [q, neg]
    omega

/-- Between two neighbours. -/
theorem interpolate_between {points : List (Int × Nat)} {v x x' : Int} {p p' : Nat} {i : Nat} (order : points.Pairwise fun a b => a.1 < b.1)
    (at_i : points[i]? = some (x, p)) (at_next : points[i + 1]? = some (x', p')) (from_x : x ≤ v) (to_x' : v < x') :
    ((interpolate points v : Nat) : Int) = p + ((v - x) * ((p' : Int) - p)).tdiv (x' - x) := by
  induction i generalizing points with
  | zero =>
    match points, at_i, at_next with
    | _ :: _ :: _, rfl, rfl =>
      simp only [interpolate]
      split
      · next low =>
        obtain rfl : v = x := by omega
        simp
      · obtain ⟨low, -⟩ := correction_bounds p p' from_x to_x'
        exact Int.toNat_of_nonneg ((Int.natCast_nonneg _).trans low)
  | succ i ih =>
    match points, at_i, at_next with
    | a :: b :: rest, at_i, at_next =>
      obtain ⟨first, order⟩ := List.pairwise_cons.1 order
      have past : b.1 ≤ v := by
        rcases List.mem_cons.1 (List.mem_of_getElem? at_i : (x, p) ∈ b :: rest) with e | later
        · rw [← e]
          exact from_x
        · exact ((List.pairwise_cons.1 order).1 _ later).le.trans from_x
      rw [interpolate_past (first b List.mem_cons_self) past]
      exact ih order at_i at_next

theorem interpolate_above {points : List (Int × Nat)} {v x : Int} {p : Nat} (order : points.Pairwise fun a b => a.1 < b.1)
    (last : points.getLast? = some (x, p)) (above : x ≤ v) : interpolate points v = p := by
  induction points with
  | nil => cases last
  | cons a rest ih =>
    cases rest with
    | nil => cases last; rfl
    | cons b rest =>
      obtain ⟨first, order⟩ := List.pairwise_cons.1 order
      have last' : (b :: rest).getLast? = some (x, p) := by simpa using last
      have past : b.1 ≤ v := by
        rcases List.mem_cons.1 (List.mem_of_getLast? last') with e | later
        · rw [← e]
          exact above
        · exact ((List.pairwise_cons.1 order).1 _ later).le.trans above
      rw [interpolate_past (first b List.mem_cons_self) past]
      exact ih order last'

/-- No point of the characteristic lies above the highest ordinate. -/
theorem interpolate_le {points : List (Int × Nat)} {fs : Nat} (bounded : ∀ b ∈ points, b.2 ≤ fs) (v : Int) : interpolate points v ≤ fs := by
  induction points with
  | nil => exact Nat.zero_le _
  | cons a rest ih =>
    cases rest with
    | nil => exact bounded a List.mem_cons_self
    | cons b rest =>
      have ha := bounded a List.mem_cons_self
      have hb := bounded b (.tail _ List.mem_cons_self)
      simp only [interpolate]
      split
      · exact ha
      · split
        · next low high =>
          obtain ⟨-, top⟩ := correction_bounds a.2 b.2 (show a.1 ≤ v by omega) high
          have : (max a.2 b.2 : Nat) ≤ fs := max_le ha hb
          omega
        · exact ih fun c hc => bounded c (.tail _ hc)

/-- Settles O41. -/
theorem interpolationFollows : Obligations.InterpolationFollows := by
  intro points v rising
  have order := (increasing_iff points).1 rising
  refine ⟨?_, fun x p last above => interpolate_above order last above, fun i x x' p p' at_i at_next from_x to_x' => ?_,
    fun fs bounded => interpolate_le bounded v⟩
  · rintro x p rest rfl below
    exact interpolate_below below
  · have value := interpolate_between order at_i at_next from_x to_x'
    obtain ⟨low, high⟩ := correction_bounds p p' from_x to_x'
    rw [← value] at low high
    exact ⟨value, by exact_mod_cast low, by exact_mod_cast high⟩

/-! ### Gauges within their scale -/

section
variable {cfg : GaugeConfig} {r : GaugeRun} {fs : Nat}

theorem toward_le {slew d p : Nat} (hd : d ≤ fs) (hp : p ≤ fs) : toward slew d p ≤ fs := by
  unfold toward
  split <;> omega

theorem moveTo_within {d : Nat} (hd : d ≤ fs) (h : r.Within fs) : (moveTo cfg d r).Within fs := by
  obtain ⟨target, demand, position, filter⟩ := h
  exact ⟨hd, hd, toward_le hd position, filter⟩

theorem beginSweep_within (h : r.Within fs) : (beginSweep r).Within fs := h

theorem updateGauge_within (sound : cfg.Sound) (h : r.Within cfg.fs) : (updateGauge cfg r).Within cfg.fs := by
  obtain ⟨-, -, points, rest, fallback⟩ := sound
  unfold updateGauge
  split
  · obtain ⟨-, -, position, filter⟩ := h
    have demand : demandOf cfg.fs (damp cfg.damping (interpolate cfg.points r.view.value) r.filter) ≤ cfg.fs := Nat.min_le_left _ _
    have target := interpolate_le points r.view.value
    exact ⟨target, demand, toward_le demand position, damp_le_scale _ target filter⟩
  · split
    · obtain ⟨target, demand, position, filter⟩ := h
      exact ⟨target, demand, toward_le demand position, filter⟩
    · exact moveTo_within rest h
    · next v at_v => exact moveTo_within (fallback v at_v) h
  · have moved := moveTo_within (cfg := cfg) rest h
    dsimp only
    split
    · split
      · exact beginSweep_within moved
      · exact trackOrFallback_within moved
    · exact moved
  · split
    · have moved := moveTo_within (cfg := cfg) (le_refl cfg.fs) h
      dsimp only
      split <;> exact moved
    · have moved := moveTo_within (cfg := cfg) rest h
      dsimp only
      split
      · exact trackOrFallback_within moved
      · exact moved
  · have moved := moveTo_within (cfg := cfg) rest h
    dsimp only
    split <;> exact moved
  all_goals exact h

/-- What an entry to a mode, a test or an update event does to a gauge moves none of what R89 bounds out of its bounds. -/
theorem gaugeActive_within (g : Fin 6) (old : Mode) (now : Nat) (h : r.Within fs) : (gaugeActive g cfg old now r).1.Within fs := by
  unfold gaugeActive
  split
  · exact h
  · exact h
  · dsimp only
    split
    · exact h
    · exact trackOrFallback_within h
  · dsimp only
    split
    · exact h
    · exact trackOrFallback_within h
  · exact h

end

section
variable {s : State} {a : Acc Gauges}

/-- Every gauge lies within the full scale that `cfg` gives it. -/
def Gauges.WithinAll (cfg : Tab 6 GaugeConfig) (v : Gauges) : Prop := ∀ g, (v.gauges.get g).Within (cfg.get g).fs

theorem onInUse_within {f : Fin 6 → GaugeConfig → GaugeRun → Told GaugeRun}
    (each : ∀ g r, (s.running.gauges.get g).inUse = true → r.Within (s.running.gauges.get g).fs →
      (f g (s.running.gauges.get g) r).1.Within (s.running.gauges.get g).fs)
    (h : a.st.WithinAll s.running.gauges) : (Gauges.onInUse s f a).st.WithinAll s.running.gauges := fun g => by
  rw [onInUse_get]
  split
  · next inUse => exact each g _ inUse (h g)
  · exact h g

/-- The update timer is no matter. -/
theorem timer_within {cfg : Tab 6 GaugeConfig} (t : Option Nat) (h : a.st.WithinAll cfg) :
    (a.upd fun v => { v with updateTimer := t }).st.WithinAll cfg := h

theorem gaugeEvent_within {f : State → Acc Gauges → Acc Gauges} (e : GaugeEvent f) (sound : s.running.GaugesSound)
    (h : a.st.WithinAll s.running.gauges) : (f s a).st.WithinAll s.running.gauges := by
  cases e with
  | signal i e =>
    refine onInUse_within (fun g r _ hr => ?_) h
    dsimp only
    split
    · split
      · split <;> exact hr
      · split
        · exact trackOrFallback_within (r := { r with view := e }) hr
        · exact hr
      · exact hr
    · exact hr
  | testStart =>
    refine onInUse_within (fun g r _ hr => ?_) h
    dsimp only
    split <;> exact hr
  | testEnd =>
    refine onInUse_within (fun g r _ hr => ?_) h
    dsimp only
    split
    · split
      · exact trackOrFallback_within (r := { r with testSweep := false, sweepPending := false }) hr
      · exact hr
    · exact hr
  | update =>
    unfold takeGaugeUpdate
    exact timer_within _ (onInUse_within (fun g r inUse hr => updateGauge_within (sound g inUse) hr) h)
  | homed k =>
    refine onInUse_within (fun g r _ hr => ?_) h
    have zero : ∀ fs, { r with position := 0, filter := 0, demand := 0, target := 0, homing := none }.Within fs := fun fs =>
      ⟨Nat.zero_le _, Nat.zero_le _, Nat.zero_le _, Nat.zero_le _⟩
    dsimp only
    split
    · split
      · split <;> exact zero _
      · exact zero _
    · exact hr

theorem gaugeMode_within (old new : Mode) (h : a.st.WithinAll s.running.gauges) :
    (gaugeMode old new s a).st.WithinAll s.running.gauges := by
  unfold gaugeMode
  split
  · exact onInUse_within (fun g r _ hr => gaugeActive_within g old s.now hr) h
  · exact h
  · exact timer_within _ (onInUse_within (fun g r _ hr => gaugeRest_within _ hr) h)
  · exact onInUse_within (fun g r _ hr => gaugeRest_within _ hr) h

/-- A gauge whose configuration has changed starts at 0. -/
theorem reinitGauges_within (old : Image) (h : a.st.WithinAll old.gauges) : (reinitGauges old s a).st.WithinAll s.running.gauges := by
  intro g
  simp only [reinitGauges, tellRows_get]
  have kept : (if old.gauges.get g = s.running.gauges.get g then a.st.gauges.get g
      else { GaugeRun.reset with view := (a.st.gauges.get g).view, phase := (a.st.gauges.get g).phase }).Within
        (s.running.gauges.get g).fs := by
    split
    · next same => exact same ▸ h g
    · exact reset_within _
  split <;> exact kept

/-- The Gauge Engine takes a change of mode in a state that agrees with the one entered. -/
theorem tellMode_gauges (s : State) (old new : Mode) : ∃ v : State, v.running = s.running ∧ v.control = s.control ∧ v.now = s.now
    ∧ (s.tellMode old new).gauges = (gaugeMode old new v ⟨s.gauges, []⟩).st := by
  refine ⟨s.runFrames (frameMode old new) |>.runInputs (inputMode new) |>.runDoors (doorMode new), rfl, rfl, rfl, ?_⟩
  simp [State.tellMode]

end

/-- The images of the slots hold gauges that the loader accepts. -/
def Store.SlotsSound (t : Store) : Prop := ∀ n img, (t.slots.get n).image = some img → img.GaugesSound

section
variable {s : State} {t : Store}

theorem slotsSound_of_same {u : Store} (same : u.slots = t.slots) (h : t.SlotsSound) : u.SlotsSound := by
  unfold Store.SlotsSound
  rwa [same]

theorem slotsSound_set {n : Fin 4} {slot : ProfileSlot} (new : ∀ img, slot.image = some img → img.GaugesSound) (h : t.SlotsSound) :
    { t with slots := t.slots.set n slot }.SlotsSound := fun m img hm => by
  simp only [Tab.get_set] at hm
  split at hm
  · exact new img hm
  · exact h m img hm

theorem commitTick_slotsSound (image : s.image.GaugesSound) (h : s.store.SlotsSound) : s.commitTick.store.SlotsSound := by
  have written : ∀ b n, { s.store with slots := s.store.slots.set n ⟨some s.image, b⟩ }.SlotsSound := fun b n =>
    slotsSound_set (fun img e => by cases e; exact image) h
  unfold State.commitTick
  split
  · exact h
  · exact written false _
  · exact written true _
  · exact h

theorem beginOperation_slotsSound (h : s.store.SlotsSound) : s.beginOperation.store.SlotsSound := by
  unfold State.beginOperation
  split
  · exact slotsSound_set (t := s.store) nofun h
  · exact h
  · exact slotsSound_of_same (by simp) h
  · exact h

theorem broken_slotsSound (n : Fin 4) (h : t.SlotsSound) : (t.broken n).SlotsSound := fun m img hm => by
  simp only [Store.broken, Tab.get_modify] at hm
  split at hm
  · exact h n img hm
  · exact h m img hm

theorem storeEvent_slotsSound {x : Store} (e : StoreEvent s x) (image : s.image.GaugesSound) (h : s.store.SlotsSound) : x.SlotsSound := by
  cases e with
  | tick => exact commitTick_slotsSound image h
  | begin => exact beginOperation_slotsSound h
  | request r =>
    unfold State.requestOperation
    split
    · exact h
    · exact beginOperation_slotsSound h
  | saved => exact slotsSound_of_same (by simp) h
  | verified => exact slotsSound_of_same (by simp) h
  | broken n => exact broken_slotsSound n h
  | spoiled => exact slotsSound_of_same (by simp) h
  | _ => exact h

theorem afterReset_slotsSound (h : t.SlotsSound) : t.afterReset.SlotsSound := by
  unfold Store.afterReset
  dsimp only
  split
  · exact broken_slotsSound _ h
  · exact h

end

theorem gaugesSound_factory : Image.factory.GaugesSound := fun g inUse => by simp [Image.factory, GaugeConfig.blank] at inUse

theorem gaugesSound_of_same {img img' : Image} (same : img'.gauges = img.gauges) (h : img.GaugesSound) : img'.GaugesSound := by
  unfold Image.GaugesSound
  rwa [same]

theorem loadEntry_gaugesSound {s t : State} {table index : Nat} {content : List Byte} (h : s.image.GaugesSound)
    (e : s.loadEntry table index content = .ok t) : t.image.GaugesSound := by
  unfold State.loadEntry at e
  split at e
  · split at e <;> cases e
    next loaded =>
    obtain ⟨cfg, written⟩ := (loadSignal_ensures index s.image).on loaded
    exact gaugesSound_of_same (congrArg (·.gauges) written) h
  · unfold State.substitute at e
    split at e <;> cases e
    next loaded =>
    have written := (loadSubstitution_ensures index s.image).on loaded
    exact gaugesSound_of_same (congrArg (·.gauges) written) h
  · split at e <;> cases e
    next loaded =>
    by_cases gauge : table = 8
    · subst gauge
      obtain ⟨g, cfg, sound, rfl⟩ := (loadGauge_ensures index s.image).on loaded
      intro k
      simp only [Tab.get_set]
      split
      · exact fun _ => sound
      · exact h k
    · have core := (tableLoader_sameCore index s.image gauge).on loaded
      exact gaugesSound_of_same core.gauges h

theorem gaugesWithin_steady : Steady State.GaugesWithin where
  gauges e h := ⟨h.1, h.2.1, h.2.2.1, gaugeEvent_within (a := ⟨_, []⟩) e h.2.1 h.2.2.2⟩
  store e h := ⟨h.1, h.2.1, storeEvent_slotsSound e h.1 h.2.2.1, h.2.2.2⟩
  tell {s m} _ _ h := by
    obtain ⟨image, running, slots, within⟩ := h
    obtain ⟨v, at_v, -, -, e⟩ := tellMode_gauges (s.setMode m) s.control.mode m
    rw [setMode_running] at at_v
    rw [setMode_gauges] at e
    have told := gaugeMode_within (s := v) (a := ⟨s.gauges, []⟩) s.control.mode m (at_v ▸ within)
    rw [← e, at_v] at told
    have after : ((s.setMode m).tellMode s.control.mode m).running = s.running := setMode_running s m
    have stored : ((s.setMode m).tellMode s.control.mode m).store = s.store := setMode_store s m
    have put : ((s.setMode m).tellMode s.control.mode m).image = s.image := setMode_image s m
    unfold State.GaugesWithin
    rw [after, stored, put]
    exact ⟨image, running, slots, told⟩
  reinit b _ h := ⟨h.1, h.1, h.2.2.1, reinitGauges_within (a := ⟨_, []⟩) _ h.2.2.2⟩

theorem gaugesWithin_kept : Kept State.GaugesWithin where
  toSteady := gaugesWithin_steady
  placed {s img} b _ hand h := by
    have sound : img.GaugesSound := by
      rcases hand with rfl | ⟨n, slot⟩
      · exact h.1
      · exact h.2.2.1 n img slot
    exact ⟨sound, sound, h.2.2.1, reinitGauges_within (a := ⟨_, []⟩) _ h.2.2.2⟩
  loaded e h := by
    have image := loadEntry_gaugesSound h.1 e
    rw [loadEntry_frame e]
    exact ⟨image, h.2⟩
  reset r h := ⟨gaugesSound_factory, gaugesSound_factory, afterReset_slotsSound (gaugesWithin_steady.commitAt r h).2.2.1, fun g => by
    simpa [State.resetWith, Gauges.reset] using reset_within _⟩

/-! ### Coils -/

/-- The coils of a gauge are energized as its state asks for. -/
def GaugeRun.Wired (r : GaugeRun) : Prop := r.coils = r.state.energized

theorem coilsFollow_iff (s : State) : s.CoilsFollow ↔ ∀ g, (s.gauges.gauges.get g).Wired := by
  refine forall_congr' fun g => ?_
  unfold GaugeRun.Wired
  cases (s.gauges.gauges.get g).state <;> simp [GaugeState.energized]

section
variable {s : State} {a : Acc Gauges} {r : GaugeRun}

theorem enter_wired (st : GaugeState) (r : GaugeRun) : (r.enter st).Wired := rfl

theorem trackOrFallback_wired (r : GaugeRun) : (trackOrFallback r).Wired := enter_wired _ r

theorem beginSweep_wired (r : GaugeRun) : (beginSweep r).Wired := enter_wired .sweep r

/-- Every gauge is wired. -/
def Gauges.WiredAll (v : Gauges) : Prop := ∀ g, (v.gauges.get g).Wired

theorem onInUse_wired {f : Fin 6 → GaugeConfig → GaugeRun → Told GaugeRun} (each : ∀ g cfg r, r.Wired → (f g cfg r).1.Wired)
    (h : a.st.WiredAll) : (Gauges.onInUse s f a).st.WiredAll := fun g => by
  rw [onInUse_get]
  split
  · exact each g _ _ (h g)
  · exact h g

theorem timer_wired (t : Option Nat) (h : a.st.WiredAll) : (a.upd fun v => { v with updateTimer := t }).st.WiredAll := h

theorem gaugeEvent_wired {f : State → Acc Gauges → Acc Gauges} (e : GaugeEvent f) (h : a.st.WiredAll) : (f s a).st.WiredAll := by
  cases e with
  | signal i e =>
    refine onInUse_wired (fun g cfg r hr => ?_) h
    dsimp only
    split
    · split
      · split
        · exact hr
        · exact enter_wired _ _
      · split
        · exact trackOrFallback_wired _
        · exact hr
      · exact hr
    · exact hr
  | testStart =>
    refine onInUse_wired (fun g cfg r hr => ?_) h
    dsimp only
    split
    iterate 3 exact beginSweep_wired r
    iterate 3 exact hr
  | testEnd =>
    refine onInUse_wired (fun g cfg r hr => ?_) h
    dsimp only
    split
    · split
      · exact trackOrFallback_wired _
      · exact hr
    · exact hr
  | update =>
    unfold takeGaugeUpdate
    exact timer_wired _ (onInUse_wired (f := fun _ cfg r => (updateGauge cfg r, [])) (fun g cfg r hr => updateGauge_coils cfg hr) h)
  | homed k =>
    refine onInUse_wired (fun g cfg r hr => ?_) h
    dsimp only
    split
    · split
      · split
        · exact beginSweep_wired _
        · exact enter_wired _ _
      · exact enter_wired _ _
    · exact hr

theorem gaugeActive_wired (g : Fin 6) (cfg : GaugeConfig) (old : Mode) (now : Nat) (h : r.Wired) : (gaugeActive g cfg old now r).1.Wired := by
  unfold gaugeActive
  split
  · exact enter_wired .homing r
  · exact h
  · dsimp only
    split
    · exact beginSweep_wired r
    · exact trackOrFallback_wired r
  · dsimp only
    split
    · exact beginSweep_wired r
    · exact trackOrFallback_wired r
  · exact h

theorem gaugeRest_wired (new : Mode) (h : r.Wired) : (gaugeRest new r).Wired := by
  unfold gaugeRest
  dsimp only
  split
  iterate 4
    · split
      · exact h
      · rfl
  · split
    · exact h
    · rfl
  · split
    · rfl
    · exact h
  · exact h

theorem gaugeMode_wired (old new : Mode) (h : a.st.WiredAll) : (gaugeMode old new s a).st.WiredAll := by
  unfold gaugeMode
  split
  · exact onInUse_wired (fun g cfg r hr => gaugeActive_wired g cfg old s.now hr) h
  · exact h
  · exact timer_wired _ (onInUse_wired (fun g cfg r hr => gaugeRest_wired _ hr) h)
  · exact onInUse_wired (fun g cfg r hr => gaugeRest_wired _ hr) h

theorem reinitGauges_wired (old : Image) (h : a.st.WiredAll) : (reinitGauges old s a).st.WiredAll := by
  intro g
  simp only [reinitGauges, tellRows_get]
  have kept : (if old.gauges.get g = s.running.gauges.get g then a.st.gauges.get g
      else { GaugeRun.reset with view := (a.st.gauges.get g).view, phase := (a.st.gauges.get g).phase }).Wired := by
    split
    · exact h g
    · rfl
  split <;> exact kept

end

theorem coilsFollow_kept : Kept State.CoilsFollow where
  gauges e h := (coilsFollow_iff _).2 (gaugeEvent_wired (a := ⟨_, []⟩) e ((coilsFollow_iff _).1 h))
  tell {s m} _ _ h := by
    obtain ⟨v, -, -, -, e⟩ := tellMode_gauges (s.setMode m) s.control.mode m
    rw [setMode_gauges] at e
    rw [coilsFollow_iff] at h ⊢
    rw [e]
    exact gaugeMode_wired (a := ⟨s.gauges, []⟩) _ _ h
  reinit b _ h := (coilsFollow_iff _).2 (reinitGauges_wired (a := ⟨_, []⟩) _ ((coilsFollow_iff _).1 h))
  placed b _ _ h := (coilsFollow_iff _).2 (reinitGauges_wired (a := ⟨_, []⟩) _ ((coilsFollow_iff _).1 h))
  loaded e h := by
    rw [loadEntry_frame e]
    exact h
  reset _ _ := (coilsFollow_iff _).2 fun g => by
    simp [State.resetWith, Gauges.reset, GaugeRun.Wired, GaugeRun.reset, GaugeState.energized]

/-- Settles O39. -/
theorem gaugeStaysWithinScale : Obligations.GaugeStaysWithinScale :=
  ⟨fun _ _ sound within => updateGauge_within sound within, fun _ _ h e => gaugesWithin_kept.step h e,
    fun _ _ h e => coilsFollow_kept.step h e⟩

end Sys2Proof.Machine
end

section
/-! PROOFS. StepShapeProofs: one step as the statements of the queue, of the impossible events and of reset write it out (O1 to O4, O53). -/

namespace Sys2Proof.Machine

/-! ### Idle time -/

/-- All that the passing of time changes: the clock, the running time's remainder in ACTIVE, and the shown time of the top entry. -/
theorem advance_frame (dt : Nat) (s : State) : s.advance dt = { s with
    now := s.now + dt
    control := { s.control with
      remainder := if s.control.mode = .active then s.control.remainder + dt else s.control.remainder }
    warnings := { s.warnings with stack := match s.warnings.stack with
      | [] => []
      | top :: rest => { top with shown := top.shown + dt } :: rest } } := by
  have control : (if s.control.mode = .active then { s.control with remainder := s.control.remainder + dt } else s.control)
      = { s.control with remainder := if s.control.mode = .active then s.control.remainder + dt else s.control.remainder } := by
    split <;> rfl
  cases stack : s.warnings.stack with
  | nil =>
    have warnings : s.warnings = { s.warnings with stack := [] } := by rw [← stack]
    simp only [State.advance, control, stack]
    rw [← warnings]
  | cons top rest => simp only [State.advance, control, stack]

theorem spoil_current (t : Store) : t.spoil.current = t.current := by
  unfold Store.spoil Store.current Store.setOther
  cases t.secondIsCurrent <;> rfl

theorem spoil_other (t : Store) : t.spoil.other = { t.other with valid := false } := by
  unfold Store.spoil Store.other Store.setOther
  cases t.secondIsCurrent <;> rfl

/-- Settles O1: the step's equations, and the commit's next step after a millisecond. -/
theorem stepRunsFrontOrIdles : Obligations.StepRunsFrontOrIdles := by
  refine ⟨fun c rest s queued => by rw [step, queued], fun s empty left => ?left, fun _ => rfl, fun _ => rfl, fun _ => rfl,
    fun n s none => ?none, fun n m rest s mail => ?one, fun s empty none => ?idle⟩
  case left =>
    rw [step, empty]
    simp only [List.isEmpty_eq_false_iff.2 left, Bool.false_eq_true, if_false]
  case none => cases n <;> simp [settle, none]
  case one => simp only [settle, mail]
  case idle =>
    refine ⟨s.idle, by rw [step, empty]; simp [none], ?_⟩
    have frame : s.idle = { s.advance 1 with
        store := s.idle.store, faults := { s.faults with changed := s.idle.faults.changed } } := commitTick_frame (s.advance 1)
    have control : s.idle.control = (s.advance 1).control := by rw [State.idle, commitTick_control]
    have warnings : s.idle.warnings = (s.advance 1).warnings := by rw [State.idle, commitTick_warnings]
    have time : s.idle.now = s.now + 1 := by rw [State.idle, commitTick_now, advance_now]
    have passed := advance_frame 1 s
    refine ⟨time, ?_, ?_, fun top below stack => ?_, fun stack => ?_, fun idle => ?_, fun n erase => ?_, fun n write => ?_, fun n check => ?_⟩
    · rw [control, warnings, time]
      rw [passed] at frame ⊢
      exact frame
    · rw [control, passed]
    · rw [warnings, passed, stack]
    · rw [warnings, passed, stack]
    · rw [idle_of_no_commit idle]
      exact ⟨rfl, rfl⟩
    · rw [State.idle, commitTick_erase (s := s.advance 1) erase]
      exact ⟨rfl, rfl⟩
    · rw [State.idle, commitTick_write (s := s.advance 1) write]
      exact ⟨rfl, rfl⟩
    · rw [State.idle, commitTick_check (s := s.advance 1) check]
      exact ⟨rfl, rfl, rfl, spoil_waiting _, spoil_current _, spoil_other _, rfl⟩

/-! ### Every command answers -/

theorem happening_next (b : Bool) (f : State → State) (s : State) : ∃ t, happening b f s = .next t := by
  cases b <;> exact ⟨_, rfl⟩

theorem expiry_next (timer : Option Nat) (f : State → State) (s : State) : ∃ t, expiry timer f s = .next t := by
  cases timer <;> exact ⟨_, rfl⟩

/-- Nothing that a step is put together from looks at the queue. -/
theorem pending_kept (q : List Instr) : Kept fun s => s.pending = q where
  tell {s m} _ _ h := by
    have : ((s.setMode m).tellMode s.control.mode m).pending = s.pending := setMode_pending s m
    rwa [this]
  loaded e h := by
    rw [loadEntry_frame e]
    exact h
  reset _ h := h

theorem exec_next (c : Instr) (s : State) : ∃ t, exec c s = .next t := by
  cases c with
  | startingComplete | receivedFrame | receiveError | transmitError | transmissionComplete | runningTimeSecond | lampSensingResult
  | readyAsserted | readyDeasserted | transferComplete => exact happening_next _ _ _
  | recoveryTimerExpiry | receptionTimerExpiry | gapTimerExpiry | testTimerExpiry | sleepTimerExpiry | scan | sleepScan
  | travelTimerExpiry | plausibilityTimerExpiry | gaugeUpdate | homingTimerExpiry | onDelayExpiry | offDelayExpiry | minimumTimerExpiry
  | autoDismissTimerExpiry | stepTimerExpiry | bulbCheckTimerExpiry | periodTimerExpiry | refreshTimerExpiry | stallTimerExpiry =>
    exact expiry_next _ _ _
  | commitComplete =>
    simp only [exec, execCommitComplete]
    split <;> exact ⟨_, rfl⟩
  | selectReadComplete saved =>
    simp only [exec, execSelectReadComplete]
    split <;> exact ⟨_, rfl⟩
  | persistenceSaveComplete =>
    simp only [exec, execPersistenceSaveComplete]
    split <;> exact ⟨_, rfl⟩
  | storeWriteFailure failed =>
    simp only [exec, execStoreWriteFailure]
    split <;> exact ⟨_, rfl⟩
  | _ => exact ⟨_, rfl⟩

/-- Settles O2. -/
theorem everyCommandAnswersNext : Obligations.EveryCommandAnswersNext := fun c s => by
  obtain ⟨t, e⟩ := exec_next c s
  exact ⟨t, e, (pending_kept s.pending).exec rfl e⟩

/-! ### Impossible events -/

theorem expiry_stopped {timer : Option Nat} (f : State → State) (s : State) (stopped : timer = none) : expiry timer f s = .next s := by
  rw [stopped]
  rfl

theorem happening_impossible {b : Bool} (f : State → State) (s : State) (impossible : b = false) : happening b f s = .next s := by
  rw [impossible]
  rfl

theorem delayIn_eq_none {st : WarningState} {w : Fin 64} {s : State}
    (h : (s.warnings.recs.get w).delay = none ∨ (s.warnings.recs.get w).state ≠ st) : delayIn st w s = none := by
  unfold delayIn
  rcases h with h | h
  · simp [h]
  · simp [h]

/-- Settles O3: with the timer stopped, or the happening impossible, nothing is done. -/
theorem impossibleEventsChangeNothing : Obligations.ImpossibleEventsChangeNothing := by
  intro s
  refine ⟨fun p h => expiry_stopped _ s h, fun e h => expiry_stopped _ s ?_, fun p h => expiry_stopped _ s h,
    fun e h => expiry_stopped _ s h, fun h => expiry_stopped _ s h, fun h => expiry_stopped _ s h, fun d h => expiry_stopped _ s h,
    fun d h => expiry_stopped _ s h, fun g h => expiry_stopped _ s h, fun h => expiry_stopped _ s h, fun h => expiry_stopped _ s h,
    fun h => expiry_stopped _ s h, fun h => expiry_stopped _ s h, fun h l a => expiry_stopped _ s h, fun h l => expiry_stopped _ s h,
    fun h => expiry_stopped _ s h, fun w h => expiry_stopped _ s (delayIn_eq_none h), fun w h => expiry_stopped _ s (delayIn_eq_none h),
    fun h => expiry_stopped _ s h, fun h => expiry_stopped _ s h, fun p h => ?_, fun p f h => happening_impossible _ s ?_,
    fun h => happening_impossible _ s ?_, fun h => happening_impossible _ s h, fun h => happening_impossible _ s ?_,
    fun h b => happening_impossible _ s ?_, fun h => ?_, fun h => happening_impossible _ s ?_⟩
  · cases timer : (s.frames.entries.get e).timer with
    | running t => exact absurd timer (h t)
    | stopped | held => rfl
  · have idle : s.sending p = false := by simp [State.sending, h]
    exact ⟨happening_impossible _ s idle, happening_impossible _ s idle⟩
  · rcases h with h | h <;> rw [h] <;> rfl
  · rw [h]; rfl
  · simpa using h
  · rw [h]; rfl
  · have reached : ∀ k, s.commitAt k = s := fun k => commitAt_of_no_commit k (by simp [h])
    refine ⟨?_, ?_, fun b => ?_, fun k => ?_⟩
    · simp only [exec, execCommitComplete, reached, h]
    · simp only [exec, execPersistenceSaveComplete, h]
    · simp only [exec, execSelectReadComplete, h]
    · simp only [exec, execStoreWriteFailure, reached, h]
  · simpa using h

end Sys2Proof.Machine
end

section
/-! PROOFS. ResetProofs: a reset, whatever it interrupts (R186, R187), and the invariants at it (O4, O53). -/

namespace Sys2Proof.Machine

/-! ### The steps of a commit -/

section
variable {s : State} {n : Fin 4} {k : CommitStep} {r : StoreStep}

theorem repeat_succ_front {α : Type} (f : α → α) (m : Nat) (a : α) : Nat.repeat f (m + 1) a = Nat.repeat f m (f a) := by
  induction m with
  | zero => rfl
  | succ m ih => exact congrArg f ih

/-- A commit that has not reached the step goes through its next step first. -/
theorem commitAt_tick (next : s.commitTick.store.rank = s.store.rank + 1) (ahead : s.store.rank < stepRank r) :
    s.commitAt r = s.commitTick.commitAt r := by
  obtain ⟨m, hm⟩ : ∃ m, stepRank r - s.store.rank = m + 1 := ⟨stepRank r - s.store.rank - 1, by omega⟩
  have hm' : stepRank r - s.commitTick.store.rank = m := by omega
  rw [State.commitAt, hm, repeat_succ_front, State.commitAt, hm']

/-- The rank of the step that a commit before its save stands in. -/
def CommitStep.rank : CommitStep → Nat
  | .erase => 0 | .write => 1 | .check => 2

theorem rank_of_commit (h : s.store.operation = some (.commit n k)) : s.store.rank = k.rank := by
  unfold Store.rank
  rw [h]
  cases k <;> rfl

theorem rank_of_commitSave {items : Persistent} (h : s.store.operation = some (.commitSave n items)) : s.store.rank = 3 := by
  unfold Store.rank
  rw [h]

/-- What a commit of slot `n` leaves alone on its way to its save: all but the slot and its own step. -/
structure CommitsOn (n : Fin 4) (s t : State) : Prop where
  image : t.image = s.image
  items : t.faults.items = s.faults.items
  slots : ∀ m, m ≠ n → t.store.slots.get m = s.store.slots.get m
  status : ∀ m, m ≠ n → t.store.status.get m = s.store.status.get m
  waiting : t.store.waiting = s.store.waiting
  current : t.store.current = s.store.current
  second : t.store.secondIsCurrent = s.store.secondIsCurrent
  failure : t.store.failure = s.store.failure
  reportedFallback : t.store.reportedFallback = s.store.reportedFallback
  reportedFailure : t.store.reportedFailure = s.store.reportedFailure

theorem CommitsOn.trans {s t u : State} (h : CommitsOn n s t) (h' : CommitsOn n t u) : CommitsOn n s u where
  image := h'.image.trans h.image
  items := h'.items.trans h.items
  slots m ne := (h'.slots m ne).trans (h.slots m ne)
  status m ne := (h'.status m ne).trans (h.status m ne)
  waiting := h'.waiting.trans h.waiting
  current := h'.current.trans h.current
  second := h'.second.trans h.second
  failure := h'.failure.trans h.failure
  reportedFallback := h'.reportedFallback.trans h.reportedFallback
  reportedFailure := h'.reportedFailure.trans h.reportedFailure

theorem CommitsOn.refl (n : Fin 4) (s : State) : CommitsOn n s s :=
  ⟨rfl, rfl, fun _ _ => rfl, fun _ _ => rfl, rfl, rfl, rfl, rfl, rfl, rfl⟩

@[simp] theorem setOther_failure (t : Store) (c : AreaCopy) : (t.setOther c).failure = t.failure := by
  unfold Store.setOther; split <;> rfl
@[simp] theorem setOther_status (t : Store) (c : AreaCopy) : (t.setOther c).status = t.status := by
  unfold Store.setOther; split <;> rfl
@[simp] theorem setOther_secondIsCurrent (t : Store) (c : AreaCopy) : (t.setOther c).secondIsCurrent = t.secondIsCurrent := by
  unfold Store.setOther; split <;> rfl
@[simp] theorem setOther_reportedFallback (t : Store) (c : AreaCopy) : (t.setOther c).reportedFallback = t.reportedFallback := by
  unfold Store.setOther; split <;> rfl
@[simp] theorem setOther_reportedFailure (t : Store) (c : AreaCopy) : (t.setOther c).reportedFailure = t.reportedFailure := by
  unfold Store.setOther; split <;> rfl

@[simp] theorem spoil_failure (t : Store) : t.spoil.failure = t.failure := setOther_failure t _
@[simp] theorem spoil_status (t : Store) : t.spoil.status = t.status := setOther_status t _
@[simp] theorem spoil_secondIsCurrent (t : Store) : t.spoil.secondIsCurrent = t.secondIsCurrent := setOther_secondIsCurrent t _
@[simp] theorem spoil_reportedFallback (t : Store) : t.spoil.reportedFallback = t.reportedFallback := setOther_reportedFallback t _
@[simp] theorem spoil_reportedFailure (t : Store) : t.spoil.reportedFailure = t.reportedFailure := setOther_reportedFailure t _

theorem commitTick_commitsOn (h : s.store.operation = some (.commit n k)) : CommitsOn n s s.commitTick := by
  cases k with
  | erase =>
    rw [commitTick_erase h]
    exact ⟨rfl, rfl, fun _ _ => rfl, fun _ _ => rfl, rfl, rfl, rfl, rfl, rfl, rfl⟩
  | write =>
    rw [commitTick_write h]
    exact ⟨rfl, rfl, fun _ ne => Tab.get_set_ne _ _ ne, fun _ _ => rfl, rfl, rfl, rfl, rfl, rfl, rfl⟩
  | check =>
    rw [commitTick_check h]
    exact ⟨rfl, rfl, fun _ ne => Tab.get_set_ne _ _ ne, fun _ ne => Tab.get_set_ne _ _ ne, spoil_waiting _, spoil_current _,
      spoil_secondIsCurrent _, spoil_failure _, spoil_reportedFallback _, spoil_reportedFailure _⟩

/-- The commit of slot `n` that ran in `s` is in its save in `t`. -/
structure SavesCommit (n : Fin 4) (s t : State) : Prop extends CommitsOn n s t where
  operation : t.store.operation = some (.commitSave n s.faults.items)
  slot : t.store.slots.get n = ⟨some s.image, true⟩
  flag : t.store.status.get n = true
  other : t.store.other = { s.store.other with valid := false }

/-- A step before the check changes neither the image nor the items nor the copies. -/
theorem CommitsOn.saves {s t u : State} (h : CommitsOn n s t) (other : t.store.other = s.store.other) (h' : SavesCommit n t u) :
    SavesCommit n s u where
  toCommitsOn := h.trans h'.toCommitsOn
  operation := h.items ▸ h'.operation
  slot := h.image ▸ h'.slot
  flag := h'.flag
  other := other ▸ h'.other

/-- A commit that reaches its save has written image and check, and spoiled the copy it is writing. -/
theorem commitAt_save (h : s.store.operation = some (.commit n k)) :
    SavesCommit n s (s.commitAt .save) := by
  have from_check : ∀ s : State, s.store.operation = some (.commit n .check) → SavesCommit n s (s.commitAt .save) := by
    intro s h
    have ticked : s.commitTick.store.operation = some (.commitSave n s.faults.items) := by rw [commitTick_check h]
    have last : s.commitAt .save = s.commitTick := by
      rw [commitAt_tick (by rw [rank_of_commitSave ticked, rank_of_commit h]; rfl) (by rw [rank_of_commit h]; decide)]
      exact commitAt_reached (by rw [rank_of_commitSave ticked]; decide)
    rw [last]
    refine ⟨commitTick_commitsOn h, ticked, ?_, ?_, ?_⟩ <;> rw [commitTick_check h]
    · exact Tab.get_set_self _ _ _
    · exact Tab.get_set_self _ _ _
    · exact spoil_other _
  have through : ∀ {s : State} {k : CommitStep}, s.store.operation = some (.commit n k) →
      ∀ {k' : CommitStep}, s.commitTick.store.operation = some (.commit n k') → k'.rank = k.rank + 1 →
      s.commitAt .save = s.commitTick.commitAt .save := by
    intro s k h k' ticked next
    refine commitAt_tick ?_ ?_
    · rw [rank_of_commit ticked, rank_of_commit h, next]
    · rw [rank_of_commit h]
      cases k <;> decide
  have from_write : ∀ s : State, s.store.operation = some (.commit n .write) → SavesCommit n s (s.commitAt .save) := by
    intro s h
    have ticked : s.commitTick.store.operation = some (.commit n .check) := by rw [commitTick_write h]
    rw [through h ticked rfl]
    exact (commitTick_commitsOn h).saves (by rw [commitTick_write h]; rfl) (from_check _ ticked)
  cases k with
  | check => exact from_check s h
  | write => exact from_write s h
  | erase =>
    have ticked : s.commitTick.store.operation = some (.commit n .write) := by rw [commitTick_erase h]
    rw [through h ticked rfl]
    exact (commitTick_commitsOn h).saves (by rw [commitTick_erase h]; rfl) (from_write _ ticked)

/-- A commit that reaches a step before its save is still at work on its slot alone. -/
theorem commitAt_before (h : s.store.operation = some (.commit n k)) (before : r ≠ .save) :
    CommitsOn n s (s.commitAt r) ∧ (∃ k', (s.commitAt r).store.operation = some (.commit n k'))
      ∧ (s.commitAt r).store.other = s.store.other := by
  have low : stepRank r ≤ 2 := by
    cases r with
    | save => exact absurd rfl before
    | _ => decide
  have from_check : ∀ s : State, s.store.operation = some (.commit n .check) → s.commitAt r = s := fun s h =>
    commitAt_reached (by rw [rank_of_commit h]; exact low)
  have from_write : ∀ s : State, s.store.operation = some (.commit n .write) → CommitsOn n s (s.commitAt r)
      ∧ (∃ k', (s.commitAt r).store.operation = some (.commit n k')) ∧ (s.commitAt r).store.other = s.store.other := by
    intro s h
    by_cases ahead : stepRank r ≤ 1
    · rw [commitAt_reached (by rw [rank_of_commit h]; exact ahead)]
      exact ⟨.refl n s, ⟨_, h⟩, rfl⟩
    · have ticked : s.commitTick.store.operation = some (.commit n .check) := by rw [commitTick_write h]
      rw [commitAt_tick (by rw [rank_of_commit ticked, rank_of_commit h]; rfl) (by rw [rank_of_commit h]; exact not_le.1 ahead),
        from_check _ ticked]
      exact ⟨commitTick_commitsOn h, ⟨_, ticked⟩, by rw [commitTick_write h]; rfl⟩
  cases k with
  | check =>
    rw [from_check s h]
    exact ⟨.refl n s, ⟨_, h⟩, rfl⟩
  | write => exact from_write s h
  | erase =>
    by_cases ahead : stepRank r ≤ 0
    · rw [commitAt_reached (by rw [rank_of_commit h]; exact ahead)]
      exact ⟨.refl n s, ⟨_, h⟩, rfl⟩
    · have ticked : s.commitTick.store.operation = some (.commit n .write) := by rw [commitTick_erase h]
      rw [commitAt_tick (by rw [rank_of_commit ticked, rank_of_commit h]; rfl) (by rw [rank_of_commit h]; exact not_le.1 ahead)]
      obtain ⟨on, runs, other⟩ := from_write _ ticked
      exact ⟨(commitTick_commitsOn h).trans on, runs, by rw [other, commitTick_erase h]; rfl⟩

end

/-! ### Reset -/

section
variable {t : Store}

theorem afterReset_of_no_commit (h : ∀ n k, t.operation ≠ some (.commit n k)) : t.afterReset = { t with
    status := Tab.replicate 4 false, operation := none, waiting := [], failure := false, reportedFallback := false
    reportedFailure := false } := by
  unfold Store.afterReset
  split
  · next runs => exact absurd runs (h _ _)
  · rfl

theorem afterReset_of_commit {n : Fin 4} {k : CommitStep} (h : t.operation = some (.commit n k)) : t.afterReset = { t.broken n with
    status := Tab.replicate 4 false, operation := none, waiting := [], failure := false, reportedFallback := false
    reportedFailure := false } := by
  unfold Store.afterReset
  rw [h]

theorem afterReset_current (t : Store) : t.afterReset.current = t.current := by
  unfold Store.afterReset Store.current
  split <;> rfl

theorem afterReset_second (t : Store) : t.afterReset.secondIsCurrent = t.secondIsCurrent := by
  unfold Store.afterReset
  split <;> rfl

/-- The current copy stands through every step of a commit. -/
theorem commitTick_current (s : State) : s.commitTick.store.current = s.store.current := by
  by_cases commits : ∃ n k, s.store.operation = some (.commit n k)
  · obtain ⟨n, k, h⟩ := commits
    exact (commitTick_commitsOn h).current
  · rw [commitTick_of_no_commit fun n k h => commits ⟨n, k, h⟩]

theorem commitTick_second (s : State) : s.commitTick.store.secondIsCurrent = s.store.secondIsCurrent := by
  by_cases commits : ∃ n k, s.store.operation = some (.commit n k)
  · obtain ⟨n, k, h⟩ := commits
    exact (commitTick_commitsOn h).second
  · rw [commitTick_of_no_commit fun n k h => commits ⟨n, k, h⟩]

theorem reset_current (s : State) (r : StoreStep) : (s.commitAt r).store.afterReset.current = s.store.current :=
  (afterReset_current _).trans (commitAt_keeps (P := fun t => t.store.current = s.store.current)
    (fun t h => (commitTick_current t).trans h) r rfl)

theorem reset_second (s : State) (r : StoreStep) : (s.commitAt r).store.afterReset.secondIsCurrent = s.store.secondIsCurrent :=
  (afterReset_second _).trans (commitAt_keeps (P := fun t => t.store.secondIsCurrent = s.store.secondIsCurrent)
    (fun t h => (commitTick_second t).trans h) r rfl)

/-- Settles O4. -/
theorem resetLeavesResetValues : Obligations.ResetLeavesResetValues := by
  intro r s
  refine ⟨_, rfl, rfl, rfl, rfl, rfl, rfl, rfl, ?_, ?_, ?_⟩
  · simp [State.resetWith, FrameEngine.reset, PortRun.reset, EntryRun.reset, SignalRun.reset, Effective.none, Inputs.reset,
      DiscreteRun.reset, AnalogRun.reset, Doors.reset, DoorRun.reset, Views.none, Gauges.reset, GaugeRun.reset, Warnings.reset,
      WarningRun.reset, WarningView.reset, Lamps.reset, LampRun.reset]
  · simp [State.resetWith, FaultUnit.reset, Persistent.empty, Outbound.reset, OutPort.reset, Display.reset, DisplayRecord.reset,
      DisplayRecord.emptyContent, Service.reset]
  · have values : ∀ t : Store, t.afterReset.operation = none ∧ t.afterReset.waiting = [] ∧ (∀ n, t.afterReset.status.get n = false)
        ∧ t.afterReset.failure = false ∧ t.afterReset.reportedFallback = false ∧ t.afterReset.reportedFailure = false := fun t =>
      ⟨rfl, rfl, fun _ => Tab.get_replicate _ _, rfl, rfl, rfl⟩
    obtain ⟨operation, waiting, status, failure, fallback, reported⟩ := values (s.commitAt r).store
    refine ⟨operation, waiting, status, failure, fallback, reported, ?_, ?_, fun idle => ?_, fun n k runs => ?_⟩
    · exact reset_current s r
    · exact reset_second s r
    · change (s.commitAt r).store.afterReset.slots = _ ∧ (s.commitAt r).store.afterReset.copyA = _ ∧ _
      rw [commitAt_of_no_commit r idle, afterReset_of_no_commit idle]
      exact ⟨rfl, rfl, rfl⟩
    · change (∀ m, m ≠ n → (s.commitAt r).store.afterReset.slots.get m = _)
        ∧ (_ → ((s.commitAt r).store.afterReset.slots.get n).checkAgrees = false ∧ (s.commitAt r).store.afterReset.other = _)
        ∧ (_ → (s.commitAt r).store.afterReset.slots.get n = _ ∧ (s.commitAt r).store.afterReset.other = _)
      by_cases before : r = .save
      · subst before
        have saves := commitAt_save runs
        rw [afterReset_of_no_commit (by simp [saves.operation])]
        exact ⟨saves.slots, fun h => absurd rfl h, fun _ => ⟨saves.slot, saves.other⟩⟩
      · obtain ⟨on, ⟨k', stands⟩, other⟩ := commitAt_before runs before
        rw [afterReset_of_commit stands]
        refine ⟨fun m ne => ?_, fun _ => ⟨?_, other⟩, fun h => absurd h before⟩
        · simpa [Store.broken, ne] using on.slots m ne
        · simp [Store.broken]

end

/-! ### The invariants at reset -/

theorem holdsSound_factory : Store.factory.HoldsSound := ⟨empty_sound, empty_sound, nofun⟩

theorem slotsSound_factory : Store.factory.SlotsSound := by
  refine slotsSound_set (t := { Store.factory with slots := Tab.replicate 4 ⟨none, false⟩ }) (n := 0) (fun img e => ?_) fun n img e => ?_
  · cases e
    exact gaugesSound_factory
  · simp at e

/-- Settles O53: a reset of any state leaves them, and the factory's store has nothing in it that they ask for. -/
theorem invariantsHoldAtReset : Obligations.InvariantsHoldAtReset := by
  have presentation : ∀ full, State.reset.Presentation full := fun full =>
    presentation_of_quiet ⟨rfl, fun w => by simp [State.reset, State.resetWith, Warnings.reset, WarningRun.reset]⟩
  refine ⟨?_, ⟨empty_sound, holdsSound_factory⟩, ?_, ?_, (presentationSound_iff _).2 (presentation _), ?_, ?_, fun _ => ⟨rfl, rfl⟩, ?_,
    ⟨gaugesSound_factory, gaugesSound_factory, slotsSound_factory, ?_⟩, ?_, ?_⟩
  · rw [interlockSafe_iff]
    unfold InterlockSafeIn
    simp [State.reset, State.resetWith, Doors.reset, Controller.reset]
  · exact ⟨fun p => by simp [State.reset, State.resetWith, Outbound.reset, OutPort.reset, OutPort.responseLoad],
      fun e => by simp [State.reset, State.resetWith, Outbound.reset]⟩
  · exact fun i => by simp [State.reset, State.resetWith, Display.reset, DisplayRecord.reset]
  · exact fun i => by simp only [State.reset, State.resetWith, resolved_reset, Tab.get_replicate]
  · exact ⟨nofun, nofun, nofun⟩
  · exact (coilsFollow_iff _).2 fun g => by
      simp [State.reset, State.resetWith, Gauges.reset, GaugeRun.Wired, GaugeRun.reset, GaugeState.energized]
  · exact fun g => by simpa [State.reset, State.resetWith, Gauges.reset] using reset_within _
  · rw [stallFollows_iff]
    simp [Display.StallsIn, State.reset, State.resetWith, Display.reset, Controller.reset]
  · exact fun l => by simp [State.reset, State.resetWith, Lamps.reset, LampRun.reset]

end Sys2Proof.Machine
end

section
/-! PROOFS. BusProofs: the error counters of the ports, what a received frame does, completed and failed transmissions, and the timers of
the bus (R2 to R5, R8 to R18, R157, R161, R163, R172, R173). -/

namespace Sys2Proof.Machine

/-! ### Ports -/

theorem sends_iff_active_or_passive {st : PortState} : st.sends = true ↔ st = .errorActive ∨ st = .errorPassive := by
  cases st <;> simp [PortState.sends]

theorem receives_iff {st : PortState} : st.receives = true ↔ st = .errorActive ∨ st = .errorPassive ∨ st = .listen := by
  cases st <;> simp [PortState.receives]

theorem receives_of_sends {st : PortState} (h : st.sends = true) : st.receives = true := by
  cases st <;> simp_all [PortState.sends, PortState.receives]

section
variable (p : Port) (cfg : PortConfig) (now : Nat) (r : PortRun) (t n : Nat)

/-- A port that takes part in the bus stays there with its counters at `t` and `n`. -/
theorem reevaluatePort_on_bus (sends : r.state.sends = true) (low : t ≤ 255) :
    reevaluatePort p cfg now { r with transmitErrors := t, receiveErrors := n }
      = ({ r with transmitErrors := t, receiveErrors := n, state := errorState t n }, []) := by
  simp [reevaluatePort, sends, Nat.not_lt.mpr low]

theorem reevaluatePort_bus_off (sends : r.state.sends = true) (high : 255 < t) :
    reevaluatePort p cfg now { r with transmitErrors := t } =
      let raised := raiseFlag r.reported cfg.fault (.port p)
      ({ r with transmitErrors := t, state := .busOff, recovery := some (now + cfg.recovery * 10), reported := raised.1 },
        .report (.wear .portBusOff p.val) :: raised.2) := by
  simp [reevaluatePort, sends, high]

end

/-- A port of the state takes a new value and sends its notices. -/
def State.setPort (p : Port) (r : Told PortRun) (s : State) : State :=
  { s with frames := { s.frames with ports := s.frames.ports.set p r.1 }, mail := s.mail ++ r.2 }

theorem runFrames_onPort (s : State) (p : Port) (f : State → PortRun → Told PortRun) :
    s.runFrames (fun s => FrameEngine.onPort p (f s)) = s.setPort p (f s (s.frames.ports.get p)) := rfl

theorem setPort_silent (s : State) (p : Port) (r : PortRun) :
    s.setPort p (r, []) = { s with frames := { s.frames with ports := s.frames.ports.set p r } } := by
  simp [State.setPort]

theorem setPort_same (s : State) (p : Port) : s.setPort p (s.frames.ports.get p, []) = s := by
  simp [State.setPort]

theorem countReceived_eq (s : State) (p : Port) :
    let r := s.frames.ports.get p
    s.runFrames (countReceived p) = s.setPort p (if r.state.sends then
      reevaluatePort p (s.image.general.ports.get p) s.now { r with receiveErrors := r.receiveErrors - 1 } else (r, [])) := rfl

theorem countReceiveError_eq (s : State) (p : Port) :
    let r := s.frames.ports.get p
    s.runFrames (countReceiveError p) = s.setPort p (if r.state.sends then
      reevaluatePort p (s.image.general.ports.get p) s.now { r with receiveErrors := satSucc 255 r.receiveErrors } else (r, [])) := rfl

theorem countTransmitError_eq (s : State) (p : Port) :
    let r := s.frames.ports.get p
    s.runFrames (countTransmitError p) = s.setPort p (reevaluatePort p (s.image.general.ports.get p) s.now
      { r with transmitErrors := min 256 (r.transmitErrors + 8) }) := rfl

theorem countTransmission_eq (s : State) (p : Port) :
    let r := s.frames.ports.get p
    s.runFrames (countTransmission p) = s.setPort p (reevaluatePort p (s.image.general.ports.get p) s.now
      { r with transmitErrors := r.transmitErrors - 1 }) := rfl

/-- Settles O9. -/
theorem receiveErrorCounted : Obligations.ReceiveErrorCounted := by
  intro p s r counted
  refine ⟨fun onBus low lowR => ?_, fun listens => ?_, fun deaf => ?_⟩
  · have sends := sends_iff_active_or_passive.2 onBus
    have received := receives_of_sends sends
    constructor
    · change happening r.state.receives _ s = _
      rw [received, happening_true, countReceiveError_eq, if_pos sends, reevaluatePort_on_bus _ _ _ _ _ _ sends low, setPort_silent]
      rw [show satSucc 255 (s.frames.ports.get p).receiveErrors = _ from satSucc_eq_min lowR]
      rfl
    · rw [countReceived_eq, if_pos sends, reevaluatePort_on_bus _ _ _ _ _ _ sends low, setPort_silent]
      rfl
  · have silent : ¬r.state.sends = true := by simp [listens, PortState.sends]
    constructor
    · change happening r.state.receives _ s = _
      rw [listens]
      change Host.Outcome.next (finish (s.runFrames (countReceiveError p))) = _
      rw [countReceiveError_eq, if_neg silent, setPort_same]
    · rw [countReceived_eq, if_neg silent, setPort_same]
  · exact happening_impossible _ _ (by rcases deaf with h | h <;> simp only [show (s.frames.ports.get p).state = _ from h, PortState.receives])

/-! ### Transmissions -/

theorem errorState_ne_busOff (t r : Nat) : errorState t r ≠ .busOff := by
  unfold errorState; split <;> decide

theorem sending_of_flight {p : Port} {s : State} {fl : Flight} (sends : (s.frames.ports.get p).state.sends = true)
    (flying : (s.outbound.ports.get p).flight = some fl) : s.sending p = true := by
  simp only [State.sending, sends, flying, Option.isSome_some, Bool.and_self]

theorem failTransmission_on_bus {p : Port} {s : State} (sends : (s.frames.ports.get p).state.sends = true)
    (low : (s.frames.ports.get p).transmitErrors + 8 ≤ 255) :
    s.failTransmission p = { s with frames := { s.frames with ports := s.frames.ports.set p { s.frames.ports.get p with
      transmitErrors := (s.frames.ports.get p).transmitErrors + 8
      state := errorState ((s.frames.ports.get p).transmitErrors + 8) (s.frames.ports.get p).receiveErrors } } } := by
  have cap : min 256 ((s.frames.ports.get p).transmitErrors + 8) = (s.frames.ports.get p).transmitErrors + 8 := by omega
  simp only [State.failTransmission, countTransmitError_eq, cap, reevaluatePort_on_bus _ _ _ _ _ _ sends low, setPort_silent,
    Tab.get_set_self, errorState_ne_busOff, ↓reduceIte]

/-- What the abandonment of a frame leaves in the response queue. -/
def OutPort.abandoned (q : OutPort) (fl : Flight) : OutPort :=
  { q with flight := none, response := match fl.kind with | .response seg => seg :: q.response | _ => q.response }

/-- The wear event of an abandoned copy. -/
def abandonNotices (p : Port) (fl : Flight) : List Notice :=
  match fl.kind with | .forward _ => [.report (.wear .forwardDrop p.val)] | _ => []

theorem abandonFrame_eq {p : Port} {a : Acc Outbound} {fl : Flight} (flying : (a.st.ports.get p).flight = some fl) :
    abandonFrame p a = ⟨{ a.st with ports := a.st.ports.set p ((a.st.ports.get p).abandoned fl) }, a.out ++ abandonNotices p fl⟩ := by
  obtain ⟨kind, frame⟩ := fl
  cases kind <;> simp [abandonFrame, Outbound.onPort, flying, OutPort.abandoned, abandonNotices]

theorem failTransmission_bus_off {p : Port} {s : State} {fl : Flight} (sends : (s.frames.ports.get p).state.sends = true)
    (flying : (s.outbound.ports.get p).flight = some fl) (high : 255 < (s.frames.ports.get p).transmitErrors + 8) :
    let r := s.frames.ports.get p
    let cfg := s.image.general.ports.get p
    let raised := raiseFlag r.reported cfg.fault (.port p)
    s.failTransmission p = { s with
      frames := { s.frames with ports := s.frames.ports.set p { r with
        transmitErrors := 256, state := .busOff, recovery := some (s.now + cfg.recovery * 10), reported := raised.1 } }
      outbound := { s.outbound with ports := s.outbound.ports.set p ((s.outbound.ports.get p).abandoned fl) }
      mail := s.mail ++ .report (.wear .portBusOff p.val) :: raised.2 ++ abandonNotices p fl } := by
  have cap : min 256 ((s.frames.ports.get p).transmitErrors + 8) = 256 := by omega
  simp only [State.failTransmission, countTransmitError_eq, cap, reevaluatePort_bus_off _ _ _ _ _ sends (by decide : 255 < 256),
    State.setPort, Tab.get_set_self, ↓reduceIte, State.runOutbound]
  rw [abandonFrame_eq (a := ⟨s.outbound, []⟩) flying]
  rfl

/-- Settles O10. -/
theorem transmitErrorCounted : Obligations.TransmitErrorCounted := by
  intro p s fl r q onBus flying
  have sends := sends_iff_active_or_passive.2 onBus
  refine ⟨s.failTransmission p, by change happening _ _ _ = _; rw [sending_of_flight sends flying, happening_true], ?_⟩
  rcases Nat.lt_or_ge 255 (r.transmitErrors + 8) with high | low
  · rw [failTransmission_bus_off sends flying high]
    refine ⟨rfl, fun o other => ⟨Tab.get_set_ne _ _ other, Tab.get_set_ne _ _ other⟩, rfl, rfl, fun low => absurd low (by omega),
      fun _ => ⟨?_, fun seg kind => ?_, fun e owed kind => ?_, fun c kind => ?_⟩⟩
    · exact Tab.get_set_self ..
    · simp only [Tab.get_set_self, OutPort.abandoned, abandonNotices, kind, List.append_nil]
      exact ⟨rfl, rfl⟩
    · simp only [Tab.get_set_self, OutPort.abandoned, abandonNotices, kind, List.append_nil]
      exact ⟨rfl, rfl⟩
    · simp only [Tab.get_set_self, OutPort.abandoned, abandonNotices, kind]
      exact ⟨rfl, rfl⟩
  · rw [failTransmission_on_bus sends low]
    refine ⟨rfl, fun o other => ⟨Tab.get_set_ne _ _ other, rfl⟩, rfl, rfl, fun _ => ⟨rfl, rfl, ?_⟩, fun high => absurd high (by omega)⟩
    simp only [Tab.get_set_self]
    rfl

theorem completeFrame_eq {p : Port} {a : Acc Outbound} {fl : Flight} (flying : (a.st.ports.get p).flight = some fl) :
    completeFrame p a = ⟨⟨a.st.ports.set p { a.st.ports.get p with flight := none }, match fl.kind with
      | .own e true => a.st.schedule.set e { a.st.schedule.get e with backlog := (a.st.schedule.get e).backlog - 1 }
      | _ => a.st.schedule⟩, a.out⟩ := by
  obtain ⟨kind, frame⟩ := fl
  simp only [completeFrame, flying, Outbound.onPort, tellRow_fst, tellRow_snd, List.append_nil]
  cases kind with
  | own e owed => cases owed <;> rfl
  | forward => rfl
  | response => rfl

/-- Settles O11. -/
theorem transmissionCompletes : Obligations.TransmissionCompletes := by
  intro p s fl r q onBus flying low
  have sends := sends_iff_active_or_passive.2 onBus
  have less : r.transmitErrors - 1 ≤ 255 := by omega
  have counted : s.runFrames (countTransmission p) = { s with frames := { s.frames with ports := s.frames.ports.set p { r with
      transmitErrors := r.transmitErrors - 1, state := errorState (r.transmitErrors - 1) r.receiveErrors } } } := by
    rw [countTransmission_eq, reevaluatePort_on_bus _ _ _ _ _ _ sends less, setPort_silent]
  refine ⟨s.transmitted p, by change happening _ _ _ = _; rw [sending_of_flight sends flying, happening_true], ?_⟩
  rw [State.transmitted, counted, State.runOutbound]
  simp only
  rw [completeFrame_eq (a := ⟨s.outbound, []⟩) flying]
  refine ⟨rfl, rfl, fun e own => by simp only [own], fun notOwed => ?_, by simp⟩
  split
  · next e own => exact absurd own (notOwed e)
  · rfl

/-! ### Timers of the bus -/

theorem expiry_at {timer : Option Nat} {t : Nat} (f : State → State) (s : State) (due : timer = some t) :
    expiry timer f s = .next (finish (f (s.advanceTo t))) := by
  rw [due, expiry_some]

theorem clearFlag_eq (reported : Option Nat) (source : FaultSource) :
    clearFlag reported source = (none, match reported with | some c => [.report (.clear c source)] | none => []) := by
  cases reported <;> rfl

/-- Settles O12. -/
theorem busTimersExpire : Obligations.BusTimersExpire := by
  intro s t v
  refine ⟨fun p due => ?_, fun e due => ?_, fun p due => ?_, fun e due low => ?_⟩
  · refine (expiry_at _ s due).trans ?_
    have mode : (s.advanceTo t).control.mode = s.control.mode := advanceTo_mode ..
    simp only [State.runFrames, recoverPort, FrameEngine.onPort, tellRow_fst, tellRow_snd, advanceTo_frames, advanceTo_mail, clearFlag_eq, mode]
    rfl
  · refine (expiry_at _ s (by rw [due]; rfl)).trans ?_
    simp only [State.runFrames, silence, FrameEngine.onEntry, tellRow_fst, tellRow_snd, List.map_filterMap]
    rfl
  · refine (expiry_at _ s due).trans ?_
    simp only [State.runService, gapExpires, setServicePort, upd_st, upd_out, List.append_nil]
    rfl
  · refine (expiry_at _ s due).trans ?_
    simp only [State.runOutbound, takePeriod, upd_st, upd_out, advanceTo_outbound, advanceTo_running, Tab.modify, satSucc_eq_min low,
      List.append_nil]
    rfl

/-! ### Received frames -/

theorem isServiceRequest_iff {s : State} {p : Port} {f : Frame} :
    let cfg := s.image.general.ports.get p
    isServiceRequest s p f = true ↔ cfg.service = true ∧ cfg.serviceKind = f.kind ∧ cfg.request = f.ident := by
  simp only [isServiceRequest, Bool.and_eq_true, beq_iff_eq, and_assoc]

theorem takeService_of_message {p : Port} {data m : List Byte} {s : State}
    (complete : (takeSegment s.now data (s.service.ports.get p)).2 = some m) :
    s.takeService p data = serveMessage p m { s with service := { s.service with
      ports := s.service.ports.set p (takeSegment s.now data (s.service.ports.get p)).1 } } := by
  simp only [State.takeService, complete]

theorem takeService_of_no_message {p : Port} {data : List Byte} {s : State}
    (partly : (takeSegment s.now data (s.service.ports.get p)).2 = none) :
    s.takeService p data = { s with service := { s.service with
      ports := s.service.ports.set p (takeSegment s.now data (s.service.ports.get p)).1 } } := by
  simp only [State.takeService, partly]

/-- A segment with a message leaves the buffer EMPTY; one without a message leaves its gap timer running exactly where the buffer is
assembling, unless it is no segment at all. -/
theorem takeSegment_buffer (now : Nat) (data : List Byte) (q : ServicePort) :
    let r := takeSegment now data q
    (∀ m, r.2 = some m → r.1 = { q with assembly := none, gap := none })
      ∧ (r.2 = none → data ≠ [] → r.1 = { q with assembly := r.1.assembly, gap := r.1.gap }
          ∧ r.1.gap = if r.1.assembly = none then none else some (now + 200)) := by
  rcases takeSegment_cases now data q with ⟨empty, same⟩ | ⟨m, done⟩ | ⟨b, going⟩
  · subst empty
    simp [same]
  · simp [done]
  · simp [going]

/-- Settles O7. -/
theorem receivedFrameSorted : Obligations.ReceivedFrameSorted := by
  constructor
  · intro p f s receives
    refine ⟨s.receive p f, by change happening _ _ _ = _; rw [receives, happening_true], ?_⟩
    intro v cfg service
    have request : isServiceRequest v p f = true ↔ service := isServiceRequest_iff
    have mode : v.control.mode = s.control.mode := rfl
    change (_ → v.sortFrame p f = _) ∧ (_ → _ → v.sortFrame p f = _) ∧ (_ → _ → _ → v.sortFrame p f = _)
      ∧ (_ → _ → v.sortFrame p f = _) ∧ (_ → _ → _ → v.sortFrame p f = _)
    simp only [State.sortFrame, mode, ← request]
    cases m : s.control.mode <;> simp +contextual [servingModes]
  · intro p data s q r holding
    refine ⟨fun empty => ?_, fun m complete => ?_, fun partly segment => ?_⟩
    · simp [empty, State.takeService, takeSegment]
    · exact (takeService_of_message complete).trans (by rw [(takeSegment_buffer _ _ _).1 m complete])
    · obtain ⟨buffer, gap⟩ := (takeSegment_buffer s.now data q).2 partly segment
      exact ⟨(takeService_of_no_message partly).trans (by rw [show (takeSegment s.now data (s.service.ports.get p)).1 = _ from buffer]), gap⟩

/-! ### Matched frames -/

theorem findIdx_eq_some_iff {n : Nat} {α : Type} {q : Fin n → α → Bool} {t : Tab n α} {k : Fin n} :
    t.findIdx q = some k ↔ q k (t.get k) = true ∧ ∀ j, j < k → q j (t.get j) = false := by
  refine ⟨findIdx_eq_some, fun ⟨here, before⟩ => ?_⟩
  cases found : t.findIdx q with
  | none => exact absurd here (by simp [findIdx_eq_none found k])
  | some j =>
    obtain ⟨there, earlier⟩ := findIdx_eq_some found
    rcases Nat.lt_trichotomy j.val k.val with below | same | above
    · exact absurd there (by simp [before j below])
    · exact congrArg some (Fin.ext same)
    · exact absurd here (by simp [earlier k above])

theorem takes_iff {cfg : FrameEntry} {p : Port} {f : Frame} : cfg.takes p f = true ↔
    cfg.enabled = true ∧ cfg.port = p ∧ cfg.kind = f.kind
      ∧ ∀ b, b < 29 → cfg.mask.getLsbD b = true → f.ident.getLsbD b = cfg.ident.getLsbD b := by
  simp only [FrameEntry.takes, Bool.and_eq_true, beq_iff_eq, and_assoc]
  have bits : f.ident &&& cfg.mask = cfg.ident &&& cfg.mask
      ↔ ∀ b, b < 29 → cfg.mask.getLsbD b = true → f.ident.getLsbD b = cfg.ident.getLsbD b := by
    rw [BitVec.eq_of_getLsbD_eq_iff]
    simp only [BitVec.getLsbD_and]
    refine forall_congr' fun b => forall_congr' fun _ => ?_
    cases cfg.mask.getLsbD b <;> simp
  rw [bits]

theorem forwardCopies_eq (ports : Tab 3 PortRun) (e : Fin 128) (cfg : FrameEntry) (f : Frame) : forwardCopies ports e cfg f =
    (List.finRange 3).filterMap fun q =>
      if cfg.forward.getLsbD q.val = true ∧ (ports.get q).state ≠ .offline then
        some (Notice.forward q ⟨⟨f.kind, cfg.replacement.getD f.ident, f.data⟩, cfg.urgent, e⟩)
      else none := by
  simp only [forwardCopies, Bool.and_eq_true, bne_iff_ne]

theorem mirrorWrite_eq (kinds : Tab 64 RecordKind) (cfg : FrameEntry) (f : Frame) : mirrorWrite kinds cfg f = match cfg.mirror with
    | some r => if kinds.get r = .raw then
        [.mirror r (byte f.data.length :: f.data ++ List.replicate (11 - f.data.length) 0)] else []
    | none => [] := by
  unfold mirrorWrite content12
  cases cfg.mirror <;> simp

section
variable {e : Fin 128} {f : Frame} {s : State} {a : Acc FrameEngine}

/-- A short frame counts a length error and sends its forward copies alone (R13). -/
theorem takeMatched_short (short : f.data.length < (s.image.frames.get e).minLen) :
    let r := a.st.entries.get e
    takeMatched e f s a = ⟨{ a.st with entries := a.st.entries.set e { r with lengthErrors := satSucc 255 r.lengthErrors } },
      a.out ++ forwardCopies a.st.ports e (s.image.frames.get e) f⟩ := by
  simp only [takeMatched, FrameEngine.onEntry, tellRow_fst, tellRow_snd, short, ↓reduceIte]

/-- A sufficient frame makes its entry RECEIVING and sends all that R14 lists (R14 to R16). -/
theorem takeMatched_sufficient (enough : (s.image.frames.get e).minLen ≤ f.data.length) :
    let cfg := s.image.frames.get e
    let r := a.st.entries.get e
    let cleared := if r.status == .silent then clearFlag r.reported (.entry e) else (r.reported, [])
    takeMatched e f s a = ⟨{ a.st with entries := a.st.entries.set e { r with
        status := .receiving, timer := receptionTimer cfg s.now, received := satSucc 65535 r.received, reported := cleared.1 } },
      a.out ++ (cleared.2 ++ extractions s.image e f ++ forwardCopies a.st.ports e cfg f ++ mirrorWrite s.running.display cfg f)⟩ := by
  simp only [takeMatched, FrameEngine.onEntry, tellRow_fst, tellRow_snd, Nat.not_lt.mpr enough, ↓reduceIte]

end

/-- Settles O8. -/
theorem matchedFrameTaken : Obligations.MatchedFrameTaken := by
  refine ⟨fun img p f e => findIdx_eq_some_iff, fun cfg p f => takes_iff, ?_⟩
  intro p f s e found u cfg before after copies cleared writes mirror
  have taken : u = s.runFrames (takeMatched e f) := by
    simp only [u, State.runFrames, takeFrame, found]
  refine ⟨rfl, ?_, fun k other => ?_, fun short => ?_, fun enough => ?_⟩
  · rw [taken]; rfl
  · rw [taken]; exact Tab.get_set_ne _ _ other
  · have sent : u.mail = s.mail ++ copies := by
      rw [taken, runFrames_mail, takeMatched_short short, forwardCopies_eq]; rfl
    have row : after = { before with lengthErrors := satSucc 255 before.lengthErrors } := by
      simp only [after]
      rw [taken, runFrames_frames, takeMatched_short short]; exact Tab.get_set_self ..
    exact ⟨sent, fun low => by rw [row, satSucc_eq_min low]⟩
  · have kept : after = { before with
        status := .receiving, timer := receptionTimer cfg s.now, received := satSucc 65535 before.received
        reported := (if before.status == .silent then clearFlag before.reported (.entry e) else (before.reported, [])).1 } := by
      simp only [after]
      rw [taken, runFrames_frames, takeMatched_sufficient enough]; exact Tab.get_set_self ..
    have clears : (if before.status == .silent then clearFlag before.reported (.entry e) else (before.reported, [])).2 = cleared := by
      simp only [cleared]
      cases before.status <;> cases before.reported <;> rfl
    have sent : u.mail = s.mail ++ (cleared ++ writes ++ copies ++ mirror) := by
      rw [taken, runFrames_mail, takeMatched_sufficient enough, forwardCopies_eq, mirrorWrite_eq, ← clears]; rfl
    refine ⟨sent, fun low => ?_⟩
    rw [kept]
    refine ⟨rfl, satSucc_eq_min low, rfl, rfl, ?_⟩
    cases before.status <;> simp

end Sys2Proof.Machine
end

section
/-! PROOFS. SendingProofs: the pick of a free port, the queues, and segments (R156 to R160, R172 to R174, sections 9.3 and 10.1). -/

namespace Sys2Proof.Machine

/-! ### The entry with the highest backlog -/

/-- An entry of port `p` that runs. -/
def RunsOn (p : Port) (s : State) (e : Fin 16) : Prop :=
  (s.running.transmit.get e).port = p ∧ entryRuns s (s.running.transmit.get e) = true

/-- One entry is looked at in the search for the highest backlog. -/
def owedTurn (p : Port) (s : State) (schedule : Tab 16 TransmitRun) (best : Option (Fin 16 × Nat)) (e : Fin 16) : Option (Fin 16 × Nat) :=
  if (s.running.transmit.get e).port = p && entryRuns s (s.running.transmit.get e) then
    match best with
    | none => some (e, (schedule.get e).backlog)
    | some (_, m) => if m < (schedule.get e).backlog then some (e, (schedule.get e).backlog) else best
  else best

theorem mostOwed_eq_foldl (p : Port) (s : State) (schedule : Tab 16 TransmitRun) :
    mostOwed p s schedule = (List.finRange 16).foldl (owedTurn p s schedule) none := rfl

/-- `best` is the running entry of `l` with the highest backlog, the first of those that have it. -/
def MostOwedAmong (p : Port) (s : State) (schedule : Tab 16 TransmitRun) (l : List (Fin 16)) : Option (Fin 16 × Nat) → Prop
  | none => ∀ e ∈ l, ¬RunsOn p s e
  | some (e, n) => RunsOn p s e ∧ n = (schedule.get e).backlog
      ∧ ∀ k ∈ l, RunsOn p s k → (schedule.get k).backlog ≤ n ∧ (k < e → (schedule.get k).backlog < n)

section
variable {p : Port} {s : State} {schedule : Tab 16 TransmitRun}

theorem mostOwedAmong_turn {l : List (Fin 16)} {best : Option (Fin 16 × Nat)} {e : Fin 16} (later : ∀ k ∈ l, k < e)
    (bestIn : ∀ x ∈ best, x.1 ∈ l) (h : MostOwedAmong p s schedule l best) :
    MostOwedAmong p s schedule (l ++ [e]) (owedTurn p s schedule best e) := by
  unfold owedTurn
  by_cases runs : RunsOn p s e
  · have test : ((s.running.transmit.get e).port = p && entryRuns s (s.running.transmit.get e)) = true := by
      simpa [RunsOn] using runs
    rw [if_pos test]
    cases best with
    | none =>
      refine ⟨runs, rfl, fun k member running => ?_⟩
      rcases List.mem_append.1 member with old | new
      · exact absurd running (h k old)
      · obtain rfl := List.mem_singleton.1 new
        exact ⟨le_rfl, fun less => absurd less (lt_irrefl _)⟩
    | some x =>
      obtain ⟨b, m⟩ := x
      obtain ⟨running, owed, most⟩ := h
      simp only
      split
      · next more =>
        refine ⟨runs, rfl, fun k member other => ?_⟩
        rcases List.mem_append.1 member with old | new
        · have := (most k old other).1
          exact ⟨by omega, fun _ => by omega⟩
        · obtain rfl := List.mem_singleton.1 new
          exact ⟨le_rfl, fun less => absurd less (lt_irrefl _)⟩
      · next less =>
        refine ⟨running, owed, fun k member other => ?_⟩
        rcases List.mem_append.1 member with old | new
        · exact most k old other
        · obtain rfl := List.mem_singleton.1 new
          exact ⟨by omega, fun before => absurd (later b (bestIn _ rfl)) (not_lt.2 (le_of_lt before))⟩
  · have test : ¬((s.running.transmit.get e).port = p && entryRuns s (s.running.transmit.get e)) = true := by
      simpa [RunsOn] using runs
    rw [if_neg test]
    have idle : ∀ k ∈ l ++ [e], RunsOn p s k → k ∈ l := fun k member running => by
      rcases List.mem_append.1 member with old | new
      · exact old
      · exact absurd (List.mem_singleton.1 new ▸ running) runs
    cases best with
    | none => exact fun k member running => h k (idle k member running) running
    | some x =>
      obtain ⟨running, owed, most⟩ := h
      exact ⟨running, owed, fun k member other => most k (idle k member other) other⟩

theorem owedTurn_mem {l : List (Fin 16)} {best : Option (Fin 16 × Nat)} {e : Fin 16} (bestIn : ∀ x ∈ best, x.1 ∈ l) :
    ∀ x ∈ owedTurn p s schedule best e, x.1 ∈ l ++ [e] := by
  intro x member
  have old : x ∈ best → x.1 ∈ l ++ [e] := fun h => List.mem_append_left _ (bestIn x h)
  unfold owedTurn at member
  split at member
  · split at member
    · obtain rfl := Option.some.inj member
      exact List.mem_append_right _ (List.mem_singleton_self e)
    · split at member
      · obtain rfl := Option.some.inj member
        exact List.mem_append_right _ (List.mem_singleton_self e)
      · exact old member
  · exact old member

theorem mostOwedAmong_foldl : ∀ (l done : List (Fin 16)) (best : Option (Fin 16 × Nat)), (done ++ l).Pairwise (· < ·) →
    (∀ x ∈ best, x.1 ∈ done) → MostOwedAmong p s schedule done best →
    MostOwedAmong p s schedule (done ++ l) (l.foldl (owedTurn p s schedule) best)
  | [], done, best, _, _, h => by simpa using h
  | e :: l, done, best, sorted, bestIn, h => by
    rw [List.append_cons] at sorted ⊢
    have later : ∀ k ∈ done, k < e := fun k member =>
      (List.pairwise_append.1 (List.pairwise_append.1 sorted).1).2.2 k member e (List.mem_singleton_self e)
    exact mostOwedAmong_foldl l (done ++ [e]) _ sorted (owedTurn_mem bestIn) (mostOwedAmong_turn later bestIn h)

theorem mostOwed_spec (p : Port) (s : State) (schedule : Tab 16 TransmitRun) :
    MostOwedAmong p s schedule (List.finRange 16) (mostOwed p s schedule) := by
  rw [mostOwed_eq_foldl]
  exact mostOwedAmong_foldl (List.finRange 16) [] none (List.pairwise_lt_finRange 16) (fun _ h => nomatch h) (fun _ h => nomatch h)

theorem mostOwed_eq_none_iff : mostOwed p s schedule = none ↔ ∀ e, ¬RunsOn p s e := by
  have spec := mostOwed_spec p s schedule
  cases found : mostOwed p s schedule with
  | none => rw [found] at spec; exact ⟨fun _ e => spec e (List.mem_finRange e), fun _ => rfl⟩
  | some x => rw [found] at spec; exact ⟨fun h => (nomatch h), fun h => absurd spec.1 (h x.1)⟩

theorem mostOwed_eq_some {e : Fin 16} {n : Nat} (found : mostOwed p s schedule = some (e, n)) :
    RunsOn p s e ∧ n = (schedule.get e).backlog
      ∧ ∀ k, RunsOn p s k → (schedule.get k).backlog ≤ n ∧ (k < e → (schedule.get k).backlog < n) := by
  have spec := mostOwed_spec p s schedule
  rw [found] at spec
  exact ⟨spec.1, spec.2.1, fun k => spec.2.2 k (List.mem_finRange k)⟩

end

theorem pump_ports (s : State) (p : Port) : s.pump.outbound.ports.get p =
    (if (s.frames.ports.get p).state.sends && (s.outbound.ports.get p).flight.isNone then
      pickFrame p s s.outbound.schedule (s.outbound.ports.get p)
    else s.outbound.ports.get p) := by
  simp only [State.pump, runDisplay_outbound, runOutbound_outbound, pickAll, upd_st, Tab.get_mapIdx]

/-! ### Picks -/

/-- The highest backlog of the running entries of port `p`, 0 where none runs. -/
def owedBy (p : Port) (s : State) (schedule : Tab 16 TransmitRun) : Nat :=
  match mostOwed p s schedule with | some (_, n) => n | none => 0

section
variable {p : Port} {s : State} {schedule : Tab 16 TransmitRun} {q : OutPort}

theorem pickFrame_response {seg : List Byte} {rest : List (List Byte)} (waiting : q.response = seg :: rest) :
    let port := s.image.general.ports.get p
    pickFrame p s schedule q = { q with
      response := rest, flight := some ⟨.response seg, ⟨port.serviceKind, port.response, seg⟩⟩ } := by
  simp only [pickFrame, waiting]

theorem pickFrame_nothing (quiet : q.response = []) (empty : q.forward = []) (idle : owedBy p s schedule = 0) :
    pickFrame p s schedule q = q := by
  unfold owedBy at idle
  cases found : mostOwed p s schedule <;> simp_all [pickFrame]

/-- A pick without a waiting response takes the copy where Table 9-2 says so. -/
theorem pickFrame_forward {c : ForwardCopy} {rest : List ForwardCopy} (quiet : q.response = []) (waiting : q.forward = c :: rest)
    {flag : Bool} (choice : chooseFrame (owedBy p s schedule) (some c) q.lastPick (q.catchUp && decide (7 < owedBy p s schedule))
      = (.forward, flag)) :
    pickFrame p s schedule q = { q with
      forward := rest, catchUp := flag, lastPick := .forward, flight := some ⟨.forward c, c.frame⟩ } := by
  unfold owedBy at choice
  cases found : mostOwed p s schedule <;> simp only [found] at choice <;>
    simp only [pickFrame, quiet, waiting, found, List.head?_cons, reduceCtorEq, and_false, ↓reduceIte, choice]

/-- A pick without a waiting response takes the own frame of the entry with the highest backlog where Table 9-2 says so. -/
theorem pickFrame_own {e : Fin 16} {n : Nat} (quiet : q.response = []) (owed : mostOwed p s schedule = some (e, n))
    (some_ : n ≠ 0 ∨ q.forward ≠ []) {flag : Bool}
    (choice : chooseFrame n q.forward.head? q.lastPick (q.catchUp && decide (7 < n)) = (.own, flag)) :
    let cfg := s.running.transmit.get e
    pickFrame p s schedule q = { q with
      catchUp := flag, lastPick := .own, flight := some ⟨.own e true, ⟨cfg.kind, cfg.ident, packFrame s.eff cfg⟩⟩ } := by
  have busy : ¬(n = 0 ∧ q.forward = []) := by tauto
  simp [pickFrame, quiet, owed, busy, choice]

end

/-! ### Segments of a message -/

theorem segmentsOf_length (m : List Byte) : (segmentsOf m).length = (m.length + 6) / 7 := by
  simp [segmentsOf]

theorem segmentsOf_getElem? {m : List Byte} {i : Nat} (inside : i < (segmentsOf m).length) :
    (segmentsOf m)[i]? = some (byte (16 * i + (segmentsOf m).length) :: (m.drop (7 * i)).take 7) := by
  rw [segmentsOf_length] at inside ⊢
  simp [segmentsOf, inside]

/-- What a port holds of responses, and what handing it an answer does to it (R159, R174). -/
theorem handle_respond (p : Port) (code : Nat) (r : Result) (data : List Byte) (s : State) :
    let q := s.outbound.ports.get p
    let segments := segmentsOf (responseMessage code r data)
    handle (.respond p code r data) s = if q.responseLoad + segments.length ≤ 8 then
      { s with outbound := { s.outbound with ports := s.outbound.ports.set p { q with response := q.response ++ segments } } } else s := by
  simp only [handle, State.runOutbound, joinResponse_eq]
  split <;> simp

theorem handle_forward (p : Port) (c : ForwardCopy) (s : State) :
    let q := s.outbound.ports.get p
    handle (.forward p c) s = if q.forward.length < 16 then
      { s with outbound := { s.outbound with ports := s.outbound.ports.set p { q with forward := q.forward ++ [c] } } }
    else { s with mail := s.mail ++ [.report (.wear .forwardDrop p.val)] } := by
  simp only [handle, State.runOutbound, joinForward_eq]
  split <;> simp

/-! ### Table 9-2 -/

section
variable {u : Nat} {c : ForwardCopy} {last : LastPick} {flag : Bool}

theorem chooseFrame_low (low : u ≤ 3) : chooseFrame u (some c) last flag = (.forward, flag) := by
  simp only [chooseFrame, low, ↓reduceIte]

theorem chooseFrame_middle (least : 4 ≤ u) (most : u ≤ 7) :
    chooseFrame u (some c) last flag = (if last = .own then .forward else .own, flag) := by
  simp only [chooseFrame, Nat.not_le.2 least, most, ↓reduceIte]

theorem chooseFrame_high (least : 8 ≤ u) (most : u ≤ 11) :
    chooseFrame u (some c) last flag = (if c.urgent && !flag then .forward else .own, flag) := by
  simp only [chooseFrame, show ¬u ≤ 3 by omega, show ¬u ≤ 7 by omega, most, ↓reduceIte]

theorem chooseFrame_overdue (least : 12 ≤ u) : chooseFrame u (some c) last flag = (.own, true) := by
  simp only [chooseFrame, show ¬u ≤ 3 by omega, show ¬u ≤ 7 by omega, show ¬u ≤ 11 by omega, ↓reduceIte]

theorem chooseFrame_none (owed : 0 < u) : chooseFrame u none last flag = (.own, flag) := by
  simp only [chooseFrame, show ¬u = 0 by omega, ↓reduceIte]

end

theorem picks_forward (p : Port) (s : State) (schedule : Tab 16 TransmitRun) (q : OutPort) {c : ForwardCopy} {rest : List ForwardCopy}
    (quiet : q.response = []) (waiting : q.forward = c :: rest) :
    let u := owedBy p s schedule
    let copy := { q with
      forward := rest, catchUp := q.catchUp && decide (7 < u), lastPick := .forward, flight := some ⟨.forward c, c.frame⟩ }
    (u ≤ 3 → pickFrame p s schedule q = copy)
      ∧ (4 ≤ u → u ≤ 7 → q.lastPick = .own → pickFrame p s schedule q = copy)
      ∧ (8 ≤ u → u ≤ 11 → c.urgent = true → q.catchUp = false → pickFrame p s schedule q = copy) :=
  ⟨fun low => pickFrame_forward quiet waiting (chooseFrame_low low),
    fun least most last => pickFrame_forward quiet waiting (by rw [chooseFrame_middle least most, if_pos last]),
    fun least most urgent caught => pickFrame_forward quiet waiting (by rw [chooseFrame_high least most]; simp [urgent, caught])⟩

theorem picks_own (p : Port) (s : State) (schedule : Tab 16 TransmitRun) (q : OutPort) {e : Fin 16} {n : Nat}
    (owed : mostOwed p s schedule = some (e, n)) (quiet : q.response = []) :
    let cfg := s.running.transmit.get e
    let own := fun flag : Bool => { q with
      catchUp := flag, lastPick := .own, flight := some ⟨.own e true, ⟨cfg.kind, cfg.ident, packFrame s.eff cfg⟩⟩ }
    let caught := q.catchUp && decide (7 < n)
    (q.forward = [] → 0 < n → pickFrame p s schedule q = own caught)
      ∧ (∀ c rest, q.forward = c :: rest →
          (4 ≤ n → n ≤ 7 → q.lastPick ≠ .own → pickFrame p s schedule q = own caught)
          ∧ (8 ≤ n → n ≤ 11 → c.urgent = false ∨ q.catchUp = true → pickFrame p s schedule q = own caught)
          ∧ (12 ≤ n → pickFrame p s schedule q = own true)) := by
  refine ⟨fun empty some_ => ?_, fun c rest waiting => ?_⟩
  · exact pickFrame_own quiet owed (.inl (by omega)) (by rw [empty]; exact chooseFrame_none some_)
  · have busy : n ≠ 0 ∨ q.forward ≠ [] := .inr (by simp [waiting])
    have head : q.forward.head? = some c := by rw [waiting]; rfl
    refine ⟨fun least most last => ?_, fun least most held => ?_, fun least => ?_⟩
    · exact pickFrame_own quiet owed busy (by rw [head, chooseFrame_middle least most, if_neg last])
    · refine pickFrame_own quiet owed busy ?_
      have caught : (q.catchUp && decide (7 < n)) = q.catchUp := by simp [show 7 < n by omega]
      rw [head, chooseFrame_high least most, caught]
      rcases held with h | h <;> simp [h]
    · exact pickFrame_own quiet owed busy (by rw [head, chooseFrame_overdue least])

/-- Settles O13. -/
theorem pickFollowsTable : Obligations.PickFollowsTable := by
  refine ⟨pump_ports, fun p s schedule => ⟨mostOwed_eq_none_iff, fun e n => mostOwed_eq_some⟩, ?_, ?_⟩
  · intro p s schedule q port u caught q'
    refine ⟨fun seg rest => pickFrame_response, pickFrame_nothing, fun c rest quiet waiting => picks_forward p s schedule q quiet waiting, ?_⟩
    intro e n owed quiet
    have top : caught = (q.catchUp && decide (7 < n)) := by simp only [caught, u, owed]
    rw [top]
    exact picks_own p s schedule q owed quiet
  · intro p s q queued
    refine ⟨fun c => ⟨fun room => ?_, fun full => ?_⟩, fun code r data => ?_⟩
    · exact (handle_forward p c s).trans (if_pos room)
    · exact (handle_forward p c s).trans (if_neg (Nat.not_lt.2 full))
    · intro message segments held
      refine ⟨rfl, fun room => ?_, fun full => ?_, segmentsOf_length _, fun i inside => segmentsOf_getElem? inside⟩
      · exact (handle_respond p code r data s).trans (if_pos room)
      · exact (handle_respond p code r data s).trans (if_neg (Nat.not_le.2 full))

/-! ### Reassembly -/

theorem segmentsOf_bounds {message : List Byte} {d : List Byte} (member : d ∈ segmentsOf message) : 2 ≤ d.length ∧ d.length ≤ 8 := by
  obtain ⟨n, inside, at_n⟩ := List.getElem_of_mem member
  have size := segmentsOf_length message
  have there := segmentsOf_getElem? inside
  rw [List.getElem?_eq_getElem inside, at_n] at there
  obtain rfl := Option.some.inj there
  simp only [List.length_cons, List.length_take, List.length_drop]
  omega

/-- A segment of number `number` of `count` that continues, or begins, a message of which the buffer holds `earlier`. -/
structure Continues (q : ServicePort) (header : Byte) (number count : Nat) (earlier : List Byte) : Prop where
  header : header.toNat = 16 * number + count
  least : 1 ≤ count
  most : count ≤ 8
  below : number < count
  begun : number = 0 ∧ earlier = [] ∨ number ≠ 0 ∧ q.assembly = some ⟨count, number, earlier⟩

section
variable {q : ServicePort} {header : Byte} {number count : Nat} {earlier bytes : List Byte} (now : Nat)

theorem takeSegment_of_continues (c : Continues q header number count earlier) :
    takeSegment now (header :: bytes) q =
      if number + 1 < count then
        if bytes.length = 7 then
          ({ q with assembly := some ⟨count, number + 1, earlier ++ bytes⟩, gap := some (now + 200) }, none)
        else ({ q with assembly := none, gap := none }, none)
      else if bytes = [] then ({ q with assembly := none, gap := none }, none)
      else ({ q with assembly := none, gap := none }, some (earlier ++ bytes)) := by
  obtain ⟨split, least, most, below, begun⟩ := c
  have high : header.toNat / 16 = number := by omega
  have low : header.toNat % 16 = count := by omega
  have valid : ¬(count = 0 ∨ 8 < count ∨ count ≤ number) := by omega
  simp only [takeSegment, high, low, valid, ↓reduceIte, Config.gapMs]
  rcases begun with ⟨zero, nothing⟩ | ⟨more, held⟩
  · simp only [zero, nothing, ↓reduceIte]
  · simp only [more, held, ↓reduceIte, and_self]

end

/-- The buffer after the first `n` segments of a message with `count` of them. -/
def fedBuffer (now : Nat) (message : List Byte) (count : Nat) (q : ServicePort) (n : Nat) : ServicePort :=
  if n = 0 then q
  else if n = count then { q with assembly := none, gap := none }
  else { q with assembly := some ⟨count, n, message.take (7 * n)⟩, gap := some (now + 200) }

@[simp] theorem fedBuffer_staging (now : Nat) (message : List Byte) (count : Nat) (q : ServicePort) (n : Nat) :
    (fedBuffer now message count q n).staging = q.staging := by
  unfold fedBuffer; split
  · rfl
  · split <;> rfl

section
variable (now : Nat) (q : ServicePort) {message : List Byte} (least : 1 ≤ message.length) (most : message.length ≤ 56)
include least most

/-- The segment `n` of a message, taken after those before it. -/
theorem takeSegment_fed {n : Nat} {d : List Byte} (segment : (segmentsOf message)[n]? = some d) :
    let count := (segmentsOf message).length
    takeSegment now d (fedBuffer now message count q n)
      = (fedBuffer now message count q (n + 1), if n + 1 = count then some message else none) := by
  intro count
  have inside : n < count := (List.getElem?_eq_some_iff.1 segment).1
  have size : count = (message.length + 6) / 7 := segmentsOf_length message
  rw [segmentsOf_getElem? inside] at segment
  obtain rfl := Option.some.inj segment
  have next : Continues (fedBuffer now message count q n) (byte (16 * n + count)) n count (message.take (7 * n)) := by
    refine ⟨?_, by omega, by omega, inside, ?_⟩
    · simp only [byte, BitVec.toNat_ofNat]
      omega
    · rcases Nat.eq_zero_or_pos n with zero | pos
      · exact .inl ⟨zero, by simp [zero]⟩
      · exact .inr ⟨by omega, by simp only [fedBuffer, show n ≠ 0 by omega, show n ≠ count by omega, ↓reduceIte]⟩
  rw [takeSegment_of_continues now next, ← List.take_add, show 7 * n + 7 = 7 * (n + 1) by omega]
  have chunk : ((message.drop (7 * n)).take 7).length = min 7 (message.length - 7 * n) := by simp
  by_cases last : n + 1 = count
  · have whole : message.take (7 * (n + 1)) = message := List.take_of_length_le (by omega)
    have filled : (message.drop (7 * n)).take 7 ≠ [] := List.ne_nil_of_length_pos (by omega)
    rw [if_neg (show ¬n + 1 < count by omega), if_neg filled, if_pos last, whole]
    simp only [last, fedBuffer_staging]
    simp only [fedBuffer, show count ≠ 0 by omega, ↓reduceIte]
  · have full : ((message.drop (7 * n)).take 7).length = 7 := by omega
    simp only [show n + 1 < count by omega, full, last, ↓reduceIte, fedBuffer_staging]
    simp only [fedBuffer, show n + 1 ≠ 0 by omega, last, ↓reduceIte]

/-- What the segments of a message leave in the buffer, one after the other. -/
theorem foldl_takeSegment {n : Nat} (inside : n ≤ (segmentsOf message).length) :
    ((segmentsOf message).take n).foldl (fun q d => (takeSegment now d q).1) q
      = fedBuffer now message (segmentsOf message).length q n := by
  induction n with
  | zero => rfl
  | succ n ih =>
    have there : (segmentsOf message)[n]? = some (segmentsOf message)[n] := List.getElem?_eq_getElem inside
    rw [List.take_succ_eq_append_getElem inside, List.foldl_append, ih (by omega)]
    simp only [List.foldl_cons, List.foldl_nil, takeSegment_fed now q least most there]

end

/-- A header that is none, or not the next of the message the buffer holds, empties the buffer (R172). -/
theorem takeSegment_out_of_order (now : Nat) (q : ServicePort) (header : Byte) (bytes : List Byte) :
    let number := header.toNat / 16
    let count := header.toNat % 16
    (count = 0 ∨ 8 < count ∨ count ≤ number
      ∨ (number ≠ 0 ∧ ∀ a, q.assembly = some a → a.next ≠ number ∨ a.count ≠ count)) →
    takeSegment now (header :: bytes) q = ({ q with assembly := none, gap := none }, none) := by
  intro number count bad
  have split : (count = 0 ∨ 8 < count ∨ count ≤ number)
      ∨ number ≠ 0 ∧ ∀ a, q.assembly = some a → a.next ≠ number ∨ a.count ≠ count := by tauto
  rcases split with invalid | ⟨later, other⟩
  · exact if_pos invalid
  · have held : ∀ a, q.assembly = some a → ¬(a.next = number ∧ a.count = count) := fun a h => by have := other a h; tauto
    unfold takeSegment
    have later' : ¬header.toNat / 16 = 0 := later
    cases stored : q.assembly with
    | none => simp only [later', ↓reduceIte, ite_self]
    | some a =>
      have other' : ¬(a.next = header.toNat / 16 ∧ a.count = header.toNat % 16) := held a stored
      simp only [later', other', ↓reduceIte, ite_self]

/-- Settles O14. -/
theorem segmentsReassemble : Obligations.SegmentsReassemble := by
  refine ⟨fun now q message least most => ?_, takeSegment_out_of_order⟩
  intro segments fed
  have size : segments.length = (message.length + 6) / 7 := segmentsOf_length message
  have after : ∀ n, n ≤ segments.length → fed n = fedBuffer now message segments.length q n :=
    fun n inside => foldl_takeSegment now q least most inside
  have finished : fed segments.length = { q with assembly := none, gap := none } := by
    rw [after _ le_rfl]
    simp only [fedBuffer, show segments.length ≠ 0 by omega, ↓reduceIte]
  refine ⟨by omega, by omega, fun d => segmentsOf_bounds, fun n d segment => ?_, by rw [finished], by rw [finished]⟩
  have inside : n < segments.length := (List.getElem?_eq_some_iff.1 segment).1
  rw [after n (by omega)]
  exact congrArg Prod.snd (takeSegment_fed now q least most segment)

end Sys2Proof.Machine
end

section
/-! PROOFS. RequestProofs: requests as messages, and the order of their checks (R174, Table 10-5). -/

namespace Sys2Proof.Machine

/-! ### Messages -/

/-- A message with a code of Table 10-5 goes to that command, any other to the answer UNKNOWN_COMMAND. -/
theorem serveMessage_unknown {p : Port} {code : Byte} {params : List Byte} {s : State} (unknown : code ∉ commandTable.map (·.code))
    (serving : s.control.mode ∈ servingModes) :
    serveMessage p (code :: params) s = s.heard.answer p code.toNat .unknownCommand [] := by
  have other : ∀ n : Nat, (h : n < 256) → BitVec.ofNat 8 n ∈ commandTable.map (·.code) → code.toNat ≠ n := fun n h listed same =>
    unknown (by rw [show code = BitVec.ofNat 8 n from BitVec.eq_of_toNat_eq (by rw [same, BitVec.toNat_ofNat]; omega)]; exact listed)
  simp only [serveMessage]
  split
  iterate 18
    · next same => exact (other _ (by decide) (by decide) same).elim
  · simp only [serving, ↓reduceIte]
    rfl

/-- Settles O15. -/
theorem requestIsItsMessage : Obligations.RequestIsItsMessage := by
  refine ⟨fun i p m s request => ?_, fun p code params s => serveMessage_unknown⟩
  cases i <;> simp only [requestOf, reduceCtorEq, Option.some.injEq, Prod.mk.injEq] at request
  all_goals
    obtain ⟨rfl, rfl⟩ := request
    rfl

/-! ### The checks in order -/

/-- A row of Table 10-5 is the request that its `serve…` makes: the timed commands that bar it and the lengths it takes. -/
def CommandRow.Serves (row : CommandRow) (p : Port) (params : List Byte) : Prop :=
  ∃ (busy : State → Bool) (lengthOk : Bool) (work : State → State),
    (∀ s, serveMessage p (row.code :: params) s = State.request p row.code.toNat row.workshop row.modes busy lengthOk work s)
      ∧ (∀ s, busy s = true ↔ ∃ c q, s.service.slot = some (c, q) ∧ c ∈ row.busy)
      ∧ (lengthOk = true ↔ row.least ≤ params.length ∧ params.length ≤ row.greatest)

theorem storeCommandRuns_iff (s : State) :
    storeCommandRuns s = true ↔ ∃ c q, s.service.slot = some (c, q) ∧ c ∈ [TimedCommand.commit, .select] := by
  unfold storeCommandRuns
  cases s.service.slot with
  | none => simp
  | some x => obtain ⟨c, q⟩ := x; cases c <;> simp

theorem timedCommandRuns_iff (s : State) :
    timedCommandRuns s = true ↔ ∃ c q, s.service.slot = some (c, q) ∧ c ∈ [TimedCommand.commit, .select, .outputTest] := by
  unfold timedCommandRuns
  cases s.service.slot with
  | none => simp
  | some x => obtain ⟨c, q⟩ := x; cases c <;> simp

theorem never_runs_iff (s : State) : false = true ↔ ∃ c q, s.service.slot = some (c, q) ∧ c ∈ ([] : List TimedCommand) := by
  simp

theorem length_is_iff (params : List Byte) (n : Nat) : (params.length == n) = true ↔ n ≤ params.length ∧ params.length ≤ n := by
  rw [beq_iff_eq]; omega

theorem commandRow_serves {row : CommandRow} (listed : row ∈ commandTable) (p : Port) (params : List Byte) : row.Serves p params := by
  simp only [commandTable, List.mem_cons, List.not_mem_nil, or_false] at listed
  rcases listed with rfl | rfl | rfl | rfl | rfl | rfl | rfl | rfl | rfl | rfl | rfl | rfl | rfl | rfl | rfl | rfl | rfl | rfl
  · exact ⟨_, _, _, fun s => Eq.trans (b := serveIdentify p params s) rfl rfl, never_runs_iff, length_is_iff ..⟩
  · exact ⟨_, _, _, fun s => Eq.trans (b := serveReadSignal p params s) rfl rfl, never_runs_iff, length_is_iff ..⟩
  · exact ⟨_, _, _, fun s => Eq.trans (b := serveReadFrameEntry p params s) rfl rfl, never_runs_iff, length_is_iff ..⟩
  · exact ⟨_, _, _, fun s => Eq.trans (b := serveReadFaults p params s) rfl rfl, never_runs_iff, length_is_iff ..⟩
  · exact ⟨_, _, _, fun s => Eq.trans (b := serveReadSnapshot p params s) rfl rfl, never_runs_iff, length_is_iff ..⟩
  · exact ⟨_, _, _, fun s => Eq.trans (b := serveReadAttribute p params s) rfl rfl, never_runs_iff, length_is_iff ..⟩
  · exact ⟨_, _, _, fun s => Eq.trans (b := serveAcknowledge p params s) rfl rfl, never_runs_iff, length_is_iff ..⟩
  · exact ⟨_, _, _, fun s => Eq.trans (b := serveClearFaults p params s) rfl rfl, never_runs_iff, length_is_iff ..⟩
  · exact ⟨_, _, _, fun s => Eq.trans (b := serveResetAttribute p params s) rfl rfl, never_runs_iff, length_is_iff ..⟩
  · exact ⟨_, _, _, fun s => Eq.trans (b := serveSubstitute p params s) rfl rfl, storeCommandRuns_iff, length_is_iff ..⟩
  · exact ⟨_, _, _, fun s => Eq.trans (b := serveReleaseSubstitute p params s) rfl rfl, storeCommandRuns_iff, length_is_iff ..⟩
  · exact ⟨_, _, _, fun s => Eq.trans (b := serveBeginConfiguration p params s) rfl rfl, timedCommandRuns_iff, length_is_iff ..⟩
  · exact ⟨_, _, _, fun s => Eq.trans (b := serveEndConfiguration p params s) rfl rfl, timedCommandRuns_iff, length_is_iff ..⟩
  · exact ⟨_, _, _, fun s => Eq.trans (b := serveLoad p params s) rfl rfl, storeCommandRuns_iff, decide_eq_true_iff⟩
  · exact ⟨_, _, _, fun s => Eq.trans (b := serveCommitProfile p params s) rfl rfl, timedCommandRuns_iff, length_is_iff ..⟩
  · exact ⟨_, _, _, fun s => Eq.trans (b := serveSelectProfile p params s) rfl rfl, timedCommandRuns_iff, length_is_iff ..⟩
  · exact ⟨_, _, _, fun s => Eq.trans (b := serveOutputTest p params s) rfl rfl, timedCommandRuns_iff, length_is_iff ..⟩
  · exact ⟨_, _, _, fun s => Eq.trans (b := serveStopTest p params s) rfl rfl, never_runs_iff, length_is_iff ..⟩

/-- While access stands, its evaluation leaves the timed-command slot as it is (R175). -/
theorem heard_slot {s : State} (access : accessNow s = true) : s.heard.service.slot = s.service.slot := by
  simp [State.heard, evaluateAccess, access]

theorem heard_workshop (s : State) : s.heard.service.workshop = accessNow s := evaluateAccess_workshop s _

section
variable {p : Port} {code : Nat} {workshop : Bool} {modes : List Mode} {busy : State → Bool} {lengthOk : Bool} {work : State → State}
  {s : State}

/-- The checks of R174 as a case distinction on the state in which the request is executed. -/
theorem request_eq (serving : s.control.mode ∈ servingModes) :
    State.request p code workshop modes busy lengthOk work s =
      if workshop = true ∧ accessNow s = false then s.heard.answer p code .denied []
      else if s.control.mode ∉ modes then s.heard.answer p code .wrongMode []
      else if busy s.heard = true then s.heard.answer p code .busy []
      else if lengthOk = false then s.heard.answer p code .badValue []
      else work s.heard := by
  have test : (workshop && !(s.runService evaluateAccess).service.workshop) = true ↔ workshop = true ∧ accessNow s = false := by
    rw [show (s.runService evaluateAccess).service.workshop = accessNow s from heard_workshop s]
    simp
  simp only [State.request, serving, ↓reduceIte, test, Bool.not_eq_true']
  rfl

end

theorem commandTable_modes : ∀ row ∈ commandTable, ∀ mode ∈ row.modes, mode ∈ servingModes := by decide

theorem commandTable_busy : ∀ row ∈ commandTable, row.busy = [] ∨ row.workshop = true := by decide

/-- Settles O16. -/
theorem requestChecksInOrder : Obligations.RequestChecksInOrder := by
  intro p row params s listed m code busy accessOk
  obtain ⟨busyTest, lengthOk, work, serves, busyIff, lengthIff⟩ := commandRow_serves listed p params
  have serving : s.control.mode ∈ row.modes → s.control.mode ∈ servingModes := commandTable_modes row listed _
  have access : accessOk ↔ ¬(row.workshop = true ∧ accessNow s = false) := by simp [accessOk]
  have barred : accessOk → (busyTest s.heard = true ↔ busy) := fun granted => by
    rw [busyIff]
    rcases commandTable_busy row listed with none | workshop
    · simp [busy, none]
    · rw [heard_slot (granted workshop)]
  have checks := fun h : s.control.mode ∈ servingModes => (serves s).trans (request_eq h)
  refine ⟨fun deaf => (serves s).trans (request_unserved deaf), fun serves denied => ?_, fun serves granted mode => ?_,
    fun mode granted runs => ?_, fun mode granted free length => ?_⟩
  · rw [access, not_not] at denied
    exact (checks serves).trans (if_pos denied)
  · exact (checks serves).trans ((if_neg (access.1 granted)).trans (if_pos mode))
  · exact (checks (serving mode)).trans
      ((if_neg (access.1 granted)).trans ((if_neg (not_not.2 mode)).trans (if_pos ((barred granted).2 runs))))
  · have wrong : lengthOk = false := by
      rw [← Bool.not_eq_true, lengthIff]
      omega
    exact (checks (serving mode)).trans ((if_neg (access.1 granted)).trans
      ((if_neg (not_not.2 mode)).trans ((if_neg (mt (barred granted).1 free)).trans (if_pos wrong))))

end Sys2Proof.Machine
end

section
/-! PROOFS. ReadProofs: the answers of the reads, field by field (R149, R176, R192, Tables 10-6 and 10-7). -/

namespace Sys2Proof.Machine

/-! ### Fields of data -/

section
variable (b : Byte) (l : List Byte) (o w v : Nat) (z : Int)

@[simp] theorem fieldAt_cons_one : fieldAt (b :: l) 0 1 = b.toNat := by simp [fieldAt, leNat]

@[simp] theorem fieldAt_cons_succ : fieldAt (b :: l) (o + 1) w = fieldAt l o w := rfl

@[simp] theorem fieldAt_leBytes_two : fieldAt (leBytes 2 v ++ l) 0 2 = v % 65536 := by
  rw [fieldAt, List.drop_zero, List.take_left' (leBytes_length 2 v), leNat_leBytes]; rfl

@[simp] theorem fieldAt_leBytes_four : fieldAt (leBytes 4 v ++ l) 0 4 = v % 4294967296 := by
  rw [fieldAt, List.drop_zero, List.take_left' (leBytes_length 4 v), leNat_leBytes]; rfl

@[simp] theorem fieldAt_leBytes_two_skip : fieldAt (leBytes 2 v ++ l) (o + 2) w = fieldAt l o w := by
  rw [fieldAt, fieldAt, Nat.add_comm, ← List.drop_drop, List.drop_left' (leBytes_length 2 v)]

@[simp] theorem fieldAt_leBytes_four_skip : fieldAt (leBytes 4 v ++ l) (o + 4) w = fieldAt l o w := by
  rw [fieldAt, fieldAt, Nat.add_comm, ← List.drop_drop, List.drop_left' (leBytes_length 4 v)]

@[simp] theorem fieldAt_leBytes_two_last : fieldAt (leBytes 2 v) 0 2 = v % 65536 := by
  simpa using fieldAt_leBytes_two [] v

@[simp] theorem leSigned_length (n : Nat) : (leSigned n z).length = n := leBytes_length ..

/-- A signed number stands in its four bytes modulo the power of two. -/
@[simp] theorem fieldAt_leSigned : (fieldAt (leSigned 4 z ++ l) 0 4 : Int) = z % 4294967296 := by
  rw [leSigned, fieldAt_leBytes_four]
  omega

@[simp] theorem fieldAt_leSigned_skip : fieldAt (leSigned 4 z ++ l) (o + 4) w = fieldAt l o w := fieldAt_leBytes_four_skip ..

@[simp] theorem byte_toNat : (byte v).toNat = v % 256 := rfl

@[simp] theorem flagByte_toNat (b : Bool) : (flagByte b).toNat = if b = true then 1 else 0 := by cases b <;> rfl

theorem optByte_toNat (n : Option Nat) : (optByte n).toNat = match n with | some n => n % 256 | none => 255 := by cases n <;> rfl

/-- A field lies within the first of two parts. -/
theorem fieldAt_append_left {l' : List Byte} (inside : o + w ≤ l.length) : fieldAt (l ++ l') o w = fieldAt l o w := by
  rw [fieldAt, fieldAt, List.drop_append_of_le_length (by omega), List.take_append_of_le_length (by simp; omega)]

end

/-- A field of the item `k` of a list of items of the same length. -/
theorem fieldAt_flatMap {α : Type} {f : α → List Byte} {n : Nat} (size : ∀ x, (f x).length = n) {o w : Nat} (inside : o + w ≤ n) :
    ∀ {l : List α} {k : Nat} {x : α}, l[k]? = some x → fieldAt (l.flatMap f) (n * k + o) w = fieldAt (f x) o w
  | [], _, _, h => by simp at h
  | y :: l, 0, x, h => by
    obtain rfl : y = x := by simpa using h
    rw [List.flatMap_cons, Nat.mul_zero, Nat.zero_add, fieldAt_append_left _ _ _ (by rw [size]; exact inside)]
  | y :: l, k + 1, x, h => by
    rw [List.flatMap_cons, Nat.mul_succ, Nat.add_right_comm, fieldAt, Nat.add_comm, ← List.drop_drop, List.drop_left' (size y)]
    exact fieldAt_flatMap size inside (by simpa using h)

theorem length_flatMap_of_size {α : Type} {f : α → List Byte} {n : Nat} (size : ∀ x, (f x).length = n) (l : List α) :
    (l.flatMap f).length = n * l.length := by
  rw [List.length_flatMap, List.map_congr_left (fun x _ => size x), List.map_const', List.sum_replicate, smul_eq_mul, Nat.mul_comm]

theorem getElem?_window {α : Type} (l : List α) {first n k : Nat} (inside : k < n) : ((l.drop first).take n)[k]? = l[first + k]? := by
  rw [List.getElem?_take_of_lt inside, List.getElem?_drop]

/-! ### Codes -/

@[simp] theorem optByte_code (o : Option OwnStatus) :
    (optByte (o.map (·.code))).toNat = match o with | some st => st.code | none => 0xFF := by
  rcases o with _ | st
  · rfl
  · cases st <;> rfl

theorem optByte_index {n : Nat} (small : n ≤ 256) (o : Option (Fin n)) :
    (optByte (o.map (·.val))).toNat = match o with | some k => k.val | none => 0xFF := by
  rcases o with _ | k
  · rfl
  · exact Nat.mod_eq_of_lt (lt_of_lt_of_le k.isLt small)

theorem mode_code_lt (m : Mode) : m.code < 256 := by cases m <;> decide
theorem ownStatus_code_lt (st : OwnStatus) : st.code < 7 := by cases st <;> decide
theorem effStatus_code_lt (st : EffStatus) : st.code < 3 := by cases st <;> decide
theorem wearKind_code_lt (k : WearKind) : k.code < 10 := by cases k <;> decide
theorem kindCode_lt (x : FaultSource) : x.kindCode < 10 := by cases x <;> simp only [FaultSource.kindCode] <;> omega
theorem sourceIndex_lt (x : FaultSource) : x.index < 256 := by
  cases x <;> simp only [FaultSource.index] <;> omega

/-! ### Records -/

section
variable (h : State)

theorem frameEntryData_fields (e : Fin 128) :
    let d := frameEntryData h e
    let r := h.frames.entries.get e
    d.length = 8 ∧ fieldAt d 0 1 = e.val
      ∧ fieldAt d 1 1 = (match r.status with | .waiting => 0 | .receiving => 1 | .silent => 2)
      ∧ fieldAt d 2 1 = (if r.reported = none then 0 else 1) ∧ fieldAt d 3 2 = r.received % 65536
      ∧ fieldAt d 5 1 = r.lengthErrors % 256
      ∧ fieldAt d 6 2 = (match r.timer with | .stopped => 0 | .running t => t - h.now | .held t => t) % 65536 := by
  intro d r
  have small : e.val % 256 = e.val := by omega
  simp only [d, frameEntryData, List.cons_append, List.nil_append, List.append_assoc]
  refine ⟨by simp, by simp [small], ?_, ?_, by simp [r], by simp [r], ?_⟩
  · cases found : r.status <;> simp
  · cases found : r.reported <;> simp
  · simp only [fieldAt_cons_succ, fieldAt_leBytes_two_skip, fieldAt_leBytes_two_last, timeToExpiry]
    rfl

theorem attributeData_fields (t : Fin 16) :
    let d := attributeData h t
    let cfg := h.image.attrs.get t
    d.length = 16 ∧ fieldAt d 0 1 = t.val ∧ fieldAt d 1 1 = (if cfg.inUse then 1 else 0)
      ∧ fieldAt d 2 1 = cfg.kind.code ∧ fieldAt d 3 1 = (match cfg.source with | some n => n % 256 | none => 0xFF)
      ∧ fieldAt d 4 4 = h.faults.items.attrValues.get t % 4294967296 ∧ fieldAt d 8 4 = cfg.threshold % 4294967296
      ∧ (∀ f, cfg.fault = some f → fieldAt d 12 2 = f.code % 65536 ∧ fieldAt d 14 1 = f.severity % 256)
      ∧ (cfg.fault = none → fieldAt d 12 2 = Config.absentFaultCode.toNat ∧ fieldAt d 14 1 = 0xFF)
      ∧ fieldAt d 15 1 = (if h.faults.attrReported.get t = none then 0 else 1) := by
  intro d cfg
  have small : t.val % 256 = t.val := by omega
  have kind : cfg.kind.code % 256 = cfg.kind.code := by have := wearKind_code_lt cfg.kind; omega
  have code := Config.absentFaultCode.isLt
  simp only [d, attributeData, List.cons_append, List.nil_append, List.append_assoc]
  refine ⟨?_, by simp [small], by simp [cfg], by simp only [fieldAt_cons_succ, fieldAt_cons_one, byte_toNat]; exact kind, by simp [cfg, optByte_toNat], by simp, by simp [cfg], fun f has => ?_, fun none => ?_, ?_⟩
  · cases (h.image.attrs.get t).fault <;> simp [faultBytes]
  · simp [faultBytes, show (h.image.attrs.get t).fault = _ from has]
  · simpa [faultBytes, show (h.image.attrs.get t).fault = _ from none] using code
  · cases (h.image.attrs.get t).fault <;> cases h.faults.attrReported.get t <;> simp [faultBytes]

theorem faultRecordData_length (r : FaultRecord) : (faultRecordData r).length = 16 := by simp [faultRecordData]

theorem faultRecordData_fields (r : FaultRecord) :
    let d := faultRecordData r
    fieldAt d 0 2 = r.code % 65536 ∧ fieldAt d 2 1 = r.source.kindCode ∧ fieldAt d 3 1 = r.source.index
      ∧ fieldAt d 4 1 = (r.severity + (if r.active then 0 else 4) + if r.raisedThisCycle then 8 else 0) % 256
      ∧ fieldAt d 5 1 = r.occurrences % 256 ∧ fieldAt d 6 4 = r.firstSeen % 4294967296
      ∧ fieldAt d 10 4 = r.lastSeen % 4294967296 ∧ fieldAt d 14 1 = r.heal % 256
      ∧ fieldAt d 15 1 = (match r.slot with | some n => n.val | none => 0xFF) := by
  intro d
  have kind := kindCode_lt r.source
  have index := sourceIndex_lt r.source
  simp only [d, faultRecordData, List.cons_append, List.nil_append, List.append_assoc]
  refine ⟨by simp, by simp; omega, by simp; omega, by simp, by simp, by simp, by simp, by simp, ?_⟩
  simp only [fieldAt_cons_succ, fieldAt_leBytes_two_skip, fieldAt_leBytes_four_skip, fieldAt_cons_one]
  rw [optByte_index (by decide)]
  cases r.slot <;> rfl

theorem snapshotEntryData_length (x : Fin 256 × Effective) : (snapshotEntryData x).length = 6 := by simp [snapshotEntryData]

theorem snapshotEntryData_fields (i : Fin 256) (e : Effective) :
    let d := snapshotEntryData (i, e)
    fieldAt d 0 1 = i.val ∧ (fieldAt d 1 4 : Int) = e.value % 4294967296
      ∧ fieldAt d 5 1 = e.status.code + 16 * (match e.reason with | some st => st.code | none => 15) := by
  intro d
  have status := effStatus_code_lt e.status
  simp only [d, snapshotEntryData, List.cons_append]
  refine ⟨by simp, by simp, ?_⟩
  cases reason : e.reason with
  | none => simp; omega
  | some st => have := ownStatus_code_lt st; simp; omega

end

/-! ### Identity and signals -/

section
variable (h : State)

theorem identityRecord_length : (identityRecord h).length = 11 := by simp [identityRecord]

theorem sourceBytes_length (x : Source) : (sourceBytes x).length = 5 := by
  cases x with
  | derived p => cases p <;> rfl
  | _ => rfl

@[simp] theorem fieldAt_sourceBytes_skip (x : Source) (l : List Byte) (o w : Nat) :
    fieldAt (sourceBytes x ++ l) (o + 5) w = fieldAt l o w := by
  rw [fieldAt, fieldAt, Nat.add_comm, ← List.drop_drop, List.drop_left' (sourceBytes_length x)]

/-- Kind code and reference of a source, behind the byte before them. -/
theorem sourceBytes_fields (b : Byte) (x : Source) (l : List Byte) :
    let d := b :: (sourceBytes x ++ l)
    let signed := fun (o : Nat) (v : Int) => (fieldAt d o 4 : Int) = v % 4294967296
    match x with
    | .none => fieldAt d 1 1 = 0 ∧ signed 2 0
    | .frame e slot => fieldAt d 1 1 = 1 ∧ signed 2 (8 * e.val + slot.val)
    | .discrete n => fieldAt d 1 1 = 2 ∧ signed 2 n.val
    | .analog n => fieldAt d 1 1 = 2 ∧ signed 2 (24 + n.val)
    | .derived (.door n) => fieldAt d 1 1 = 3 ∧ signed 2 n.val
    | .derived .allClosed => fieldAt d 1 1 = 3 ∧ signed 2 6
    | .derived .openMoving => fieldAt d 1 1 = 3 ∧ signed 2 7
    | .derived .displayFault => fieldAt d 1 1 = 3 ∧ signed 2 8
    | .constant v => fieldAt d 1 1 = 4 ∧ signed 2 v := by
  intro d signed
  cases x with
  | derived p => cases p <;> simp [d, signed, sourceBytes]
  | _ => simp [d, signed, sourceBytes]

theorem signalRecord_fields (i : Fin 256) :
    let d := signalRecord h i
    let cfg := h.image.signals.get i
    let r := h.signals.get i
    let signed := fun (o : Nat) (v : Int) => (fieldAt d o 4 : Int) = v % 4294967296
    d.length = 33 ∧ fieldAt d 0 1 = i.val
      ∧ (match cfg.source with
        | .none => fieldAt d 1 1 = 0 ∧ signed 2 0
        | .frame e slot => fieldAt d 1 1 = 1 ∧ signed 2 (8 * e.val + slot.val)
        | .discrete n => fieldAt d 1 1 = 2 ∧ signed 2 n.val
        | .analog n => fieldAt d 1 1 = 2 ∧ signed 2 (24 + n.val)
        | .derived (.door n) => fieldAt d 1 1 = 3 ∧ signed 2 n.val
        | .derived .allClosed => fieldAt d 1 1 = 3 ∧ signed 2 6
        | .derived .openMoving => fieldAt d 1 1 = 3 ∧ signed 2 7
        | .derived .displayFault => fieldAt d 1 1 = 3 ∧ signed 2 8
        | .constant v => fieldAt d 1 1 = 4 ∧ signed 2 v)
      ∧ signed 6 cfg.min ∧ signed 10 cfg.max ∧ signed 14 r.own ∧ fieldAt d 18 1 = r.written.code
      ∧ fieldAt d 19 1 = (ownStatus h.image i r).code ∧ fieldAt d 20 1 = (if r.qual then 1 else 0)
      ∧ signed 21 r.eff.value ∧ fieldAt d 25 1 = r.eff.status.code
      ∧ fieldAt d 26 1 = (match r.eff.reason with | some st => st.code | none => 0xFF)
      ∧ fieldAt d 27 1 = (if r.eff.qual then 1 else 0) ∧ signed 28 r.held
      ∧ fieldAt d 32 1 = (match h.image.subIndex i with | some k => k.val | none => 0xFF) := by
  intro d cfg r signed
  have status : r.eff.status.code % 256 = r.eff.status.code := by have := effStatus_code_lt r.eff.status; omega
  have written : r.written.code % 256 = r.written.code := by have := ownStatus_code_lt r.written; omega
  have own : (ownStatus h.image i r).code % 256 = (ownStatus h.image i r).code := by have := ownStatus_code_lt (ownStatus h.image i r); omega
  have shape : d = byte i.val :: (sourceBytes cfg.source ++ (leSigned 4 cfg.min ++ (leSigned 4 cfg.max ++ (leSigned 4 r.own
      ++ (byte r.written.code :: byte (ownStatus h.image i r).code :: flagByte r.qual :: (leSigned 4 r.eff.value
      ++ (byte r.eff.status.code :: optByte (r.eff.reason.map (·.code)) :: flagByte r.eff.qual :: (leSigned 4 r.held
      ++ [optByte ((h.image.subIndex i).map (·.val))])))))))) := by
    simp only [d, signalRecord, List.cons_append, List.nil_append, List.append_assoc]
    rfl
  have small : i.val % 256 = i.val := by omega
  clear_value d
  subst shape
  refine ⟨by simp [sourceBytes_length], by simp [small], ?_, by simp [signed], by simp [signed], by simp [signed], ?_, ?_, by simp,
    by simp [signed], ?_, ?_, by simp, by simp [signed], ?_⟩
  · exact sourceBytes_fields (byte i.val) cfg.source _
  all_goals simp only [fieldAt_cons_succ, fieldAt_sourceBytes_skip, fieldAt_leSigned_skip, fieldAt_cons_one, byte_toNat]
  · exact written
  · exact own
  · exact status
  · exact optByte_code r.eff.reason
  · rw [optByte_index (by decide)]
    cases h.image.subIndex i <;> rfl

theorem faultsData_fields (first : Fin 32) :
    let d := faultsData h first.val
    let records := h.faults.items.records
    d.length = 3 + 16 * min 3 (records.length - first.val) ∧ fieldAt d 0 1 = records.length % 256
      ∧ fieldAt d 1 1 = (if h.faults.items.overflow then 1 else 0) ∧ fieldAt d 2 1 = first.val
      ∧ ∀ (k : Nat) (r : FaultRecord), k < 3 → records[first.val + k]? = some r →
          ∀ o w, o + w ≤ 16 → fieldAt d (3 + 16 * k + o) w = fieldAt (faultRecordData r) o w := by
  intro d records
  have small : first.val % 256 = first.val := by omega
  refine ⟨?_, by simp [d, faultsData, records], by simp [d, faultsData], by simp [d, faultsData, small], fun k r inside at_k o w field => ?_⟩
  · simp [d, faultsData, records, length_flatMap_of_size faultRecordData_length]
    omega
  · rw [show 3 + 16 * k + o = 16 * k + o + 3 by omega]
    exact fieldAt_flatMap faultRecordData_length field ((getElem?_window records inside).trans at_k)

theorem snapshotData_fields (k : Fin 8) (first : Fin 16) {x : Snapshot} (filled : h.faults.items.slots.get k = some x) :
    let d := snapshotData h k first.val
    d.length = 16 + 6 * min 6 (x.entries.length - first.val) ∧ fieldAt d 0 1 = k.val ∧ fieldAt d 1 1 = 1
      ∧ fieldAt d 2 2 = x.code % 65536 ∧ fieldAt d 4 1 = x.source.kindCode ∧ fieldAt d 5 1 = x.source.index
      ∧ fieldAt d 6 4 = x.number % 4294967296 ∧ fieldAt d 10 4 = x.time % 4294967296
      ∧ fieldAt d 14 1 = x.entries.length % 256 ∧ fieldAt d 15 1 = first.val
      ∧ ∀ (m : Nat) (e : Fin 256 × Effective), m < 6 → x.entries[first.val + m]? = some e →
          ∀ o w, o + w ≤ 6 → fieldAt d (16 + 6 * m + o) w = fieldAt (snapshotEntryData e) o w := by
  intro d
  have small : first.val % 256 = first.val := by omega
  have slot : k.val % 256 = k.val := by omega
  have kind : x.source.kindCode % 256 = x.source.kindCode := by have := kindCode_lt x.source; omega
  have index : x.source.index % 256 = x.source.index := by have := sourceIndex_lt x.source; omega
  have shape : d = byte k.val :: 1 :: (leBytes 2 x.code ++ (byte x.source.kindCode :: byte x.source.index :: (leBytes 4 x.number
      ++ (leBytes 4 x.time ++ (byte x.entries.length :: byte first.val :: ((x.entries.drop first.val).take 6).flatMap snapshotEntryData))))) := by
    simp only [d, snapshotData, filled, List.cons_append, List.nil_append, List.append_assoc]
  clear_value d
  subst shape
  refine ⟨?_, ?_, ?_, ?_, ?_, ?_, ?_, ?_, ?_, ?_, fun m e inside at_m o w field => ?_⟩
  · simp [length_flatMap_of_size snapshotEntryData_length]
    omega
  · exact slot
  · rfl
  · simp
  · simpa using kind
  · simpa using index
  · simp
  · simp
  · simp
  · simp [small]
  · rw [show 16 + 6 * m + o = 6 * m + o + 1 + 1 + 4 + 4 + 1 + 1 + 2 + 1 + 1 by omega]
    simp only [fieldAt_cons_succ, fieldAt_leBytes_two_skip, fieldAt_leBytes_four_skip]
    exact fieldAt_flatMap snapshotEntryData_length field ((getElem?_window x.entries inside).trans at_m)

/-- The identity record's byte of slot states has bit `n` set exactly where slot `n` holds an image. -/
theorem statusNumber_bits (status : Tab 4 Bool) :
    let b := byte (status.rows.foldl (fun (n : Nat) r => if r.2 then n + 2 ^ r.1.val else n) 0)
    (∀ n : Fin 4, b.getLsbD n.val = status.get n) ∧ b.toNat < 16 := by
  have rows : status.rows = [(0, status.get 0), (1, status.get 1), (2, status.get 2), (3, status.get 3)] := by
    refine List.ext_getElem (by simp [Tab.rows, status.ok]) fun i below _ => ?_
    have : i < 4 := by simpa [Tab.rows, status.ok] using below
    interval_cases i <;> simp [Tab.rows, Tab.get]
  have all : ∀ a b c d : Bool, ∀ n : Fin 4,
      let x := byte ([((0 : Fin 4), a), (1, b), (2, c), (3, d)].foldl (fun (n : Nat) r => if r.2 then n + 2 ^ r.1.val else n) 0)
      x.getLsbD n.val = (match n with | 0 => a | 1 => b | 2 => c | 3 => d) ∧ x.toNat < 16 := by decide
  rw [rows]
  refine ⟨fun n => ?_, (all _ _ _ _ 0).2⟩
  rw [(all _ _ _ _ n).1]
  match n with
  | 0 | 1 | 2 | 3 => rfl

theorem identityRecord_fields :
    let d := identityRecord h
    let flag := fun b : Bool => if b then 1 else 0
    d.length = 11 ∧ fieldAt d 0 2 = 0x0620 ∧ d[2]? = some Config.revision ∧ fieldAt d 3 1 = h.control.mode.code
      ∧ fieldAt d 4 1 = h.control.activeSlot.val ∧ fieldAt d 6 1 = flag h.control.fallback
      ∧ (∀ b, d[5]? = some b → (∀ n : Fin 4, b.getLsbD n.val = h.store.status.get n) ∧ b.toNat < 16)
      ∧ fieldAt d 7 1 = h.faults.items.records.length % 256 ∧ fieldAt d 8 1 = flag h.faults.items.overflow
      ∧ fieldAt d 9 1 = flag h.service.workshop
      ∧ fieldAt d 10 1 = (match h.service.slot with
          | none => 0 | some (.commit, _) => 0x23 | some (.select, _) => 0x24 | some (.outputTest, _) => 0x30) := by
  intro d flag
  have mode : h.control.mode.code % 256 = h.control.mode.code := Nat.mod_eq_of_lt (mode_code_lt _)
  have slot : h.control.activeSlot.val % 256 = h.control.activeSlot.val := by omega
  simp only [d, identityRecord]
  refine ⟨by simp, by simp [Config.partCode], by simp [leBytes], ?_, ?_, ?_, fun b at_5 => ?_, by simp, by simp [flag], by simp [flag], ?_⟩
  · simpa using mode
  · simpa using slot
  · simp [flag]
  · obtain rfl : _ = b := by simpa [leBytes] using at_5
    exact statusNumber_bits _
  · rcases h.service.slot with _ | ⟨c, q⟩
    · simp
    · cases c <;> simp [TimedCommand.code]

end

/-! ### Counts handed on -/

theorem edit_hands_on (f : Persistent → Persistent) (a : Acc FaultUnit) :
    let before := a.st.items
    let now := f before
    edit f a = ⟨{ a.st with items := now, changed := a.st.changed || decide (now ≠ before) },
      a.out ++ if now.records.length ≠ before.records.length ∨ now.overflow ≠ before.overflow then
        [.faultCount now.records.length now.overflow] else []⟩ := by
  have differs : (f a.st.items != a.st.items) = decide (f a.st.items ≠ a.st.items) := by rw [Bool.eq_iff_iff]; simp
  simp only [edit_eq, differs]

theorem handle_faultCount (n : Nat) (overflow : Bool) (s : State) :
    let u := handle (.faultCount n overflow) s
    u.control = { s.control with faultCount := n, faultOverflow := overflow } ∧ s.OnlyModeWritten u :=
  ⟨rfl, writeMode_only s { s.control with faultCount := n, faultOverflow := overflow }⟩

/-! ### Reads -/

/-- A request that every level and every serving mode admits comes to its work. -/
theorem request_open {p : Port} {code : Nat} {work : State → State} {s : State} (serving : s.control.mode ∈ servingModes) :
    State.request p code false servingModes (fun _ => false) true work s = work s.heard :=
  request_served serving (fun h => nomatch h) serving rfl

section
variable {p : Port} {code n : Nat} {params : List Byte} {work : Fin n → State → State} {s : State}

theorem withRow_inside {i : Fin n} (row : param params 0 = i.val) : State.withRow p code n params work s = work i s := by
  simp only [State.withRow, row, toFin?, i.isLt, ↓reduceDIte, Fin.eta]

theorem withRow_outside (row : n ≤ param params 0) : State.withRow p code n params work s = s.answer p code .badIndex [] := by
  simp only [State.withRow, toFin?, Nat.not_lt.2 row, ↓reduceDIte]

/-- A row number below 256 as the one parameter. -/
theorem param_byte {i : Nat} (small : i < 256) (rest : List Byte) : param (byte i :: rest) 0 = i := Nat.mod_eq_of_lt small

end

/-- Executions that leave the same state end the step alike. -/
theorem next_finish {u v : State} (same : u = v) : (.next (finish u) : Host.Outcome State Fault Refusal) = .next (finish v) :=
  congrArg (fun w => Host.Outcome.next (finish w)) same

/-- Settles O17. -/
theorem readsAnswered : Obligations.ReadsAnswered := by
  intro p s serving h
  refine ⟨?_, fun i => ?_, fun e => ?_, fun i => ?_, fun k n => ?_, fun t => ?_, fun b outside => ?_, fun b outside => ?_,
    fun b c outside => ?_, fun b outside => ?_, identityRecord_fields h, signalRecord_fields h, frameEntryData_fields h,
    fun first => ?_, fun k first => ?_, attributeData_fields h, ?_, edit_hands_on, fun n overflow => handle_faultCount n overflow s⟩
  · exact next_finish (request_open serving)
  · exact next_finish ((request_open serving).trans (withRow_inside (param_byte (by omega) _)))
  · exact next_finish ((request_open serving).trans (withRow_inside (param_byte (by omega) _)))
  · exact next_finish ((request_open serving).trans (withRow_inside (param_byte (by omega) _)))
  · refine next_finish ((request_open serving).trans ((withRow_inside (param_byte (by omega) _)).trans ?_))
    have second : param [byte k.val, byte n.val] 1 = n.val := Nat.mod_eq_of_lt (by omega)
    rw [second, if_pos (by omega)]
  · exact next_finish ((request_open serving).trans (withRow_inside (param_byte (by omega) _)))
  · exact next_finish ((request_open serving).trans (withRow_outside outside))
  · exact next_finish ((request_open serving).trans (withRow_outside outside))
  · refine next_finish ((request_open serving).trans ?_)
    rcases Nat.lt_or_ge b.toNat 8 with row | row
    · exact (withRow_inside (i := ⟨b.toNat, row⟩) rfl).trans (if_neg (show ¬c.toNat ≤ 15 by omega))
    · exact withRow_outside row
  · exact next_finish ((request_open serving).trans (withRow_outside outside))
  · obtain ⟨length, count, overflow, index, records⟩ := faultsData_fields h first
    refine ⟨length, count, overflow, index, fun k r inside at_k => ?_⟩
    have field := records k r inside at_k
    intro o
    obtain ⟨code, kind, source, flags, occurrences, seen, last, heal, slot⟩ := faultRecordData_fields r
    exact ⟨(field 0 2 (by omega)).trans code, (field 2 1 (by omega)).trans kind, (field 3 1 (by omega)).trans source,
      (field 4 1 (by omega)).trans flags, (field 5 1 (by omega)).trans occurrences, (field 6 4 (by omega)).trans seen,
      (field 10 4 (by omega)).trans last, (field 14 1 (by omega)).trans heal, (field 15 1 (by omega)).trans slot⟩
  · intro d
    refine ⟨fun empty => by simp [d, snapshotData, empty], fun x filled => ?_⟩
    obtain ⟨length, slot, full, code, kind, source, number, time, count, from_, entries⟩ := snapshotData_fields h k first filled
    refine ⟨length, slot, full, code, kind, source, number, time, count, from_, fun m i e inside at_m => ?_⟩
    have field := entries m (i, e) inside at_m
    obtain ⟨signal, value, status⟩ := snapshotEntryData_fields i e
    rw [show 17 + 6 * m = 16 + 6 * m + 1 by omega, show 21 + 6 * m = 16 + 6 * m + 5 by omega]
    refine ⟨(field 0 1 (by omega)).trans signal, ?_, (field 5 1 (by omega)).trans status⟩
    rw [field 1 4 (by omega)]
    exact value
  · exact ⟨rfl, rfl, rfl, rfl, fun x => by cases x <;> rfl⟩

end Sys2Proof.Machine
end

section
/-! PROOFS. MemoryProofs: ACKNOWLEDGE, CLEAR FAULTS and RESET ATTRIBUTE (R109, R110, R120, R150, R153). -/

namespace Sys2Proof.Machine

/-! ### Acknowledgements -/

section
variable {s : State} {a : Acc Warnings} {w : Fin 64}

theorem withdraw_recs (w : Fin 64) (s : State) (a : Acc Warnings) :
    (withdraw w s a).st.recs = a.st.recs.modify w fun r => { r with stamp := none } := by
  unfold withdraw
  extract_lets b
  split
  · rfl
  · split
    · exact promote_recs (by simp)
    · rfl

theorem enterOff_state (w : Fin 64) (s : State) (a : Acc Warnings) : ((enterOff w s a).st.recs.get w).state = .off := by
  unfold enterOff
  extract_lets r cleared set said lit
  have off : ∀ b : Acc Warnings, b = lit → (b.st.recs.get w).state = .off := by
    rintro _ rfl
    simp only [lit]
    split <;> simp [said, set, setWarning]
  split
  · rw [withdraw_recs, Tab.get_modify, if_pos rfl]
    exact off lit rfl
  · exact off lit rfl

/-- A warning that has been acknowledged is no longer presentable. -/
theorem acknowledged_acknowledges {full : Prop} (h : Presents full s a.st.shows a.st) :
    Acknowledged w a.st (acknowledged w s a).st := by
  have presents := acknowledged_presents w h
  have gone : ¬(acknowledged w s a).st.shows w → w ∉ (acknowledged w s a).st.listed := fun hidden => mt (presents.listed w).1 hidden
  by_cases latched : (a.st.recs.get w).state = .latched
  · have state : ((acknowledged w s a).st.recs.get w).state = .off := by
      rw [acknowledged, if_pos latched]
      exact enterOff_state w s a
    exact ⟨fun _ => state, fun other => absurd latched other, gone (by simp [Warnings.shows, WarningRun.presentable, state])⟩
  · have record : (acknowledged w s a).st.recs.get w = { a.st.recs.get w with acked := true, stamp := none } := by
      rw [acknowledged, if_neg latched, withdraw_recs]
      simp [setWarning]
    exact ⟨fun other => absurd other latched, fun _ => by simp [record], gone (by simp [Warnings.shows, WarningRun.presentable, record])⟩

end

/-- Settles O18. -/
theorem acknowledgeTakesTop : Obligations.AcknowledgeTakesTop := by
  constructor
  · intro p s serving
    refine next_finish ((request_open serving).trans ?_)
    have mode : s.heard.control.mode = s.control.mode := rfl
    simp only [mode]
    split <;> rfl
  · intro s sound a
    refine ⟨fun empty => ?_, fun top rest stack => ⟨fun pending => ?_, fun free reached => ?_, fun free early => ?_⟩⟩
    all_goals simp only [a, acknowledgeTop]
    · simp only [empty]
    · simp only [stack, pending, ↓reduceIte]
    · obtain ⟨quiet, presents⟩ := (stackSound_iff s).1 sound
      simp only [stack, free, reached, Bool.false_eq_true, ↓reduceIte]
      exact acknowledged_acknowledges (a := ⟨s.warnings, []⟩) presents
    · simp only [stack, free, Nat.not_le.2 early, Bool.false_eq_true, ↓reduceIte]
      rfl

/-! ### Raises again -/

theorem raiseFlag_none_fst (fault : Option FaultCode) (source : FaultSource) : (raiseFlag none fault source).1 = fault.map (·.code) := by
  cases fault <;> rfl

theorem relight_reported (s : State) (a : Acc Lamps) (l : Fin 24) :
    ((relight s a).st.lamps.get l).reported = (a.st.lamps.get l).reported := by
  simp [relight]

theorem rereportFrames_entry (s : State) (a : Acc FrameEngine) (e : Fin 128) :
    ((rereportFrames s a).st.entries.get e).reported =
      if (a.st.entries.get e).status = .silent then (s.image.frames.get e).fault.map (·.code) else none := by
  simp only [rereportFrames, FrameEngine.onEntries, FrameEngine.onPorts, tellRows_get, beq_iff_eq]
  split <;> simp [raiseFlag_none_fst]

theorem rereportFrames_port (s : State) (a : Acc FrameEngine) (q : Port) :
    ((rereportFrames s a).st.ports.get q).reported =
      if (a.st.ports.get q).state = .busOff then (s.image.general.ports.get q).fault.map (·.code) else none := by
  simp only [rereportFrames, FrameEngine.onEntries, FrameEngine.onPorts, tellRows_get, beq_iff_eq]
  split <;> simp [raiseFlag_none_fst]

theorem rereportWarnings_reported (s : State) (a : Acc Warnings) (w : Fin 64) :
    ((rereportWarnings s a).st.recs.get w).reported =
      if (a.st.recs.get w).state = .off ∨ (a.st.recs.get w).state = .arming then none
      else (s.running.warnings.get w).fault.map (·.code) := by
  simp only [rereportWarnings, tellRows_get]
  cases state : (a.st.recs.get w).state <;> simp [raiseFlag_none_fst]

theorem rereportLamps_reported (s : State) (a : Acc Lamps) (l : Fin 24) :
    ((rereportLamps s a).st.lamps.get l).reported =
      if (a.st.lamps.get l).latch then (s.running.lamps.get l).fault.map (·.code) else none := by
  simp only [rereportLamps, Lamps.onLamps, relight_reported, tellRows_get]
  split <;> simp [raiseFlag_none_fst]

theorem rereportDisplay_reported (a : Acc Display) : (rereportDisplay a).st.reported = decide (a.st.link = .stalled) := by
  by_cases stalled : a.st.link = .stalled <;> simp [rereportDisplay, raiseStall, stalled]

/-! ### The attributes after CLEAR FAULTS -/

/-- What a check makes of a row (R152, R154). -/
def checkedRow (s : State) (t : Fin 16) (row : Nat × Option Nat) : Nat × Option Nat :=
  let cfg := s.running.attrs.get t
  (row.1, if cfg.inUse = true ∧ cfg.Due row.2 row.1 then cfg.fault.map (·.code) else row.2)

theorem checkAttribute_of_not_inUse {s : State} {t : Fin 16} (a : Acc FaultUnit) (unused : (s.running.attrs.get t).inUse = false) :
    checkAttribute t s a = a := by
  unfold checkAttribute
  extract_lets cfg value
  split
  · simp only [cfg, unused, Bool.false_and, Bool.false_eq_true, ↓reduceIte]
  · rfl

/-- All that a check can do: nothing, or the report of the row's fault where it is due. -/
theorem checkAttribute_cases (s : State) (t : Fin 16) (a : Acc FaultUnit) :
    let cfg := s.running.attrs.get t
    let due := cfg.inUse = true ∧ cfg.Due (a.st.attrReported.get t) (a.st.items.attrValues.get t)
    ((cfg.fault = none ∨ ¬due) ∧ checkAttribute t s a = a)
      ∨ (due ∧ ∃ f, cfg.fault = some f ∧ checkAttribute t s a = reportAttr s t f a) := by
  intro cfg due
  cases fault : cfg.fault with
  | none => exact .inl ⟨.inl rfl, checkAttribute_no_fault a fault⟩
  | some f =>
    cases inUse : cfg.inUse with
    | false => exact .inl ⟨.inr (by simp [due, inUse]), checkAttribute_of_not_inUse a inUse⟩
    | true =>
      have check := checkAttribute_of_inUse a inUse
      rw [show (s.running.attrs.get t).fault = some f from fault] at check
      by_cases is : cfg.Due (a.st.attrReported.get t) (a.st.items.attrValues.get t)
      · exact .inr ⟨⟨inUse, is⟩, f, rfl, check.trans (if_pos is)⟩
      · exact .inl ⟨.inr fun d => is d.2, check.trans (if_neg is)⟩

theorem attrRow_checkAttribute (s : State) (t : Fin 16) (a : Acc FaultUnit) (j : Fin 16) :
    attrRow (checkAttribute t s a) j = if j = t then checkedRow s t (attrRow a t) else attrRow a j := by
  rcases checkAttribute_cases s t a with ⟨silent, same⟩ | ⟨due, f, fault, reports⟩
  · rw [same]
    split
    · next here =>
      subst here
      refine Prod.ext rfl ?_
      simp only [checkedRow]
      split
      · next due =>
        rcases silent with none | notDue
        · rw [none]
          exact due.2.1
        · exact absurd due notDue
      · rfl
    · rfl
  · rw [reports, attrRow_reportAttr]
    split
    · refine Prod.ext rfl ?_
      simp only [checkedRow, fault, Option.map_some]
      exact (if_pos due).symm
    · rfl

theorem attrRow_rereportAttributes (s : State) (a : Acc FaultUnit) (t : Fin 16) :
    attrRow (rereportAttributes s a) t = checkedRow s t (attrRow a t) := by
  have turns : rereportAttributes s a = (List.finRange 16).foldl (fun a t => checkAttribute t s a) a := rfl
  rw [turns, foldl_row (look := attrRow) (g := checkedRow s) (fun a i => by rw [attrRow_checkAttribute, if_pos rfl])
    (fun a _ _ other => by rw [attrRow_checkAttribute, if_neg other]) (List.nodup_finRange 16), if_pos (List.mem_finRange t)]

theorem createRecord_sources {code severity : Nat} {source : FaultSource} {list : List (Fin 256)} {eff : Fin 256 → Effective}
    {p : Persistent} {r : FaultRecord} (member : r ∈ (createRecord code source severity list eff p).records) :
    r.source = source ∨ ∃ o ∈ p.records, o.source = r.source := by
  by_cases captures : list = []
  · subst captures
    rw [createRecord_nil] at member
    rcases List.mem_append.1 member with old | new
    · exact .inr ⟨r, old, rfl⟩
    · exact .inl (by rw [List.mem_singleton.1 new])
  · rw [createRecord_capture (captures := captures)] at member
    rcases List.mem_append.1 member with old | new
    · obtain ⟨o, there, rfl⟩ := List.mem_map.1 old
      exact .inr ⟨o, there, by split <;> rfl⟩
    · exact .inl (by rw [List.mem_singleton.1 new])

/-- A raise brings no record of another source than its own. -/
theorem raiseItem_sources {code severity : Nat} {source : FaultSource} {list : List (Fin 256)} {eff : Fin 256 → Effective}
    {p : Persistent} {r : FaultRecord} (member : r ∈ (raiseItem code source severity list eff p).records) :
    r.source = source ∨ ∃ o ∈ p.records, o.source = r.source := by
  unfold raiseItem at member
  split at member
  · obtain ⟨o, there, rfl⟩ := List.mem_map.1 member
    exact .inr ⟨o, there, by split <;> rfl⟩
  · split at member
    · exact createRecord_sources member
    · split at member
      · rcases createRecord_sources member with own | ⟨o, there, same⟩
        · exact .inl own
        · exact .inr ⟨o, List.eraseIdx_subset there, same⟩
      · exact .inr ⟨r, member, rfl⟩

/-- Every record is one of wear. -/
def Persistent.AttrsOnly (p : Persistent) : Prop := ∀ r ∈ p.records, ∃ t, r.source = .attr t

theorem checkAttribute_items (s : State) (t : Fin 16) (a : Acc FaultUnit) :
    (checkAttribute t s a).st.items = a.st.items ∨ (checkAttribute t s a).st.items = raiseAttr s t a.st.items := by
  rcases checkAttribute_cases s t a with ⟨-, same⟩ | ⟨-, f, -, reports⟩
  · exact .inl (by rw [same])
  · exact .inr (by rw [reports, reportAttr, edit_items]; rfl)

theorem raiseAttr_attrsOnly (s : State) (t : Fin 16) {p : Persistent} (h : p.AttrsOnly) : (raiseAttr s t p).AttrsOnly := by
  intro r member
  unfold raiseAttr at member
  split at member
  · rcases raiseItem_sources member with own | ⟨o, there, same⟩
    · exact ⟨t, own⟩
    · exact same ▸ h o there
  · exact h r member

theorem rereportAttributes_keeps {P : Persistent → Prop} (s : State) (raises : ∀ t p, P p → P (raiseAttr s t p)) {a : Acc FaultUnit}
    (h : P a.st.items) : P (rereportAttributes s a).st.items := by
  refine each_keeps (P := fun u => P u.items) (fun t a h => ?_) a h
  rcases checkAttribute_items s t a with same | raised
  · rw [same]; exact h
  · rw [raised]; exact raises t _ h

/-! ### CLEAR FAULTS and RESET ATTRIBUTE -/

/-- A request that needs workshop access and has it comes to its work in every serving mode. -/
theorem request_with_access {p : Port} {code : Nat} {work : State → State} {s : State} (serving : s.control.mode ∈ servingModes)
    (access : accessNow s = true) :
    State.request p code true servingModes (fun _ => false) true work s = work s.heard :=
  request_served serving (fun _ => (heard_workshop s).trans access) serving rfl

theorem emptyMemory_eq (a : Acc FaultUnit) : emptyMemory a =
    ⟨{ a.st with
        items := { a.st.items with records := [], slots := Tab.replicate 8 none, overflow := false }
        changed := a.st.changed
          || { a.st.items with records := [], slots := Tab.replicate 8 none, overflow := false } != a.st.items
        attrReported := Tab.replicate 16 none },
      a.out ++ if a.st.items.records ≠ [] ∨ a.st.items.overflow = true then [.faultCount 0 false] else []⟩ := by
  have handed : (0 ≠ a.st.items.records.length ∨ false ≠ a.st.items.overflow)
      ↔ (a.st.items.records ≠ [] ∨ a.st.items.overflow = true) := by
    cases a.st.items.records <;> cases a.st.items.overflow <;> simp
  simp only [emptyMemory, edit_eq, Acc.upd, List.length_nil, handed]

theorem resetAttr_eq (t : Fin 16) (a : Acc FaultUnit) :
    let p := { a.st.items with attrValues := a.st.items.attrValues.set t 0 }
    (resetAttr t a).st.items = (match a.st.attrReported.get t with | some code => clearItem code (.attr t) p | none => p)
      ∧ (resetAttr t a).st.attrReported = a.st.attrReported.set t none := by
  intro p
  have flag : (setAttribute t 0 a).st.attrReported = a.st.attrReported := by simp [setAttribute, edit_eq]
  have items : (setAttribute t 0 a).st.items = p := by simp [setAttribute, edit_eq, p]
  simp only [resetAttr, clearAttribute, flag]
  cases reported : a.st.attrReported.get t with
  | none =>
    refine ⟨items, flag.trans ?_⟩
    rw [← reported, Tab.set_get]
  | some code =>
    simp only [takeClear, edit_eq, upd_st, flag, items, and_self]

/-- What CLEAR FAULTS leaves of every part it touches (R150, Table 8-4). -/
theorem clearFaults_frame (s : State) : s.clearFaults = { s with
    faults := s.clearFaults.faults, frames := s.clearFaults.frames, inputs := s.clearFaults.inputs, doors := s.clearFaults.doors
    warnings := s.clearFaults.warnings, lamps := s.clearFaults.lamps, display := s.clearFaults.display, store := s.clearFaults.store
    mail := s.clearFaults.mail } := rfl

theorem clearFaults_faults (s : State) : ∃ v : State, v.running = s.running
    ∧ s.clearFaults.faults = (rereportAttributes v ⟨(emptyMemory ⟨s.faults, []⟩).st, []⟩).st := ⟨_, rfl, rfl⟩

theorem clearFaults_mail (s : State) : ∃ l, s.clearFaults.mail = s.mail ++ (emptyMemory ⟨s.faults, []⟩).out ++ l := by
  unfold State.clearFaults
  simp only [runFaults_mail, runFrames_mail, runInputs_mail, runDoors_mail, runWarnings_mail, runLamps_mail, runDisplay_mail,
    runStore_mail, List.append_assoc]
  exact ⟨_, rfl⟩

theorem clearFaults_items (s : State) {P : Persistent → Prop} (raises : ∀ v t p, P p → P (raiseAttr v t p))
    (empty : P { s.faults.items with records := [], slots := Tab.replicate 8 none, overflow := false }) : P s.clearFaults.faults.items := by
  obtain ⟨v, -, faults⟩ := clearFaults_faults s
  rw [faults]
  refine rereportAttributes_keeps v (raises v) ?_
  rw [emptyMemory_eq]
  exact empty

theorem clearFaults_attrReported (s : State) (t : Fin 16) :
    let cfg := s.running.attrs.get t
    s.clearFaults.faults.attrReported.get t =
      if cfg.inUse = true ∧ cfg.threshold ≠ 0 ∧ cfg.threshold ≤ s.faults.items.attrValues.get t then cfg.fault.map (·.code) else none := by
  obtain ⟨v, running, faults⟩ := clearFaults_faults s
  have row := congrArg Prod.snd (attrRow_rereportAttributes v ⟨(emptyMemory ⟨s.faults, []⟩).st, []⟩ t)
  rw [faults]
  refine row.trans ?_
  simp only [checkedRow, attrRow, emptyMemory_eq, running, AttrConfig.Due, Tab.get_replicate, true_and]

/-- Settles O19. -/
theorem clearFaultsAndResetAttribute : Obligations.ClearFaultsAndResetAttribute := by
  intro p s serving access
  refine ⟨⟨s.heard.clearFaults, next_finish (request_with_access serving access), rfl, ?_, fun some_ => ?_, ?_, ?_,
    clearFaults_attrReported s.heard, rereportFrames_entry _ _, rereportFrames_port _ _, fun n => ?_, fun n => ?_, fun d => ?_,
    rereportWarnings_reported _ _, rereportLamps_reported _ _, rereportDisplay_reported _, rfl, ?_⟩, fun t => ?_⟩
  · exact clearFaults_items s.heard (P := Persistent.AttrsOnly) (fun v t _ => raiseAttr_attrsOnly v t) (fun _ h => nomatch h)
  · obtain ⟨l, mail⟩ := clearFaults_mail s.heard
    rw [mail, emptyMemory_eq]
    refine List.mem_append_left _ (List.mem_append_right _ ?_)
    simp only [List.nil_append]
    rw [if_pos (by exact some_)]
    exact List.mem_singleton_self _
  · exact clearFaults_items s.heard (P := fun p => p.attrValues = s.faults.items.attrValues)
      (fun v t _ h => (raiseAttr_frame v t _).1.trans h) rfl
  · exact clearFaults_items s.heard (P := fun p => p.seconds = s.faults.items.seconds)
      (fun v t _ h => (raiseAttr_frame v t _).2.trans h) rfl
  · exact tellRows_get _ _ n
  · exact tellRows_get _ _ n
  · exact Tab.get_map _ _ d
  · exact congrArg Store.failure ((sayIf_st ..).trans (sayIf_st ..))
  · obtain ⟨items, flags⟩ := resetAttr_eq t ⟨s.faults, []⟩
    refine ⟨s.heard.runFaults fun _ => resetAttr t,
      next_finish ((request_with_access serving access).trans (withRow_inside (param_byte (by omega) []))), rfl, ?_, flags,
      fun code reported => ?_, fun reported => ?_, ?_, ?_⟩
    · exact (congrArg Persistent.attrValues items).trans (by split <;> rfl)
    · refine (congrArg Persistent.records items).trans ?_
      simp only [reported, clearItem, isFor_eq_true]
    · refine (congrArg Persistent.records items).trans ?_
      simp only [reported]
    · exact (congrArg Persistent.seconds items).trans (by split <;> rfl)
    · exact (congrArg Persistent.slots items).trans (by split <;> rfl)

end Sys2Proof.Machine
end

section
/-! PROOFS. StagingProofs: the parts of a LOAD ENTRY, the acceptance of the store commands and the output test (R180 to R185). -/

namespace Sys2Proof.Machine

/-! ### Admitted requests -/

/-- While access stands its evaluation does no more than record it (R175). -/
theorem heard_of_access {s : State} (access : accessNow s = true) :
    s.heard = { s with service := { s.service with workshop := true } } := by
  simp [State.heard, State.runService, evaluateAccess, access, Acc.upd]

/-- A request that needs workshop access and passes the first five checks comes to its work. -/
theorem request_admitted {p : Port} {code : Nat} {modes : List Mode} {busy : State → Bool} {work : State → State} {s : State}
    (access : accessNow s = true) (mode : s.control.mode ∈ modes) (serving : s.control.mode ∈ servingModes) (free : busy s.heard = false) :
    State.request p code true modes busy true work s = work s.heard :=
  request_served serving (fun _ => (heard_workshop s).trans access) mode free

theorem storeCommandRuns_heard {s : State} (access : accessNow s = true) : storeCommandRuns s.heard = storeCommandRuns s := by
  simp only [storeCommandRuns, heard_slot access]

theorem timedCommandRuns_heard {s : State} (access : accessNow s = true) : timedCommandRuns s.heard = timedCommandRuns s := by
  simp only [timedCommandRuns, heard_slot access]

/-! ### Parts of a load -/

theorem exec_loadCommand (k : Fin 16) (p : Port) (index : BitVec 16) (part : Byte) (content : List Byte) (s : State) :
    exec (loadCommand k p index part content) s = .next (finish (serveLoad p (loadParams (k.val + 1) index part content) s)) := by
  fin_cases k <;> rfl

theorem contentLength_ne_none : ∀ k : Fin 16, contentLength (k.val + 1) ≠ none := by decide

section
variable {k : Fin 16} {p : Port} {index : BitVec 16} {part : Byte} {content : List Byte} {s : State}

/-- An admitted LOAD ENTRY comes to the part it carries. -/
theorem exec_load_admitted (mode : s.control.mode = .configuring) (access : accessNow s = true) (free : storeCommandRuns s = false)
    (short : content.length ≤ 51) :
    exec (loadCommand k p index part content) s
      = .next (finish (s.heard.loadPart p (k.val + 1) index.toNat part.toNat content)) := by
  rw [exec_loadCommand]
  have params : loadParams (k.val + 1) index part content = byte (k.val + 1) :: (leBytes 2 index.toNat ++ part :: content) := rfl
  have length : decide (4 ≤ (loadParams (k.val + 1) index part content).length ∧ (loadParams (k.val + 1) index part content).length ≤ 55)
      = true := by
    rw [params, decide_eq_true_iff]
    simp only [List.length_cons, List.length_append, leBytes_length]
    omega
  have table : param (loadParams (k.val + 1) index part content) 0 = k.val + 1 := by
    rw [params, param_byte (by omega)]
  have row : leNat (((loadParams (k.val + 1) index part content).drop 1).take 2) = index.toNat := by
    rw [params, List.drop_succ_cons, List.drop_zero, List.take_left' (leBytes_length 2 _), leNat_leBytes]
    exact Nat.mod_eq_of_lt index.isLt
  have header : param (loadParams (k.val + 1) index part content) 3 = part.toNat := rfl
  have rest : (loadParams (k.val + 1) index part content).drop 4 = content := rfl
  rw [serveLoad, length, request_admitted access (by simp [mode]) (by simp [mode, servingModes])
    ((storeCommandRuns_heard access).trans free), table, row, header, rest]

theorem heard_staging (access : accessNow s = true) : (s.heard.service.ports.get p).staging = (s.service.ports.get p).staging := by
  rw [heard_of_access access]

theorem loadPart_out_of_range {table index part : Nat} (bad : part % 16 = 0 ∨ 4 < part % 16 ∨ part % 16 ≤ part / 16) :
    s.loadPart p table index part content = s.answer p 0x22 .badValue [] := by
  rw [State.loadPart, if_pos (.inr bad)]

theorem loadPart_in_range {index part : Nat} (least : part / 16 < part % 16) (most : part % 16 ≤ 4) :
    s.loadPart p (k.val + 1) index part content =
      match admits (s.service.ports.get p).staging (k.val + 1) index (part / 16) (part % 16) with
      | some earlier => s.takePart p (k.val + 1) index (part / 16) (part % 16) (earlier ++ content)
      | none => (s.setStaging p none).answer p 0x22 .badValue [] := by
  have fine : ¬(contentLength (k.val + 1) = none ∨ part % 16 = 0 ∨ 4 < part % 16 ∨ part % 16 ≤ part / 16) := by
    rintro (h | h)
    · exact contentLength_ne_none k h
    · omega
  rw [State.loadPart]
  exact if_neg fine

theorem takePart_last {table index number count : Nat} {bytes : List Byte} (last : number + 1 = count) :
    s.takePart p table index number count bytes =
      if contentLength table = some bytes.length then
        match (s.setStaging p none).loadEntry table index bytes with
        | .ok s => s.answer p 0x22 .done (loadData table index count)
        | .error r => (s.setStaging p none).answer p 0x22 r []
      else (s.setStaging p none).answer p 0x22 .badValue [] := by
  unfold State.takePart
  exact if_neg (by omega)

end

/-- Settles O22. -/
theorem loadPartsCompleted : Obligations.LoadPartsCompleted := by
  intro k p index part content earlier s mode access free short table number count most last held length h
  have run := exec_load_admitted (k := k) (p := p) (index := index) (part := part) mode access free short
  have taken : s.heard.loadPart p table index.toNat part.toNat content = match h.loadEntry table index.toNat (earlier ++ content) with
      | .ok s => s.answer p 0x22 .done (loadData table index.toNat count)
      | .error r => h.answer p 0x22 r [] := by
    rw [loadPart_in_range (by omega) most, heard_staging access, show admits _ _ _ _ _ = some earlier from held]
    exact (takePart_last last).trans (if_pos length)
  rw [run]
  refine ⟨fun v loaded => next_finish (taken.trans ?_), fun r refused => next_finish (taken.trans ?_)⟩
  · rw [loaded]; rfl
  · rw [refused]

/-- Settles O23. -/
theorem loadPartsStaged : Obligations.LoadPartsStaged := by
  intro k p index part content s mode access free short table number count held h
  have run := exec_load_admitted (k := k) (p := p) (index := index) (part := part) mode access free short
  have inRange : count ≤ 4 → number < count → h.loadPart p table index.toNat part.toNat content = match held with
      | some earlier => h.takePart p table index.toNat number count (earlier ++ content)
      | none => (h.setStaging p none).answer p 0x22 .badValue [] := fun most below => by
    rw [loadPart_in_range below most, heard_staging access]
  rw [run]
  refine ⟨fun bad => next_finish (loadPart_out_of_range bad), fun most below none => next_finish ((inRange most below).trans ?_),
    fun earlier most below some => next_finish ((inRange most (by omega)).trans ?_),
    fun earlier most last some wrong => next_finish ((inRange most (by omega)).trans ?_)⟩
  · rw [none]
  · rw [some]
    exact if_pos below
  · rw [some]
    exact (takePart_last last).trans (if_neg wrong)

/-! ### Store commands and the output test -/

theorem admits_slot {modes : List Mode} {s : State} (h : s.Admits modes) : timedCommandRuns s.heard = false := by
  obtain ⟨-, access, free⟩ := h
  rw [timedCommandRuns_heard access, timedCommandRuns, free]
  rfl

/-- A request that a free timed-command slot admits comes to its work. -/
theorem request_of_admits {p : Port} {code : Nat} {mode : Mode} {work : State → State} {s : State} (h : s.Admits [mode])
    (serves : mode ∈ servingModes) : State.request p code true [mode] timedCommandRuns true work s = work s.heard := by
  obtain ⟨at_mode, access, free⟩ := id h
  exact request_admitted access at_mode (List.mem_singleton.1 at_mode ▸ serves) (admits_slot h)

theorem beginOperation_busy {s : State} {op : StoreOperation} (runs : s.store.operation = some op) : s.beginOperation = s := by
  simp only [State.beginOperation, runs]

/-- A commit or a select waits behind a running operation (R186). -/
theorem requestOperation_waits {r : StoreRequest} {s : State} {op : StoreOperation} (command : r ≠ .save)
    (runs : s.store.operation = some op) :
    s.requestOperation r = { s with store := { s.store with waiting := s.store.waiting ++ [r] } } := by
  rw [State.requestOperation, if_neg (fun h => command h.1)]
  exact beginOperation_busy (s := { s with store := { s.store with waiting := s.store.waiting ++ [r] } }) runs

theorem requestOperation_begins {r : StoreRequest} {s : State} (alone : s.store.waiting = []) :
    s.requestOperation r = ({ s with store := { s.store with waiting := [r] } } : State).beginOperation := by
  rw [State.requestOperation, if_neg (by simp [alone]), alone]
  rfl

theorem requestOperation_commit {n : Fin 4} {s : State} (idle : s.store.operation = none) (alone : s.store.waiting = []) :
    s.requestOperation (.commit n) = { s with store := { s.store with
      slots := s.store.slots.set n ⟨none, false⟩, status := s.store.status.set n false
      operation := some (.commit n .erase) } } := by
  rw [requestOperation_begins alone]
  simp only [State.beginOperation, idle, ← alone]

theorem requestOperation_select {n : Fin 4} {s : State} (idle : s.store.operation = none) (alone : s.store.waiting = []) :
    s.requestOperation (.select n) = { s with store := { s.store with operation := some (.selectRead n) } } := by
  rw [requestOperation_begins alone]
  simp only [State.beginOperation, idle, ← alone]

/-- What the acceptance of a store command leaves: the slot taken, PENDING answered, the operation waiting where one runs. -/
def Joins (c : TimedCommand) (p : Port) (r : StoreRequest) (h u : State) : Prop :=
  u.service.slot = some (c, p) ∧ u.mail = h.mail ++ [.respond p c.code .pending []]
    ∧ (∀ op, h.store.operation = some op → u.store = { h.store with waiting := h.store.waiting ++ [r] })
    ∧ u = { h with service := u.service, store := u.store, faults := u.faults, mail := u.mail }

theorem accept_joins {c : TimedCommand} {p : Port} {r : StoreRequest} {h : State} (command : r ≠ .save) :
    Joins c p r h ((h.accept c p).requestOperation r) := by
  have frame := requestOperation_frame (h.accept c p) r
  refine ⟨?_, ?_, fun op runs => ?_, ?_⟩
  · rw [frame]; rfl
  · rw [frame]; rfl
  · rw [requestOperation_waits command (s := h.accept c p) runs]; rfl
  · rw [frame]; rfl

/-- Settles O26. -/
theorem commitSelectAccepted : Obligations.CommitSelectAccepted := by
  intro p s admitted h joins
  have store : h.store = s.store := rfl
  refine ⟨fun n other => ⟨(h.accept .commit p).requestOperation (.commit n), ?_, accept_joins (by simp), fun idle alone => ?_⟩,
    fun n => ⟨(h.accept .select p).requestOperation (.select n), ?_, accept_joins (by simp), fun idle alone => ?_⟩, ?_, fun b outside => ⟨?_, ?_⟩⟩
  · refine next_finish ((request_of_admits admitted (by decide)).trans ((withRow_inside (param_byte (by omega) [])).trans ?_))
    exact if_neg other
  · rw [requestOperation_commit (s := h.accept .commit p) idle alone]; rfl
  · exact next_finish ((request_of_admits admitted (by decide)).trans (withRow_inside (param_byte (by omega) [])))
  · rw [requestOperation_select (s := h.accept .select p) idle alone]; rfl
  · refine next_finish ((request_of_admits admitted (by decide)).trans ((withRow_inside (i := 0) rfl).trans ?_))
    exact if_pos rfl
  · exact next_finish ((request_of_admits admitted (by decide)).trans (withRow_outside outside))
  · exact next_finish ((request_of_admits admitted (by decide)).trans (withRow_outside outside))

/-! ### The output test -/

theorem endTest_of_test {r : Result} {a : Acc Service} {q : Port} (tests : a.st.slot = some (.outputTest, q)) :
    endTest r a = ⟨{ a.st with slot := none, testTimer := none }, a.out ++ [.respond q 0x30 r [], .testEnd]⟩ := by
  simp only [endTest, tests]
  rfl

theorem endTest_of_no_test {r : Result} {a : Acc Service} (none : ∀ q, a.st.slot ≠ some (.outputTest, q)) : endTest r a = a := by
  unfold endTest
  split
  · next q h => exact absurd h (none q)
  · rfl

/-- Settles O27. -/
theorem outputTestRuns : Obligations.OutputTestRuns := by
  intro p s
  refine ⟨fun admitted => ⟨fun n least most => ?_, fun n outside => ?_⟩, fun serving access => ⟨fun q tests => ?_, fun none => ?_⟩,
    fun t q due tests => ?_⟩
  · have seconds : param [byte n.val] 0 = n.val := param_byte n.isLt []
    refine next_finish ((request_of_admits admitted (by decide)).trans ?_)
    simp only [seconds]
    rw [if_pos ⟨least, most⟩]
    simp only [State.send, State.accept, State.answer, List.append_assoc]
    rfl
  · have seconds : param [byte n.val] 0 = n.val := param_byte n.isLt []
    refine next_finish ((request_of_admits admitted (by decide)).trans ?_)
    simp only [seconds]
    exact if_neg (by omega)
  · refine next_finish ((request_with_access serving access).trans ?_)
    rw [State.runService, endTest_of_test (a := ⟨s.heard.service, []⟩) ((heard_slot access).trans tests)]
    simp only [State.answer, State.send, List.append_assoc]
    rfl
  · refine next_finish ((request_with_access serving access).trans ?_)
    rw [State.runService, endTest_of_no_test (a := ⟨s.heard.service, []⟩) (fun q => by rw [heard_slot access]; exact none q)]
    simp only [List.append_nil]
  · refine (expiry_at _ s due).trans ?_
    rw [State.runService, endTest_of_test (a := ⟨(s.advanceTo t).service, []⟩) tests]
    rfl

end Sys2Proof.Machine
end

section
/-! PROOFS. StoreProofs: the completions and failures of store operations (R180, R186 to R190). -/

namespace Sys2Proof.Machine

/-! ### Ends of an operation -/

theorem completedWell_eq (a : Acc Store) : completedWell a = ⟨{ a.st with operation := none, failure := false, reportedFailure := false },
    a.out ++ if a.st.reportedFailure then [.report (.clear 0xF003 .profileStore)] else []⟩ := by
  simp only [completedWell, Acc.sayIf, Acc.say, Acc.upd]
  split <;> simp [Config.storeFailCode]

theorem completedBadly_eq (a : Acc Store) : completedBadly a = ⟨{ a.st with operation := none, failure := true, reportedFailure := true },
    a.out ++ if a.st.reportedFailure then [] else [.report (.raise 0xF003 .profileStore 2)]⟩ := by
  simp only [completedBadly, Acc.sayIf, Acc.say, Acc.upd]
  cases a.st.reportedFailure <;> simp [Config.storeFailCode]

theorem clearFallback_eq (a : Acc Store) : clearFallback a = ⟨{ a.st with reportedFallback := false },
    a.out ++ if a.st.reportedFallback then [.report (.clear 0xF001 .profileStore)] else []⟩ := by
  simp only [clearFallback, Acc.sayIf, Acc.say, Acc.upd]
  split <;> simp [Config.fallbackCode]

theorem completeTimed_free {r : Result} {a : Acc Service} (free : a.st.slot = none) : completeTimed r a = a := by
  simp only [completeTimed, free]

theorem completeTimed_of_slot {r : Result} {a : Acc Service} {c : TimedCommand} {p : Port} (held : a.st.slot = some (c, p)) :
    completeTimed r a = ⟨{ a.st with slot := none, endDue := false },
      a.out ++ .respond p c.code r [] :: if a.st.endDue then [.endConfiguration] else []⟩ := by
  simp only [completeTimed, held, Acc.sayIf, Acc.say, Acc.upd]
  split <;> simp

theorem completeTimed_slot (r : Result) (a : Acc Service) : (completeTimed r a).st.slot = none := by
  rcases held : a.st.slot with _ | ⟨c, p⟩
  · rw [completeTimed_free held, held]
  · rw [completeTimed_of_slot held]

/-- The timed command in the slot has its final result queued. -/
theorem respond_mem_completeTimed {s : State} {r : Result} {c : TimedCommand} {p : Port} (held : s.service.slot = some (c, p)) :
    .respond p c.code r [] ∈ (s.runService fun _ => completeTimed r).mail := by
  rw [runService_mail, completeTimed_of_slot (a := ⟨s.service, []⟩) held]
  exact List.mem_append_right _ (List.mem_append_right _ List.mem_cons_self)

/-! ### The area after a save -/

section
variable (t : Store) (items : Persistent) (n : Fin 4)

theorem saved_current : (t.saved items n).current = ⟨items, n, t.current.number + 1, true⟩ := by
  cases second : t.secondIsCurrent <;> simp [Store.saved, Store.setOther, Store.current, second]

theorem saved_other : (t.saved items n).other = t.current := by
  cases second : t.secondIsCurrent <;> simp [Store.saved, Store.setOther, Store.current, Store.other, second]

@[simp] theorem saved_status : (t.saved items n).status = t.status := setOther_status t _
@[simp] theorem saved_reportedFallback : (t.saved items n).reportedFallback = t.reportedFallback := setOther_reportedFallback t _
@[simp] theorem saved_reportedFailure : (t.saved items n).reportedFailure = t.reportedFailure := setOther_reportedFailure t _

end

/-! ### The end of a commit -/

/-- A commit of slot `n` has completed, and no waiting operation has begun. -/
def State.committed (n : Fin 4) (items : Persistent) (s : State) : State :=
  { s with store := s.store.saved items n }
    |>.activate n
    |>.runStore (fun _ a => completedWell (clearFallback a))
    |>.runService (fun _ => completeTimed .done)

theorem commitDone_eq (n : Fin 4) (items : Persistent) (s : State) : s.commitDone n items = (s.committed n items).beginOperation := rfl

theorem writeMode_mail (s : State) : s.writeMode.mail = s.mail := by
  rw [writeMode_frame]

theorem activate_mail (n : Fin 4) (s : State) : (s.activate n).mail = s.mail := writeMode_mail _

/-- The write of the MODE records touches the display alone. -/
theorem writeMode_eq_display (s : State) : { s with display := s.writeMode.display } = s.writeMode :=
  congrArg (fun m => { s.writeMode with mail := m }) (writeMode_mail s).symm

theorem committed_store (n : Fin 4) (items : Persistent) (s : State) : (s.committed n items).store = { s.store.saved items n with
    operation := none, failure := false, reportedFallback := false, reportedFailure := false } := by
  change (completedWell (clearFallback ⟨s.store.saved items n, []⟩)).st = _
  rw [clearFallback_eq, completedWell_eq]

theorem committed_mail (n : Fin 4) (items : Persistent) (s : State) : ∃ l, (s.committed n items).mail = s.mail
    ++ ((if s.store.reportedFallback then [.report (.clear 0xF001 .profileStore)] else [])
      ++ if s.store.reportedFailure then [.report (.clear 0xF003 .profileStore)] else []) ++ l := by
  refine ⟨(completeTimed .done ⟨s.service, []⟩).out, ?_⟩
  have shown : (State.activate n { s with store := s.store.saved items n }).mail = s.mail := activate_mail n _
  change (State.activate n { s with store := s.store.saved items n }).mail
    ++ (completedWell (clearFallback ⟨s.store.saved items n, []⟩)).out ++ (completeTimed .done ⟨s.service, []⟩).out = _
  rw [shown, clearFallback_eq, completedWell_eq]
  simp only [saved_reportedFallback, saved_reportedFailure, List.nil_append]

/-- The state in which a commit has reached a step differs in its store and in the changed flag alone. -/
theorem commitAt_frame (k : StoreStep) (s : State) : s.commitAt k = { s with
    store := (s.commitAt k).store, faults := { s.faults with changed := (s.commitAt k).faults.changed } } :=
  commitAt_keeps (P := fun t => t = { s with store := t.store, faults := { s.faults with changed := t.faults.changed } })
    (fun t h => by rw [commitTick_frame t, h]) k rfl

/-- A save of a commit that has begun has cleared the changed flag (R189). -/
theorem commitAt_save_changed {n : Fin 4} {k : CommitStep} {s : State} (runs : s.store.operation = some (.commit n k)) :
    (s.commitAt .save).faults.changed = false := by
  have save := (commitAt_save runs).operation
  have kept : (∃ k, (s.commitAt .save).store.operation = some (.commit n k)) ∨ (s.commitAt .save).faults.changed = false := by
    refine commitAt_keeps (P := fun t => (∃ k, t.store.operation = some (.commit n k)) ∨ t.faults.changed = false) (fun t h => ?_) _
      (.inl ⟨k, runs⟩)
    rcases h with ⟨k, h⟩ | h
    · cases k with
      | erase => rw [commitTick_erase h]; exact .inl ⟨_, rfl⟩
      | write => rw [commitTick_write h]; exact .inl ⟨_, rfl⟩
      | check => rw [commitTick_check h]; exact .inr rfl
    · unfold State.commitTick
      split
      · exact .inr h
      · exact .inr h
      · exact .inr rfl
      · exact .inr h
  rcases kept with ⟨k, h⟩ | h
  · rw [save] at h; nomatch h
  · exact h

/-- What the save of a commit of slot `n` that completes leaves (R187, R189, R190). -/
theorem committed_ends {n : Fin 4} {items : Persistent} {s : State} {st : Store} (changed : Bool)
    (current : st.current = s.store.current) (waiting : st.waiting = s.store.waiting)
    (fallback : st.reportedFallback = s.store.reportedFallback) (failed : st.reportedFailure = s.store.reportedFailure) :
    let t := { s with store := st, faults := { s.faults with changed := changed } }
    let cleared : List Notice := if s.store.reportedFailure then [.report (.clear 0xF003 .profileStore)] else []
    let v := t.committed n items
    v = { s with
        store := v.store, control := v.control, faults := v.faults, service := v.service, mail := v.mail
        display := v.display }
      ∧ s.OnlyModeWritten { s with control := v.control, display := v.display }
      ∧ v.store.current = ⟨items, n, s.store.current.number + 1, true⟩ ∧ v.store.other = s.store.current
      ∧ v.store.operation = none ∧ v.store.waiting = s.store.waiting ∧ v.store.failure = false
      ∧ v.store.reportedFailure = false ∧ v.store.reportedFallback = false
      ∧ v.control = { s.control with activeSlot := n, fallback := false } ∧ v.service.slot = none
      ∧ (∀ c p, s.service.slot = some (c, p) → .respond p c.code .done [] ∈ v.mail)
      ∧ (∀ m ∈ cleared, m ∈ v.mail)
      ∧ (s.store.reportedFallback = true → .report (.clear 0xF001 .profileStore) ∈ v.mail) := by
  intro t cleared v
  have store : v.store = _ := committed_store n items t
  obtain ⟨l, mail⟩ := committed_mail n items t
  rw [show t.store.reportedFailure = s.store.reportedFailure from failed,
    show t.store.reportedFallback = s.store.reportedFallback from fallback] at mail
  have shown : s.OnlyModeWritten { s with control := v.control, display := v.display } := by
    have only := writeMode_only s { s.control with activeSlot := n, fallback := false }
    rw [← writeMode_eq_display] at only
    exact only
  refine ⟨rfl, shown, ?_, ?_, ?_, ?_, ?_, ?_, ?_, rfl,
    completeTimed_slot _ _, fun c p held => respond_mem_completeTimed held, fun m member => ?_, fun reported => ?_⟩
  · rw [store, ← current]
    exact saved_current ..
  · rw [store, ← current]
    exact saved_other ..
  · rw [store]
  · rw [store, ← waiting]
    exact saved_waiting ..
  · rw [store]
  · rw [store]
  · rw [store]
  · rw [show v.mail = _ from mail]
    exact List.mem_append_left _ (List.mem_append_right _ (List.mem_append_right _ member))
  · rw [show v.mail = _ from mail, if_pos reported]
    exact List.mem_append_left _ (List.mem_append_right _ (List.mem_append_left _ (List.mem_singleton_self _)))

/-- Settles O28. -/
theorem commitAndSaveComplete : Obligations.CommitAndSaveComplete := by
  intro s cleared ends
  refine ⟨fun n items runs => ⟨s.committed n items, ⟨?_, ?_⟩, ?_, ?_, rfl⟩, fun n k runs => ⟨(s.commitAt .save).committed n s.faults.items, ⟨?_, ?_⟩, ?_, ?_, ?_⟩,
    fun items slot runs => ⟨{ s with store := s.store.saved items slot }.runStore (fun _ => completedWell), ?_⟩⟩
  · have there : s.commitAt .save = s := commitAt_of_no_commit .save fun m step h => by rw [runs] at h; nomatch h
    simp only [exec, execCommitComplete, there, runs, commitDone_eq]
  · exact committed_ends s.faults.changed rfl rfl rfl rfl
  · rw [committed_store]
    exact saved_slots ..
  · rw [committed_store]
    exact saved_status ..
  · simp only [exec, execCommitComplete, (commitAt_save runs).operation, commitDone_eq]
  · have saves := commitAt_save runs
    rw [commitAt_frame]
    exact committed_ends _ saves.current saves.waiting saves.reportedFallback saves.reportedFailure
  · have saves := commitAt_save runs
    rw [committed_store]
    refine (saved_slots ..).trans (Tab.ext_get fun m => ?_)
    rw [Tab.get_set]
    split
    · next here => rw [here]; exact saves.slot
    · next other => exact saves.slots m other
  · have saves := commitAt_save runs
    rw [committed_store]
    refine (saved_status ..).trans (Tab.ext_get fun m => ?_)
    rw [Tab.get_set]
    split
    · next here => rw [here]; exact saves.flag
    · next other => exact saves.status m other
  · change (s.commitAt .save).faults = _
    rw [commitAt_frame, commitAt_save_changed runs]
  · have store : (State.runStore (fun _ => completedWell) { s with store := s.store.saved items slot }).store
        = { s.store.saved items slot with operation := none, failure := false, reportedFailure := false } := by
      rw [runStore_store, completedWell_eq]
    refine ⟨?_, ?_, ?_, ?_, ?_, ?_, ?_, ?_, ?_, rfl⟩
    · simp only [exec, execPersistenceSaveComplete, runs]
      rfl
    · rw [store]; exact saved_current ..
    · rw [store]; exact saved_other ..
    · rw [store]
    · rw [store]; exact saved_waiting ..
    · rw [store]
    · rw [store]; exact saved_slots ..
    · rw [store]; exact saved_status ..
    · rw [runStore_mail, completedWell_eq]
      simp only [saved_reportedFailure, List.nil_append]
      rfl

/-! ### The read of a select -/

/-- A select read that finds no good image has ended, and no waiting operation has begun. -/
def State.refusedSelect (n : Fin 4) (s : State) : State :=
  { s with store := { s.store with status := s.store.status.set n false } }
    |>.runStore (fun _ => completedWell)
    |>.runService (fun _ => completeTimed .storeFailed)

theorem selectRefused_eq (n : Fin 4) (s : State) : s.selectRefused n = (s.refusedSelect n).beginOperation := rfl

theorem exec_selectReadComplete {n : Fin 4} {saved : Bool} {s : State} (runs : s.store.operation = some (.selectRead n)) :
    exec (.selectReadComplete saved) s = .next (finish (s.selectRead n saved)) := by
  simp only [exec, execSelectReadComplete, runs]

theorem selectRead_bad {n : Fin 4} {saved : Bool} {s : State}
    (bad : (s.store.slots.get n).image = none ∨ (s.store.slots.get n).checkAgrees = false) : s.selectRead n saved = s.selectRefused n := by
  have test : ((s.store.slots.get n).image.isSome && (s.store.slots.get n).checkAgrees) = false := by
    rcases bad with h | h <;> simp [h]
  simp only [State.selectRead, test, Bool.false_eq_true, ↓reduceIte]

theorem selectRead_good {n : Fin 4} {saved : Bool} {s : State} {image : Image} (holds : (s.store.slots.get n).image = some image)
    (agrees : (s.store.slots.get n).checkAgrees = true) :
    s.selectRead n saved = if saved then (s.selectVerified n).selectSaved else s.selectVerified n := by
  simp only [State.selectRead, holds, agrees, Option.isSome_some, Bool.and_self, ↓reduceIte]

/-- Settles O29. -/
theorem selectReadCompletes : Obligations.SelectReadCompletes := by
  intro n saved s runs slot
  refine ⟨fun bad => ⟨s.refusedSelect n, ?_, ?_, rfl, completeTimed_slot _ _, fun c p held => respond_mem_completeTimed held⟩,
    fun image holds agrees => ?_⟩
  · rw [exec_selectReadComplete runs, selectRead_bad bad, selectRefused_eq]
  · change (completedWell ⟨{ s.store with status := s.store.status.set n false }, []⟩).st = _
    rw [completedWell_eq]
  · rw [exec_selectReadComplete runs, selectRead_good holds agrees]
    rfl

/-! ### Write failures -/

/-- The running operation has ended with a write failure, and no waiting one has begun. -/
def State.failedBy (op : StoreOperation) (s : State) : State :=
  let t := (s.leftByFailure op).runStore fun _ => completedBadly
  match op with
  | .save _ _ => t
  | _ => t.runService fun _ => completeTimed .storeFailed

theorem storeFails_eq (op : StoreOperation) (s : State) : s.storeFails op = (s.failedBy op).beginOperation := by
  cases op <;> rfl

section
variable (op : StoreOperation) (t : State)

theorem failedBy_store : (t.failedBy op).store =
    { (t.leftByFailure op).store with operation := none, failure := true, reportedFailure := true } := by
  have store : ((t.leftByFailure op).runStore fun _ => completedBadly).store = _ :=
    congrArg Acc.st (completedBadly_eq ⟨(t.leftByFailure op).store, []⟩)
  cases op <;> exact store

theorem failedBy_faults : (t.failedBy op).faults = (t.leftByFailure op).faults := by cases op <;> rfl

theorem failedBy_frame : t.failedBy op = { t with
    store := (t.failedBy op).store, faults := (t.failedBy op).faults, service := (t.failedBy op).service
    mail := (t.failedBy op).mail } := by cases op <;> rfl

theorem leftByFailure_waiting : (t.leftByFailure op).store.waiting = t.store.waiting := by
  cases op with
  | commit | selectRead => rfl
  | _ => exact spoil_waiting _

theorem leftByFailure_reportedFailure : (t.leftByFailure op).store.reportedFailure = t.store.reportedFailure := by
  cases op with
  | commit | selectRead => rfl
  | _ => exact spoil_reportedFailure _

/-- The failure is raised where it is not reported yet (R190). -/
theorem failedBy_raises (unreported : t.store.reportedFailure = false) :
    .report (.raise 0xF003 .profileStore 2) ∈ (t.failedBy op).mail := by
  have raised : .report (.raise 0xF003 .profileStore 2) ∈ ((t.leftByFailure op).runStore fun _ => completedBadly).mail := by
    rw [runStore_mail, completedBadly_eq, leftByFailure_reportedFailure, unreported]
    exact List.mem_append_right _ (by simp)
  cases op with
  | save => exact raised
  | _ => exact List.mem_append_left _ raised

/-- A timed command ends with STORE_FAILED (R180). -/
theorem failedBy_service (timed : ∀ items slot, op ≠ .save items slot) : (t.failedBy op).service.slot = none
    ∧ ∀ c p, t.service.slot = some (c, p) → .respond p c.code .storeFailed [] ∈ (t.failedBy op).mail := by
  have same : (t.leftByFailure op).service = t.service := by cases op <;> rfl
  have ended : t.failedBy op = ((t.leftByFailure op).runStore fun _ => completedBadly).runService fun _ => completeTimed .storeFailed := by
    cases op with
    | save items slot => exact absurd rfl (timed items slot)
    | _ => rfl
  rw [ended]
  exact ⟨completeTimed_slot _ _, fun c p held => respond_mem_completeTimed (by rw [runStore_service, same]; exact held)⟩

theorem failedBy_save (items : Persistent) (slot : Fin 4) : (t.failedBy (.save items slot)).service = t.service := rfl

end

/-- A commit that has not begun its save has left the faults alone. -/
theorem commitAt_before_faults {n : Fin 4} {k : CommitStep} {r : StoreStep} {s : State} (runs : s.store.operation = some (.commit n k))
    (before : r ≠ .save) : (s.commitAt r).faults = s.faults := by
  obtain ⟨-, stands, -⟩ := commitAt_before runs before
  refine commitAt_keeps (P := fun t => (∃ k, t.store.operation = some (.commit n k)) → t.faults = s.faults) (fun t h => ?_) r
    (fun _ => rfl) stands
  rintro ⟨k, after⟩
  by_cases commits : ∃ m k, t.store.operation = some (.commit m k)
  · obtain ⟨m, stage, stood⟩ := commits
    cases stage with
    | erase =>
      rw [commitTick_erase stood] at after ⊢
      obtain ⟨rfl, -⟩ : m = n ∧ _ := by simpa using after
      exact h ⟨_, stood⟩
    | write =>
      rw [commitTick_write stood] at after ⊢
      obtain ⟨rfl, -⟩ : m = n ∧ _ := by simpa using after
      exact h ⟨_, stood⟩
    | check =>
      rw [commitTick_check stood] at after
      nomatch after
  · rw [commitTick_of_no_commit fun m k h => commits ⟨m, k, h⟩] at after ⊢
    exact h ⟨k, after⟩

/-- What a write failure leaves in the state `t` in which the failing step stands, `op` the operation that runs there (R186 to R190). -/
theorem failedBy_ends {op : StoreOperation} {s t : State} (failed : StoreStep) (runs : t.store.operation = some op)
    (reads : ∀ n, op ≠ .selectRead n) (here : s.commitAt failed = t) (waiting : t.store.waiting = s.store.waiting)
    (reported : t.store.reportedFailure = s.store.reportedFailure) :
    exec (.storeWriteFailure failed) s = .next (finish (t.failedBy op).beginOperation)
      ∧ (t.failedBy op).store.operation = none ∧ (t.failedBy op).store.waiting = s.store.waiting
      ∧ (t.failedBy op).store.failure = true ∧ (t.failedBy op).store.reportedFailure = true
      ∧ (s.store.reportedFailure = false → .report (.raise 0xF003 .profileStore 2) ∈ (t.failedBy op).mail)
      ∧ t.failedBy op = { s with
          store := (t.failedBy op).store, faults := (t.failedBy op).faults, service := (t.failedBy op).service
          mail := (t.failedBy op).mail } := by
  refine ⟨?_, ?_, ?_, ?_, ?_, fun unreported => failedBy_raises op t (reported.trans unreported), ?_⟩
  · rw [← storeFails_eq]
    cases op with
    | selectRead n => exact absurd rfl (reads n)
    | _ => simp only [exec, execStoreWriteFailure, here, runs]
  · rw [failedBy_store]
  · rw [failedBy_store, ← waiting]
    exact leftByFailure_waiting op t
  · rw [failedBy_store]
  · rw [failedBy_store]
  · have frame := commitAt_frame failed s
    rw [here] at frame
    refine (failedBy_frame op t).trans ?_
    generalize (t.failedBy op).store = store, (t.failedBy op).faults = faults, (t.failedBy op).service = service,
      (t.failedBy op).mail = mail
    rw [frame]

/-- What a failed save leaves of the area (R189). -/
theorem failedBy_of_save {op : StoreOperation} {t : State} (saves : t.leftByFailure op = t.saveFailed) :
    (t.failedBy op).store.current = t.store.current ∧ (t.failedBy op).store.other = { t.store.other with valid := false }
      ∧ (t.failedBy op).store.slots = t.store.slots ∧ (t.failedBy op).store.status = t.store.status
      ∧ (t.failedBy op).faults = { t.faults with changed := true } := by
  rw [failedBy_store, failedBy_faults, saves]
  exact ⟨spoil_current _, spoil_other _, spoil_slots _, spoil_status _, rfl⟩

/-- Settles O31. -/
theorem storeFailureLeaves : Obligations.StoreFailureLeaves := by
  intro op failed s runs writes early
  by_cases commits : ∃ n k, op = .commit n k
  · obtain ⟨n, k, rfl⟩ := commits
    by_cases last : failed = .save
    · have saves := commitAt_save runs
      have late : ¬early := fun h => h.2 last
      subst last
      obtain ⟨run, operation, waiting, failure, reported, raised, frame⟩ := failedBy_ends .save saves.operation (by simp) rfl
        saves.waiting saves.reportedFailure
      obtain ⟨current, other, slots, status, faults⟩ := failedBy_of_save (op := .commitSave n s.faults.items) (t := s.commitAt .save) rfl
      obtain ⟨free, answered⟩ := failedBy_service (.commitSave n s.faults.items) (s.commitAt .save) (by simp)
      have service : (s.commitAt .save).service = s.service := by rw [commitAt_frame]
      refine ⟨_, run, operation, waiting, failure, reported, raised, frame, current.trans saves.current, fun h => absurd h late,
        fun _ => ⟨?_, ?_⟩, fun m j same => ?_, fun other => absurd rfl (other n k), fun _ => ⟨free, service ▸ answered⟩, by simp⟩
      · rw [other, saves.other]
      · rw [faults, commitAt_frame]
      · obtain ⟨rfl, -⟩ : n = m ∧ _ := by simpa using same
        rw [slots, status]
        exact ⟨fun l ne => ⟨saves.slots l ne, saves.status l ne⟩, fun h => absurd rfl h, fun _ => ⟨saves.slot, saves.flag⟩⟩
    · obtain ⟨on, ⟨k', stands⟩, other⟩ := commitAt_before runs last
      have soon : early := ⟨⟨n, k, rfl⟩, last⟩
      obtain ⟨run, operation, waiting, failure, reported, raised, frame⟩ := failedBy_ends failed stands (by simp) rfl
        on.waiting on.reportedFailure
      obtain ⟨free, answered⟩ := failedBy_service (.commit n k') (s.commitAt failed) (by simp)
      have service : (s.commitAt failed).service = s.service := by rw [commitAt_frame]
      have store := failedBy_store (.commit n k') (s.commitAt failed)
      have faults : ((s.commitAt failed).failedBy (.commit n k')).faults = s.faults :=
        (failedBy_faults ..).trans (commitAt_before_faults runs last)
      refine ⟨_, run, operation, waiting, failure, reported, raised, frame, ?_, fun _ => ⟨?_, faults⟩, fun h => absurd soon h,
        fun m j same => ?_, fun other => absurd rfl (other n k), fun _ => ⟨free, service ▸ answered⟩, by simp⟩
      · rw [store]; exact on.current
      · rw [store]; exact other
      · obtain ⟨rfl, -⟩ : n = m ∧ _ := by simpa using same
        rw [store]
        refine ⟨fun l ne => ⟨?_, ?_⟩, fun _ => ⟨?_, ?_⟩, fun h => absurd h last⟩
        · exact (Tab.get_set_ne _ _ ne).trans (on.slots l ne)
        · exact (Tab.get_set_ne _ _ ne).trans (on.status l ne)
        · simp [State.leftByFailure, Store.broken]
        · simp [State.leftByFailure, Store.broken]
  · have late : ¬early := fun h => commits h.1
    have there : s.commitAt failed = s := commitAt_of_no_commit failed fun m j h => commits ⟨m, j, by rw [runs] at h; exact Option.some.inj h⟩
    have saves : s.leftByFailure op = s.saveFailed := by
      cases op with
      | commit m j => exact absurd ⟨m, j, rfl⟩ commits
      | selectRead m => exact absurd rfl (writes m)
      | _ => rfl
    obtain ⟨run, operation, waiting, failure, reported, raised, frame⟩ := failedBy_ends failed runs writes there rfl rfl
    obtain ⟨current, other, slots, status, faults⟩ := failedBy_of_save saves
    refine ⟨_, run, operation, waiting, failure, reported, raised, frame, current, fun h => absurd h late, fun _ => ⟨other, faults⟩,
      fun m j same => absurd ⟨m, j, same⟩ commits, fun _ => ⟨slots, status⟩, failedBy_service op s, fun items slot same => ?_⟩
    rw [same]
    rfl

end Sys2Proof.Machine
end

section
/-! PROOFS. ScanProofs: the scans of the wired inputs and the classes of their samples (R45 to R59). -/

namespace Sys2Proof.Machine

/-! ### Debounce and classes -/

theorem debounce_eq (limit : Nat) (c : WireClass) (candidate : Option WireClass) (count : Nat) :
    debounce limit c candidate count = (some c, if candidate = some c then min limit (count + 1) else 1) := by
  unfold debounce
  split
  · next same => rw [same]
  · rfl

theorem classify_supervised (level : Nat) : (classify true level = .groundShort ↔ level < 100)
    ∧ (classify true level = .low ↔ 100 ≤ level ∧ level < 450) ∧ (classify true level = .high ↔ 450 ≤ level ∧ level < 850)
    ∧ (classify true level = .openWire ↔ 850 ≤ level) := by
  simp only [classify, ↓reduceIte]
  split
  · simp; omega
  · split
    · simp; omega
    · split
      · simp; omega
      · simp; omega

theorem classify_plain (level : Nat) : (classify false level = .low ↔ level < 500) ∧ (classify false level = .high ↔ 500 ≤ level) := by
  simp only [classify, Bool.false_eq_true, ↓reduceIte]
  split
  · simp; omega
  · simp; omega

/-! ### Notices of a channel -/

section
variable {img : Image} {target : Option (Fin 256)} {channel : Source} {w : SignalWrite} {m : Notice}

theorem channelWrite_mem : m ∈ channelWrite img target channel w ↔
    ∃ i, target = some i ∧ (img.signals.get i).source = channel ∧ m = .write i w := by
  unfold channelWrite
  cases target with
  | none => simp
  | some i =>
    by_cases named : (img.signals.get i).source = channel <;> simp [named]

theorem report_not_mem_channelWrite (report : Report) : .report report ∉ channelWrite img target channel w := fun member => by
  obtain ⟨i, -, -, h⟩ := channelWrite_mem.1 member
  nomatch h

theorem channelWrite_eq (img : Image) (target : Option (Fin 256)) (channel : Source) (w : SignalWrite) :
    channelWrite img target channel w = match target with
      | some i => if (img.signals.get i).source = channel then [.write i w] else []
      | none => [] := by
  cases target <;> simp [channelWrite]

end

section
variable {due latch : Bool} {reported : Option Nat} {fault : Option FaultCode} {source : FaultSource}

theorem rereport_quiet (quiet : due = false ∨ latch = false) : rereport due latch reported fault source = (reported, []) := by
  rcases quiet with h | h <;> simp [rereport, h]

/-- A re-report sends nothing but the raise of the fault, where it has a code and is not reported. -/
theorem rereport_mem {m : Notice} : m ∈ (rereport due latch reported fault source).2 ↔
    due = true ∧ latch = true ∧ reported = none ∧ ∃ f, fault = some f ∧ m = .report (.raise f.code source f.severity) := by
  unfold rereport
  cases due <;> cases latch <;> simp [raiseFlag_mem]

theorem rereport_reported (code : Nat) : rereport due latch (some code) fault source = (some code, []) := by
  unfold rereport
  rw [raiseFlag_set, ite_self]

end

/-! ### Discrete channels -/

section
variable (img : Image) (n : Fin 24) (cfg : DiscreteConfig) (level : Nat) (r : DiscreteRun)

/-- LOW and HIGH end the wire fault and write the level (R49). -/
theorem takeClass_level {c : WireClass} (plain : c = .low ∨ c = .high) :
    takeClass img n cfg c r = ({ r with taken := some c, latch := false, reported := none },
      channelWrite img cfg.target (.discrete n) (.bare (if decide (c = .high) = cfg.activeHigh then 1 else 0))
        ++ (clearFlag r.reported (.discrete n)).2) := by
  rcases plain with rfl | rfl <;> simp [takeClass, show (WireClass.low == WireClass.high) = false from rfl]

/-- A wire fault sets the latch, writes WIRE_FAULT, is counted where it is new and raised where it is not reported (R50). -/
theorem takeClass_fault {c : WireClass} (fault : c = .groundShort ∨ c = .openWire) :
    takeClass img n cfg c r = ({ r with taken := some c, latch := true, reported := (raiseFlag r.reported cfg.fault (.discrete n)).1 },
      channelWrite img cfg.target (.discrete n) (.status .wireFault)
        ++ (if r.latch then [] else [.report (.wear .inputWireFault n.val)]) ++ (raiseFlag r.reported cfg.fault (.discrete n)).2) := by
  rcases fault with rfl | rfl <;> rfl

/-- A class writes the channel's target or nothing. -/
theorem write_mem_takeClass {c : WireClass} {i : Fin 256} {w : SignalWrite} (member : .write i w ∈ (takeClass img n cfg c r).2) :
    ∃ w', .write i w ∈ channelWrite img cfg.target (.discrete n) w' := by
  have level : c = .low ∨ c = .high → _ := takeClass_level img n cfg r
  have fault : c = .groundShort ∨ c = .openWire → _ := takeClass_fault img n cfg r
  by_cases plain : c = .low ∨ c = .high
  · rw [level plain] at member
    rcases List.mem_append.1 member with written | cleared
    · exact ⟨_, written⟩
    · simp [clearFlag_mem] at cleared
  · have wire : c = .groundShort ∨ c = .openWire := by cases c <;> simp_all
    rw [fault wire] at member
    simp only [List.mem_append, raiseFlag_mem] at member
    rcases member with (written | worn) | ⟨-, f, -, h⟩
    · exact ⟨_, written⟩
    · split at worn <;> simp at worn
    · nomatch h

theorem takeClass_frame (c : WireClass) : (takeClass img n cfg c r).1.taken = some c
    ∧ (takeClass img n cfg c r).1.candidate = r.candidate ∧ (takeClass img n cfg c r).1.count = r.count
    ∧ (takeClass img n cfg c r).1.due = r.due := by
  cases c <;> exact ⟨rfl, rfl, rfl, rfl⟩

/-- The re-report that is due at a scan. -/
def DiscreteRun.again (img : Image) (n : Fin 24) (r : DiscreteRun) : Option Nat × List Notice :=
  rereport r.due r.latch r.reported (img.discretes.get n).fault (.discrete n)

/-- A channel after its re-report and the debounce of a sample of class `c` (R48). -/
def DiscreteRun.debounced (img : Image) (n : Fin 24) (limit : Nat) (c : WireClass) (r : DiscreteRun) : DiscreteRun :=
  { r with
    reported := (r.again img n).1, due := false, candidate := some c
    count := if r.candidate = some c then min limit (r.count + 1) else 1 }

/-- A sample is debounced, and its class taken where the count is reached and it is another than the one taken (R48). -/
theorem sampleDiscrete_eq :
    let c := classify cfg.supervised level
    let d := r.debounced img n cfg.debounce c
    sampleDiscrete img n cfg level r =
      if d.count = cfg.debounce ∧ r.taken ≠ some c then
        ((takeClass img n cfg c d).1, (r.again img n).2 ++ (takeClass img n cfg c d).2)
      else (d, (r.again img n).2) := by
  simp only [sampleDiscrete, debounce_eq]
  rfl

theorem sampleDiscrete_debounces :
    let c := classify cfg.supervised level
    let a := sampleDiscrete img n cfg level r
    a.1.due = false ∧ a.1.candidate = some c
      ∧ a.1.count = (if r.candidate = some c then min cfg.debounce (r.count + 1) else 1)
      ∧ a.1.taken = (if a.1.count = cfg.debounce then some c else r.taken) := by
  intro c a
  have whole : a = _ := sampleDiscrete_eq img n cfg level r
  by_cases takes : (r.debounced img n cfg.debounce c).count = cfg.debounce ∧ r.taken ≠ some c
  · rw [if_pos takes] at whole
    obtain ⟨taken, candidate, count, due⟩ := takeClass_frame img n cfg (r.debounced img n cfg.debounce c) c
    rw [whole]
    exact ⟨due, candidate, count, taken.trans (if_pos (count.trans takes.1)).symm⟩
  · rw [if_neg takes] at whole
    rw [whole]
    refine ⟨rfl, rfl, rfl, ?_⟩
    by_cases reached : (r.debounced img n cfg.debounce c).count = cfg.debounce
    · have same : r.taken = some c := by
        by_contra other
        exact takes ⟨reached, other⟩
      rw [if_pos reached]
      exact same
    · rw [if_neg reached]
      rfl

end

/-- Settles O34. -/
theorem discreteClassTaken : Obligations.DiscreteClassTaken := by
  refine ⟨fun level => ?_, fun img n cfg r => ?_, fun img n cfg level r => ?_⟩
  · obtain ⟨short, low, high, wire⟩ := classify_supervised level
    exact ⟨short, low, high, wire, classify_plain level⟩
  · intro writes
    have written : ∀ w, channelWrite img cfg.target (.discrete n) w = writes w := fun w => channelWrite_eq ..
    refine ⟨fun c plain => ?_, fun c fault => ?_, fun i target named w => ?_, fun elsewhere c i w => ?_⟩
    · rw [takeClass_level img n cfg r plain, written, clearFlag_eq] <;> rfl
    · intro a
      have taken : a = _ := takeClass_fault img n cfg r fault
      rw [written] at taken
      rw [taken]
      have worn : ∀ m, m ∈ (if r.latch then [] else [Notice.report (.wear .inputWireFault n.val)])
          ↔ r.latch = false ∧ m = .report (.wear .inputWireFault n.val) := fun m => by cases r.latch <;> simp
      refine ⟨rfl, rfl, fun w member => List.mem_append_left _ (List.mem_append_left _ member), fun i w member => ?_, ?_,
        fun f code quiet => ⟨?_, ?_⟩⟩
      · simpa [List.mem_append, worn, raiseFlag_mem] using member
      · have silent : Notice.report (.wear .inputWireFault n.val) ∉ writes (.status .wireFault) := by
          rw [← written]; exact report_not_mem_channelWrite _
        simp [List.mem_append, worn, raiseFlag_mem, silent]
      · rw [quiet, code, raiseFlag_clear]
      · exact List.mem_append_right _ (raiseFlag_mem.2 ⟨quiet, f, code, rfl⟩)
    · simp only [writes, target, named, ↓reduceIte]
    · intro member
      obtain ⟨w', written⟩ := write_mem_takeClass img n cfg r member
      obtain ⟨j, target, named, -⟩ := channelWrite_mem.1 written
      exact elsewhere j target named
  · intro a
    have whole : a = _ := sampleDiscrete_eq img n cfg level r
    refine ⟨sampleDiscrete_due .., fun due latch quiet f code => ?_, fun quiet still => ?_⟩
    · have again : .report (.raise f.code (.discrete n) f.severity) ∈ (r.again img n).2 :=
        rereport_mem.2 ⟨due, latch, quiet, f, code, rfl⟩
      rw [whole]
      split
      · exact List.mem_append_left _ again
      · exact again
    · have again : r.again img n = (r.reported, []) := rereport_quiet quiet
      have stays : ¬((r.debounced img n cfg.debounce (classify cfg.supervised level)).count = cfg.debounce
          ∧ r.taken ≠ some (classify cfg.supervised level)) := by
        obtain ⟨-, -, count, -⟩ := sampleDiscrete_debounces img n cfg level r
        rintro ⟨reached, other⟩
        rcases still with same | short
        · exact other same
        · exact short (count.trans reached)
      rw [whole, if_neg stays, again]
      exact ⟨rfl, congrArg Prod.fst again, rfl, rfl⟩

/-! ### Scans -/

section
variable (cfg : DiscreteConfig) (level : Nat) (r : DiscreteRun)

/-- A scan in SLEEP debounces the class beside the wake reference (R56). -/
theorem sampleWake_record :
    let c := classify cfg.supervised level
    let count := if r.wakeCandidate = some c then min cfg.debounce (r.wakeCount + 1) else 1
    (sampleWake cfg level r).1 =
      { r with wakeCandidate := some c, wakeCount := count, wakeRef := if count = cfg.debounce then some c else r.wakeRef } := by
  intro c count
  simp only [sampleWake, debounce_eq]
  by_cases reached : count = cfg.debounce
  · rw [if_pos reached, if_pos reached]
    cases ref : r.wakeRef with
    | none => rfl
    | some old =>
      by_cases same : old = c
      · simp only [c] at same
        simp only [same, ↓reduceIte, c, count]
      · simp only [c] at same
        simp only [same, ↓reduceIte, c, count]
  · rw [if_neg reached, if_neg reached]

theorem sampleWake_mem {m : Notice} : m ∈ (sampleWake cfg level r).2 ↔ m = .wake
    ∧ (sampleWake cfg level r).1.wakeCount = cfg.debounce ∧ ∃ ref, r.wakeRef = some ref ∧ ref ≠ classify cfg.supervised level := by
  rw [sampleWake_record]
  simp only [sampleWake, debounce_eq]
  by_cases reached : (if r.wakeCandidate = some (classify cfg.supervised level) then min cfg.debounce (r.wakeCount + 1) else 1) = cfg.debounce
  · rw [if_pos reached]
    cases ref : r.wakeRef with
    | none => simp
    | some old => by_cases same : old = classify cfg.supervised level <;> simp [same, reached]
  · simp [reached]

end

theorem takeSleepScan_get (levels : Tab 24 Nat) (s : State) (a : Acc Inputs) (n : Fin 24) :
    ((takeSleepScan levels s a).st.discretes.get n) =
      let cfg := s.running.discretes.get n
      if cfg.wake then (sampleWake cfg (levels.get n) (a.st.discretes.get n)).1 else a.st.discretes.get n := by
  simp only [takeSleepScan, Inputs.onDiscretes, upd_st, tellRows_get]
  split <;> rfl

theorem takeSleepScan_mem {levels : Tab 24 Nat} {s : State} {a : Acc Inputs} {m : Notice} :
    m ∈ (takeSleepScan levels s a).out ↔ m ∈ a.out ∨ ∃ n, (s.running.discretes.get n).wake = true
      ∧ m ∈ (sampleWake (s.running.discretes.get n) (levels.get n) (a.st.discretes.get n)).2 := by
  simp only [takeSleepScan, Inputs.onDiscretes, upd_out, List.mem_append, tellRows_mem]
  refine or_congr .rfl (exists_congr fun n => ?_)
  split
  · next wakes => simp [wakes]
  · next wakes => simp [wakes]

/-- Settles O35. -/
theorem sleepScanWatches : Obligations.SleepScanWatches := by
  intro levels t s due
  refine ⟨_, expiry_at _ s due, rfl, rfl, rfl, rfl, fun n => ?_, fun m member => ?_, fun quiet => ?_⟩
  · intro cfg before after c
    have record : after = _ := takeSleepScan_get levels (s.advanceTo t) ⟨s.inputs, []⟩ n
    refine ⟨fun off => record.trans (if_neg (by simp [show (s.running.discretes.get n).wake = false from off])), fun wakes => ?_⟩
    have record : after = (sampleWake cfg (levels.get n) before).1 := record.trans (if_pos wakes)
    have count := sampleWake_record cfg (levels.get n) before
    rw [record]
    refine ⟨by rw [count], by rw [count], by rw [count], by rw [count], by rw [count], fun ref had reached differs => ?_⟩
    exact List.mem_append_right _ (takeSleepScan_mem.2 (.inr ⟨n, wakes, (sampleWake_mem ..).2 ⟨rfl, reached, ref, had, differs⟩⟩))
  · rcases List.mem_append.1 member with old | new
    · exact .inl old
    · rcases takeSleepScan_mem.1 new with none | ⟨n, -, sent⟩
      · nomatch none
      · exact .inr ((sampleWake_mem ..).1 sent).1
  · have silent : (takeSleepScan levels (s.advanceTo t) ⟨s.inputs, []⟩).out = [] := by
      refine List.eq_nil_iff_forall_not_mem.2 fun m member => ?_
      rcases takeSleepScan_mem.1 member with none | ⟨n, wakes, sent⟩
      · nomatch none
      · obtain ⟨-, reached, ref, had, differs⟩ := (sampleWake_mem ..).1 sent
        refine differs (quiet n ref wakes had ?_)
        exact (congrArg DiscreteRun.wakeCount ((takeSleepScan_get levels (s.advanceTo t) ⟨s.inputs, []⟩ n).trans (if_pos wakes))).trans reached
    exact (congrArg (s.mail ++ ·) silent).trans (List.append_nil _)

/-! ### Analog channels -/

section
variable (img : Image) (n : Fin 8) (cfg : AnalogConfig) (i : Fin 256) (sample : Nat) (r : AnalogRun)

/-- The re-report that is due at a scan. -/
def AnalogRun.again (img : Image) (n : Fin 8) (r : AnalogRun) : Option Nat × List Notice :=
  rereport r.due r.latch r.reported (img.analogs.get n).fault (.analog n)

/-- The last samples with one more. -/
def AnalogRun.samples (averaging sample : Nat) (r : AnalogRun) : List Nat :=
  (r.history ++ [sample]).drop (r.history.length + 1 - averaging)

/-- A channel after its re-report and the reading of a sample. -/
def AnalogRun.sampled (img : Image) (n : Fin 8) (averaging sample : Nat) (r : AnalogRun) : AnalogRun :=
  { r with reported := (r.again img n).1, due := false, history := r.samples averaging sample }

/-- The write of a mean (R54). -/
def meanWrite (img : Image) (cfg : AnalogConfig) (i : Fin 256) (history : List Nat) : SignalWrite :=
  converted (img.signals.get i) (scale cfg.gain cfg.shift cfg.offset ((history.sum / cfg.averaging : Nat) : Int))

theorem sampleAnalog_few (few : (r.samples cfg.averaging sample).length < cfg.averaging) :
    sampleAnalog img n cfg i sample r = (r.sampled img n cfg.averaging sample, (r.again img n).2) := if_pos few

theorem sampleAnalog_inside (enough : cfg.averaging ≤ (r.samples cfg.averaging sample).length)
    (inside : cfg.low ≤ (r.samples cfg.averaging sample).sum / cfg.averaging
      ∧ (r.samples cfg.averaging sample).sum / cfg.averaging ≤ cfg.high) :
    let cleared := if r.latch then clearFlag (r.again img n).1 (.analog n) else ((r.again img n).1, [])
    sampleAnalog img n cfg i sample r =
      ({ r.sampled img n cfg.averaging sample with latch := false, reported := cleared.1 },
        (r.again img n).2 ++ channelWrite img cfg.target (.analog n) (meanWrite img cfg i (r.samples cfg.averaging sample)) ++ cleared.2) :=
  (if_neg (Nat.not_lt.2 enough)).trans (if_pos inside)

theorem sampleAnalog_outside (enough : cfg.averaging ≤ (r.samples cfg.averaging sample).length)
    (outside : ¬(cfg.low ≤ (r.samples cfg.averaging sample).sum / cfg.averaging
      ∧ (r.samples cfg.averaging sample).sum / cfg.averaging ≤ cfg.high)) :
    let raised := raiseFlag (r.again img n).1 cfg.fault (.analog n)
    sampleAnalog img n cfg i sample r =
      ({ r.sampled img n cfg.averaging sample with latch := true, reported := raised.1 },
        (r.again img n).2 ++ channelWrite img cfg.target (.analog n) (.status .wireFault)
          ++ (if r.latch then [] else [.report (.wear .inputWireFault (24 + n.val))]) ++ raised.2) :=
  (if_neg (Nat.not_lt.2 enough)).trans (if_neg outside)

theorem sampleAnalog_history : (sampleAnalog img n cfg i sample r).1.history = r.samples cfg.averaging sample := by
  by_cases few : (r.samples cfg.averaging sample).length < cfg.averaging
  · rw [sampleAnalog_few img n cfg i sample r few]; rfl
  · by_cases inside : cfg.low ≤ (r.samples cfg.averaging sample).sum / cfg.averaging
        ∧ (r.samples cfg.averaging sample).sum / cfg.averaging ≤ cfg.high
    · rw [sampleAnalog_inside img n cfg i sample r (Nat.not_lt.1 few) inside]; rfl
    · rw [sampleAnalog_outside img n cfg i sample r (Nat.not_lt.1 few) inside]; rfl

/-- With enough samples the latch is whether their mean lies outside the limits (R54, R55). -/
theorem sampleAnalog_latch :
    let history := r.samples cfg.averaging sample
    (sampleAnalog img n cfg i sample r).1.latch = if history.length < cfg.averaging then r.latch
      else decide (history.sum / cfg.averaging < cfg.low ∨ cfg.high < history.sum / cfg.averaging) := by
  intro history
  by_cases few : history.length < cfg.averaging
  · rw [sampleAnalog_few img n cfg i sample r few, if_pos few]; rfl
  · rw [if_neg few]
    by_cases inside : cfg.low ≤ history.sum / cfg.averaging ∧ history.sum / cfg.averaging ≤ cfg.high
    · rw [sampleAnalog_inside img n cfg i sample r (Nat.not_lt.1 few) inside]
      exact (decide_eq_false (by omega)).symm
    · rw [sampleAnalog_outside img n cfg i sample r (Nat.not_lt.1 few) inside]
      exact (decide_eq_true (by omega)).symm

end

section
variable (img : Image) (n : Fin 8) (cfg : AnalogConfig) (i : Fin 256) (sample : Nat) (r : AnalogRun)

theorem again_set {code : Nat} (reported : r.reported = some code) : r.again img n = (some code, []) := by
  rw [AnalogRun.again, reported]
  exact rereport_reported code

theorem worn_mem {m : Notice} : m ∈ (if r.latch then [] else [Notice.report (.wear .inputWireFault (24 + n.val))])
    ↔ r.latch = false ∧ m = .report (.wear .inputWireFault (24 + n.val)) := by
  cases r.latch <;> simp

/-- What a channel with its mean in the window sends (R54). -/
theorem sampleAnalog_inside_sends (target : cfg.target = some i)
    (enough : cfg.averaging ≤ (r.samples cfg.averaging sample).length)
    (inside : cfg.low ≤ (r.samples cfg.averaging sample).sum / cfg.averaging
      ∧ (r.samples cfg.averaging sample).sum / cfg.averaging ≤ cfg.high) :
    let a := sampleAnalog img n cfg i sample r
    ((img.signals.get i).source = .analog n → .write i (meanWrite img cfg i (r.samples cfg.averaging sample)) ∈ a.2)
      ∧ (r.latch = true → a.1.reported = none)
      ∧ (∀ code, r.latch = true → r.reported = some code → .report (.clear code (.analog n)) ∈ a.2)
      ∧ (∀ m ∈ a.2, m ∈ (r.again img n).2 ∨ (m = .write i (meanWrite img cfg i (r.samples cfg.averaging sample))
          ∧ (img.signals.get i).source = .analog n) ∨ r.latch = true ∧ ∃ code, m = .report (.clear code (.analog n))) := by
  intro a
  have whole : a = _ := sampleAnalog_inside img n cfg i sample r enough inside
  rw [whole]
  refine ⟨fun named => ?_, fun latched => ?_, fun code latched reported => ?_, fun m member => ?_⟩
  · exact List.mem_append_left _ (List.mem_append_right _ (channelWrite_mem.2 ⟨i, target, named, rfl⟩))
  · simp only [latched, ↓reduceIte, clearFlag_fst]
  · refine List.mem_append_right _ ?_
    rw [if_pos latched, again_set img n r reported]
    exact List.mem_singleton_self _
  · rcases List.mem_append.1 member with sent | cleared
    · rcases List.mem_append.1 sent with again | written
      · exact .inl again
      · obtain ⟨j, same, named, rfl⟩ := channelWrite_mem.1 written
        obtain rfl : i = j := Option.some.inj (target.symm.trans same)
        exact .inr (.inl ⟨rfl, named⟩)
    · by_cases latched : r.latch = true
      · rw [if_pos latched, clearFlag_mem] at cleared
        obtain ⟨code, -, rfl⟩ := cleared
        exact .inr (.inr ⟨latched, code, rfl⟩)
      · rw [if_neg latched] at cleared
        nomatch cleared

/-- What a channel with its mean outside the window sends (R55). -/
theorem sampleAnalog_outside_sends (target : cfg.target = some i)
    (enough : cfg.averaging ≤ (r.samples cfg.averaging sample).length)
    (outside : ¬(cfg.low ≤ (r.samples cfg.averaging sample).sum / cfg.averaging
      ∧ (r.samples cfg.averaging sample).sum / cfg.averaging ≤ cfg.high)) :
    let a := sampleAnalog img n cfg i sample r
    ((img.signals.get i).source = .analog n → .write i (.status .wireFault) ∈ a.2)
      ∧ (∀ f, cfg.fault = some f → r.reported = none → r.due = false →
          a.1.reported = some f.code ∧ .report (.raise f.code (.analog n) f.severity) ∈ a.2)
      ∧ (∀ m, m ∈ a.2 ↔ m ∈ (r.again img n).2 ∨ m = .write i (.status .wireFault) ∧ (img.signals.get i).source = .analog n
          ∨ r.latch = false ∧ m = .report (.wear .inputWireFault (24 + n.val))
          ∨ m ∈ (raiseFlag (r.again img n).1 cfg.fault (.analog n)).2) := by
  intro a
  have whole : a = _ := sampleAnalog_outside img n cfg i sample r enough outside
  have sends : ∀ m, m ∈ a.2 ↔ m ∈ (r.again img n).2 ∨ m = .write i (.status .wireFault) ∧ (img.signals.get i).source = .analog n
      ∨ r.latch = false ∧ m = .report (.wear .inputWireFault (24 + n.val))
      ∨ m ∈ (raiseFlag (r.again img n).1 cfg.fault (.analog n)).2 := fun m => by
    rw [whole]
    simp only [List.mem_append, worn_mem, channelWrite_mem, target, Option.some.injEq]
    constructor
    · rintro (((again | ⟨j, rfl, named, rfl⟩) | worn) | raised)
      · exact .inl again
      · exact .inr (.inl ⟨rfl, named⟩)
      · exact .inr (.inr (.inl worn))
      · exact .inr (.inr (.inr raised))
    · rintro (again | ⟨rfl, named⟩ | worn | raised)
      · exact .inl (.inl (.inl again))
      · exact .inl (.inl (.inr ⟨i, rfl, named, rfl⟩))
      · exact .inl (.inr worn)
      · exact .inr raised
  refine ⟨fun named => (sends _).2 (.inr (.inl ⟨rfl, named⟩)), fun f code quiet fresh => ?_, sends⟩
  have again : r.again img n = (none, []) := (rereport_quiet (.inl fresh)).trans (by rw [quiet])
  refine ⟨?_, (sends _).2 (.inr (.inr (.inr (raiseFlag_mem.2 ⟨congrArg Prod.fst again, f, code, rfl⟩))))⟩
  rw [whole, again, code]
  rfl

/-- A re-report sends nothing but a raise. -/
theorem again_mem {m : Notice} (member : m ∈ (r.again img n).2) : r.due = true ∧ r.latch = true
    ∧ ∃ f, (img.analogs.get n).fault = some f ∧ m = .report (.raise f.code (.analog n) f.severity) := by
  obtain ⟨due, latch, -, raised⟩ := rereport_mem.1 member
  exact ⟨due, latch, raised⟩

end

theorem takeScan_discrete (levels : Tab 24 Nat) (samples : Tab 8 Nat) (s : State) (a : Acc Inputs) (n : Fin 24) :
    (takeScan levels samples s a).st.discretes.get n =
      let cfg := s.running.discretes.get n
      if cfg.target ≠ none ∨ cfg.wake = true then (sampleDiscrete s.image n cfg (levels.get n) (a.st.discretes.get n)).1
      else a.st.discretes.get n := by
  have covered : ∀ cfg : DiscreteConfig, (cfg.target.isSome || cfg.wake) = true ↔ cfg.target ≠ none ∨ cfg.wake = true := fun cfg => by
    cases cfg.target <;> simp
  simp only [takeScan, Inputs.onDiscretes, Inputs.onAnalogs, upd_st, tellRows_get, covered]
  split <;> rfl

theorem takeScan_analog (levels : Tab 24 Nat) (samples : Tab 8 Nat) (s : State) (a : Acc Inputs) (n : Fin 8) :
    (takeScan levels samples s a).st.analogs.get n = match (s.running.analogs.get n).target with
      | some i => (sampleAnalog s.image n (s.running.analogs.get n) i (samples.get n) (a.st.analogs.get n)).1
      | none => a.st.analogs.get n := by
  simp only [takeScan, Inputs.onDiscretes, Inputs.onAnalogs, upd_st, tellRows_get]
  cases (s.running.analogs.get n).target <;> rfl

theorem takeScan_mem {levels : Tab 24 Nat} {samples : Tab 8 Nat} {s : State} {a : Acc Inputs} {m : Notice} :
    m ∈ (takeScan levels samples s a).out ↔ m ∈ a.out
      ∨ (∃ n, ((s.running.discretes.get n).target ≠ none ∨ (s.running.discretes.get n).wake = true)
          ∧ m ∈ (sampleDiscrete s.image n (s.running.discretes.get n) (levels.get n) (a.st.discretes.get n)).2)
      ∨ ∃ n i, (s.running.analogs.get n).target = some i
          ∧ m ∈ (sampleAnalog s.image n (s.running.analogs.get n) i (samples.get n) (a.st.analogs.get n)).2 := by
  simp only [takeScan, Inputs.onDiscretes, Inputs.onAnalogs, upd_out, List.mem_append, tellRows_mem, or_assoc]
  refine or_congr .rfl (or_congr (exists_congr fun n => ?_) (exists_congr fun n => ?_))
  · cases (s.running.discretes.get n).target <;> cases (s.running.discretes.get n).wake <;> simp
  · cases (s.running.analogs.get n).target <;> simp

/-- What an analog channel sends at a scan (R53 to R55, R58). -/
theorem sampleAnalog_sends (img : Image) (n : Fin 8) (cfg : AnalogConfig) (i : Fin 256) (sample : Nat) (r : AnalogRun)
    (target : cfg.target = some i) :
    let a := sampleAnalog img n cfg i sample r
    let enough := cfg.averaging ≤ a.1.history.length
    let mean : Nat := a.1.history.sum / cfg.averaging
    let inside := cfg.low ≤ mean ∧ mean ≤ cfg.high
    let named := (img.signals.get i).source = .analog n
    (enough → inside →
        (named →
          let limits := img.signals.get i
          let v := scale cfg.gain cfg.shift cfg.offset mean
          .write i (.converted (clamp limits.min limits.max v) (decide (clamp limits.min limits.max v ≠ v))) ∈ a.2)
        ∧ (r.latch = true → a.1.reported = none)
        ∧ ∀ code, r.latch = true → r.reported = some code → .report (.clear code (.analog n)) ∈ a.2)
      ∧ (enough → ¬inside →
          (named → .write i (.status .wireFault) ∈ a.2)
          ∧ (.report (.wear .inputWireFault (24 + n.val)) ∈ a.2 ↔ r.latch = false)
          ∧ ∀ f, cfg.fault = some f → r.reported = none → r.due = false →
              a.1.reported = some f.code ∧ .report (.raise f.code (.analog n) f.severity) ∈ a.2)
      ∧ (¬enough ∨ ¬named → ∀ j w, .write j w ∉ a.2)
      ∧ (r.due = false ∨ r.latch = false →
          let writes := fun w : SignalWrite => if named then [Notice.write i w] else []
          (¬enough → a.2 = [])
          ∧ (enough → inside → a.2 = writes (converted (img.signals.get i) (scale cfg.gain cfg.shift cfg.offset mean))
              ++ (match r.latch, r.reported with | true, some code => [.report (.clear code (.analog n))] | _, _ => []))
          ∧ (enough → ¬inside → a.2 = writes (.status .wireFault)
              ++ (if r.latch then [] else [.report (.wear .inputWireFault (24 + n.val))])
              ++ (match r.reported, cfg.fault with
                  | none, some f => [.report (.raise f.code (.analog n) f.severity)]
                  | _, _ => [])))
      ∧ (r.due = true → r.latch = true → ∀ m, m ∈ a.2 →
          (∃ w, m = .write i w) ∨ (∃ code, m = .report (.clear code (.analog n)))
            ∨ (∃ f, (img.analogs.get n).fault = some f ∧ m = .report (.raise f.code (.analog n) f.severity))
            ∨ ∃ f, cfg.fault = some f ∧ m = .report (.raise f.code (.analog n) f.severity)) := by
  intro a enough mean inside named
  have history : a.1.history = r.samples cfg.averaging sample := sampleAnalog_history ..
  have enoughIff : enough ↔ cfg.averaging ≤ (r.samples cfg.averaging sample).length := by simp only [enough, history]
  have insideIff : inside ↔ cfg.low ≤ (r.samples cfg.averaging sample).sum / cfg.averaging
      ∧ (r.samples cfg.averaging sample).sum / cfg.averaging ≤ cfg.high := by simp only [inside, mean, history]
  have value : converted (img.signals.get i) (scale cfg.gain cfg.shift cfg.offset mean) = meanWrite img cfg i (r.samples cfg.averaging sample) := by
    simp only [mean, history, meanWrite]
  have few : ¬enough → a = (r.sampled img n cfg.averaging sample, (r.again img n).2) := fun h =>
    sampleAnalog_few img n cfg i sample r (Nat.not_le.1 (mt enoughIff.2 h))
  have within := fun (h : enough) (h' : inside) => sampleAnalog_inside_sends img n cfg i sample r target (enoughIff.1 h) (insideIff.1 h')
  have beyond := fun (h : enough) (h' : ¬inside) => sampleAnalog_outside_sends img n cfg i sample r target (enoughIff.1 h) (mt insideIff.2 h')
  refine ⟨fun h h' => ?_, fun h h' => ?_, fun none j w member => ?_, fun quiet => ?_, fun due latched m member => ?_⟩
  · obtain ⟨writes, ended, clears, -⟩ := within h h'
    rw [← value] at writes
    exact ⟨writes, ended, clears⟩
  · obtain ⟨writes, raises, sends⟩ := beyond h h'
    refine ⟨writes, ?_, raises⟩
    rw [sends]
    constructor
    · rintro (again | ⟨h, -⟩ | ⟨new, -⟩ | raised)
      · obtain ⟨-, -, f, -, h⟩ := again_mem img n r again
        nomatch h
      · nomatch h
      · exact new
      · simp [raiseFlag_mem] at raised
    · exact fun new => .inr (.inr (.inl ⟨new, rfl⟩))
  · by_cases h : enough
    · have other : ¬named := none.resolve_left (not_not.2 h)
      by_cases h' : inside
      · obtain ⟨-, -, -, sends⟩ := within h h'
        rcases sends _ member with again | ⟨-, is⟩ | ⟨-, code, h⟩
        · obtain ⟨-, -, f, -, h⟩ := again_mem img n r again
          nomatch h
        · exact other is
        · nomatch h
      · obtain ⟨-, -, sends⟩ := beyond h h'
        rcases (sends _).1 member with again | ⟨-, is⟩ | ⟨-, h⟩ | raised
        · obtain ⟨-, -, f, -, h⟩ := again_mem img n r again
          nomatch h
        · exact other is
        · nomatch h
        · simp [raiseFlag_mem] at raised
    · rw [few h] at member
      obtain ⟨-, -, f, -, h⟩ := again_mem img n r member
      nomatch h
  · intro writes
    have again : r.again img n = (r.reported, []) := rereport_quiet quiet
    have written : ∀ w, channelWrite img cfg.target (.analog n) w = writes w := fun w => by rw [channelWrite_eq, target]
    refine ⟨fun h => by rw [few h, again], fun h h' => ?_, fun h h' => ?_⟩
    · have whole : a = _ := sampleAnalog_inside img n cfg i sample r (enoughIff.1 h) (insideIff.1 h')
      rw [whole, again, value, written]
      cases r.latch <;> cases r.reported <;> rfl
    · have whole : a = _ := sampleAnalog_outside img n cfg i sample r (enoughIff.1 h) (mt insideIff.2 h')
      rw [whole, again, written]
      cases r.reported <;> cases cfg.fault <;> rfl
  · by_cases h : enough
    · by_cases h' : inside
      · obtain ⟨-, -, -, sends⟩ := within h h'
        rcases sends _ member with again | ⟨is, -⟩ | ⟨-, code, is⟩
        · exact .inr (.inr (.inl (again_mem img n r again).2.2))
        · exact .inl ⟨_, is⟩
        · exact .inr (.inl ⟨code, is⟩)
      · obtain ⟨-, -, sends⟩ := beyond h h'
        rcases (sends _).1 member with again | ⟨is, -⟩ | ⟨new, -⟩ | raised
        · exact .inr (.inr (.inl (again_mem img n r again).2.2))
        · exact .inl ⟨_, is⟩
        · rw [latched] at new
          nomatch new
        · exact .inr (.inr (.inr (raiseFlag_mem.1 raised).2))
    · rw [few h] at member
      exact .inr (.inr (.inl (again_mem img n r member).2.2))

/-- Settles O33. -/
theorem scanSamples : Obligations.ScanSamples := by
  refine ⟨fun levels samples t s due => ⟨_, expiry_at _ s due, rfl, ?_, fun n => ?_, fun n => ?_, fun m member => ?_, rfl⟩, sampleAnalog_sends⟩
  · change s.now + (t - s.now) = _
    omega
  · intro cfg before after c
    have record : after = _ := takeScan_discrete levels samples (s.advanceTo t) ⟨s.inputs, []⟩ n
    refine ⟨fun untargeted dull => record.trans (if_neg ?_), fun covered => ?_⟩
    · rintro (h | h)
      · exact h untargeted
      · exact absurd (h.symm.trans dull) (by decide)
    · intro a
      have record : after = a.1 := record.trans (if_pos covered)
      obtain ⟨-, candidate, count, taken⟩ := sampleDiscrete_debounces s.image n cfg (levels.get n) before
      rw [record]
      refine ⟨rfl, fun m sent => List.mem_append_right _ (takeScan_mem.2 (.inr (.inl ⟨n, covered, sent⟩))), candidate, count, taken⟩
  · intro cfg before after history
    have record : after = _ := takeScan_analog levels samples (s.advanceTo t) ⟨s.inputs, []⟩ n
    refine ⟨fun untargeted => ?_, fun i target => ?_, fun targeted short least => ?_⟩
    · rw [record, show ((s.advanceTo t).running.analogs.get n).target = none from untargeted]
    · rw [record, show ((s.advanceTo t).running.analogs.get n).target = some i from target]
      exact ⟨rfl, fun m sent => List.mem_append_right _ (takeScan_mem.2 (.inr (.inr ⟨n, i, target, sent⟩)))⟩
    · obtain ⟨i, target⟩ := Option.ne_none_iff_exists'.1 targeted
      rw [show ((s.advanceTo t).running.analogs.get n).target = some i from target] at record
      have samplesAre : after.history = before.samples cfg.averaging (samples.get n) := by rw [record]; exact sampleAnalog_history ..
      have latch := sampleAnalog_latch s.image n cfg i (samples.get n) before
      have length : history.length = before.history.length + 1 := by simp [history]
      rw [samplesAre, record]
      refine ⟨fun room => ?_, fun full => ?_, fun few => latch.trans (if_pos few), fun enough => latch.trans (if_neg (by omega))⟩
      · rw [AnalogRun.samples, show before.history.length + 1 - cfg.averaging = 0 by omega]
        rfl
      · rw [AnalogRun.samples, show before.history.length + 1 - cfg.averaging = 1 by omega, List.drop_one]
  · rcases List.mem_append.1 member with old | new
    · exact .inl old
    · rcases takeScan_mem.1 new with none | sent
      · nomatch none
      · exact .inr sent

end Sys2Proof.Machine
end

section
/-! PROOFS. DoorProofs: the doors' state changes, their timers, their evaluation and the summaries (R62 to R79). -/

namespace Sys2Proof.Machine

/-! ### State changes -/

section
variable {img : Image} {d : Fin 6} {cfg : DoorConfig} {now : Nat} {st : DoorState} {r : DoorRun} {m : Notice}

theorem derivedWrite_eq (img : Image) (target : Option (Fin 256)) (p : Producer) (v : Int) :
    derivedWrite img target p v = match target with
      | some i => if (img.signals.get i).source = .derived p then [.write i (.bare v)] else []
      | none => [] := by
  cases target <;> simp [derivedWrite]

/-- A closing is completed by a change to the state `st` (R73). -/
def DoorRun.Completes (r : DoorRun) (st : DoorState) : Prop :=
  (r.state = .closing ∨ r.state = .reversing) ∧ (st = .closed ∨ st = .released)

theorem doorWear_mem : m ∈ doorWear d cfg now r st ↔
    (r.Completes st ∧ r.reachedOpen = true ∧ m = .report (.wear .doorCycle d.val))
      ∨ (r.Completes st ∧ (cfg.slow ≠ 0 ∧ ∃ t, r.closingStart = some t ∧ cfg.slow * 100 < now - t)
        ∧ m = .report (.wear .doorSlowClose d.val))
      ∨ (st = .fault ∧ m = .report (.wear .doorFault d.val)) := by
  unfold doorWear DoorRun.Completes
  cases r.closingStart <;> simp [List.mem_append, and_assoc]

theorem enterDoor_same (h : st = r.state) : enterDoor img d cfg now st r = (r, []) := if_pos h

@[simp] theorem enterDoor_state : (enterDoor img d cfg now st r).1.state = st := by
  unfold enterDoor
  split
  · next same => exact same.symm
  · rfl

@[simp] theorem enterDoor_due : (enterDoor img d cfg now st r).1.due = r.due := by
  unfold enterDoor
  split <;> rfl

@[simp] theorem enterDoor_views : (enterDoor img d cfg now st r).1.views = r.views := by
  unfold enterDoor
  split <;> rfl

/-- The report of a door that goes to another state (R74). -/
def DoorRun.changeReport (img : Image) (d : Fin 6) (st : DoorState) (r : DoorRun) : Option Nat × List Notice :=
  if st == .fault then raiseFlag r.reported (img.doors.get d).fault (.door d)
  else if r.state == .fault then clearFlag r.reported (.door d)
  else (r.reported, [])

theorem enterDoor_other (h : st ≠ r.state) : enterDoor img d cfg now st r =
    ({ r with
        state := st
        travel := if st = .opening ∨ st = .closing ∨ st = .reversing then some (now + cfg.travel * 100) else none
        plausibility := none
        closingStart := if st = .closing then some now else r.closingStart
        reachedOpen := if st = .opened then true
          else if st = .closed ∨ st = .released ∨ st = .unknown then false else r.reachedOpen
        reported := (r.changeReport img d st).1
        request := cfg.lampFor st },
      derivedWrite img cfg.stateSignal (.door d) st.code ++ [.doorRequest d (cfg.lampFor st), .activity]
        ++ doorWear d cfg now r st ++ (r.changeReport img d st).2) := by
  unfold enterDoor
  rw [if_neg h]
  cases st <;> rfl

theorem enterDoor_mem (h : st ≠ r.state) : m ∈ (enterDoor img d cfg now st r).2 ↔
    m ∈ derivedWrite img cfg.stateSignal (.door d) st.code ∨ m = .doorRequest d (cfg.lampFor st) ∨ m = .activity
      ∨ m ∈ doorWear d cfg now r st ∨ m ∈ (r.changeReport img d st).2 := by
  rw [enterDoor_other h]
  simp

end

/-! ### Summaries -/

/-- The Door Supervisor after the record of door `d` has become `r` and `out` has been sent. -/
def Doors.withDoor (d : Fin 6) (t : Told DoorRun) (a : Acc Doors) : Acc Doors :=
  ⟨{ a.st with doors := a.st.doors.set d t.1 }, a.out ++ t.2⟩

theorem onDoor_eq (d : Fin 6) (f : DoorRun → Told DoorRun) (s : State) (a : Acc Doors) :
    Doors.onDoor d f s a = if (f (a.st.doors.get d)).1.state = (a.st.doors.get d).state then
        Doors.withDoor d (f (a.st.doors.get d)) a
      else summarize false s (Doors.withDoor d (f (a.st.doors.get d)) a) := by
  simp only [Doors.onDoor, tellRow_fst, tellRow_snd, Tab.get_set_self]
  rfl

@[simp] theorem summarize_doors (always : Bool) (s : State) (a : Acc Doors) : (summarize always s a).st.doors = a.st.doors := rfl

theorem summarize_out (always : Bool) (s : State) (a : Acc Doors) : (summarize always s a).out = a.out
    ++ (if always = true ∨ (summarize always s a).st.allClosed ≠ a.st.allClosed then
        derivedWrite s.image s.running.general.allClosed .allClosed (if (summarize always s a).st.allClosed then 1 else 0)
          ++ [.allClosed (summarize always s a).st.allClosed]
      else [])
    ++ (if always = true ∨ (summarize always s a).st.openMoving ≠ a.st.openMoving then
        derivedWrite s.image s.running.general.openMoving .openMoving (if (summarize always s a).st.openMoving then 1 else 0)
      else [])
    ++ [.record .doors (doorsContent a.st.doors (summarize always s a).st.allClosed)] := by
  simp only [summarize, Acc.sayAll, Acc.upd, List.append_assoc, Bool.or_eq_true, bne_iff_ne]

theorem mem_summarize {always : Bool} {s : State} {a : Acc Doors} {m : Notice} (h : m ∈ a.out) : m ∈ (summarize always s a).out := by
  simp [summarize_out, h]

theorem summarize_allClosed (always : Bool) (s : State) (a : Acc Doors) : (summarize always s a).st.allClosed = true ↔
    ∀ d, (s.running.doors.get d).enabled = true → (a.st.doors.get d).state = .closed := by
  change allDoorsClosed s.running.doors a.st.doors = true ↔ _
  simp only [allDoorsClosed, List.all_eq_true, List.mem_finRange, true_implies, Bool.or_eq_true, Bool.not_eq_true', beq_iff_eq]
  refine forall_congr' fun d => ?_
  cases (s.running.doors.get d).enabled <;> simp

theorem summarize_openMoving (always : Bool) (s : State) (a : Acc Doors) : (summarize always s a).st.openMoving = true ↔
    s.moving = true ∧ ∃ d, (s.running.doors.get d).enabled = true ∧ (a.st.doors.get d).state ≠ .closed
      ∧ (a.st.doors.get d).state ≠ .released := by
  change (s.moving && anyDoorOpen s.running.doors a.st.doors) = true ↔ _
  simp [anyDoorOpen, and_assoc]

theorem list_of_six {α : Type} (t : Tab 6 α) : t.list = [t.get 0, t.get 1, t.get 2, t.get 3, t.get 4, t.get 5] := by
  refine List.ext_getElem t.ok fun i _ small => ?_
  simp only [List.length_cons, List.length_nil] at small
  interval_cases i <;> rfl

theorem doorsContent_eq (doors : Tab 6 DoorRun) (closed : Bool) : doorsContent doors closed =
    [byte (doors.get 0).state.code, byte (doors.get 1).state.code, byte (doors.get 2).state.code, byte (doors.get 3).state.code,
      byte (doors.get 4).state.code, byte (doors.get 5).state.code, flagByte closed] ++ List.replicate 5 0 := by
  simp only [doorsContent, list_of_six]
  rfl

/-! ### Timers -/

/-- A door that a timer takes to FAULT. -/
theorem enterDoor_fault {img : Image} {d : Fin 6} {cfg : DoorConfig} {now : Nat} (r : DoorRun) :
    let t := enterDoor img d cfg now .fault { r with travel := none, plausibility := none, due := false }
    t.1.state = .fault ∧ t.1.travel = none ∧ t.1.plausibility = none ∧ t.1.due = false ∧ t.1.views = r.views
      ∧ (r.state ≠ .fault → .report (.wear .doorFault d.val) ∈ t.2 ∧ .activity ∈ t.2
        ∧ ∀ f, (img.doors.get d).fault = some f → r.reported = none → .report (.raise f.code (.door d) f.severity) ∈ t.2) := by
  intro t
  by_cases same : .fault = r.state
  · have stays : t = _ := enterDoor_same (r := { r with travel := none, plausibility := none, due := false }) same
    rw [stays]
    exact ⟨same.symm, rfl, rfl, rfl, rfl, fun other => absurd same.symm other⟩
  · have other : .fault ≠ ({ r with travel := none, plausibility := none, due := false } : DoorRun).state := same
    have record : t = _ := enterDoor_other other
    refine ⟨enterDoor_state, ?_, ?_, enterDoor_due, enterDoor_views, fun _ => ⟨?_, ?_, fun f coded clear => ?_⟩⟩
    · rw [record]
      rfl
    · rw [record]
    · exact (enterDoor_mem other).2 (.inr (.inr (.inr (.inl (doorWear_mem.2 (.inr (.inr ⟨rfl, rfl⟩)))))))
    · exact (enterDoor_mem other).2 (.inr (.inr (.inl rfl)))
    · exact (enterDoor_mem other).2 (.inr (.inr (.inr (.inr (raiseFlag_mem.2 ⟨clear, f, coded, rfl⟩)))))

/-- What the expiry of a timer of door `d` does to the Door Supervisor. -/
theorem doorExpiry_faults (d : Fin 6) (s : State) (a : Acc Doors) :
    let u := doorExpiry d s a
    let t := enterDoor s.image d (s.running.doors.get d) s.now .fault
      { a.st.doors.get d with travel := none, plausibility := none, due := false }
    u.st.doors = a.st.doors.set d t.1 ∧ (∀ m ∈ t.2, m ∈ u.out)
      ∧ ((a.st.doors.get d).state ≠ .fault → (s.running.doors.get d).enabled = true →
        u.st.allClosed = false ∧ u.st.interlock = true) := by
  intro u t
  have eq : u = _ := onDoor_eq d (fun r => enterDoor s.image d (s.running.doors.get d) s.now .fault
    { r with travel := none, plausibility := none, due := false }) s a
  rw [eq]
  split
  · next same =>
    exact ⟨rfl, fun m sent => List.mem_append_right _ sent, fun other => absurd (same.symm.trans enterDoor_state) other⟩
  · refine ⟨rfl, fun m sent => mem_summarize (List.mem_append_right _ sent), fun _ enabled => ?_⟩
    set v := summarize false s (Doors.withDoor d t a) with hv
    have notClosed : v.st.allClosed = false := by
      rw [Bool.eq_false_iff]
      intro closed
      have := (summarize_allClosed ..).1 closed d enabled
      simp [Doors.withDoor, t] at this
    refine ⟨notClosed, Bool.not_eq_false _ ▸ fun released => ?_⟩
    have := ((summarize_safe false s (Doors.withDoor d t a)).2.1 released).2
    exact absurd (this.symm.trans notClosed) (by decide)

/-- Settles O36. -/
theorem doorTimersFault : Obligations.DoorTimersFault := by
  intro d t s ends
  have ended : ends (.next (finish ((s.advanceTo t).runDoors (doorExpiry d)))) := by
    obtain ⟨doors, sent, summary⟩ := doorExpiry_faults d (s.advanceTo t) ⟨s.doors, []⟩
    obtain ⟨state, travel, plausibility, due, views, changed⟩ := enterDoor_fault (img := s.image) (d := d)
      (cfg := s.running.doors.get d) (now := (s.advanceTo t).now) (s.doors.doors.get d)
    refine ⟨_, rfl, rfl, ?_⟩
    have row : ((s.advanceTo t).runDoors (doorExpiry d)).doors.doors = _ := doors
    rw [row, Tab.get_set_self]
    refine ⟨state, travel, plausibility, due, views, fun k other => Tab.get_set_ne _ _ other, fun notFault => ?_⟩
    obtain ⟨wear, activity, raises⟩ := changed notFault
    exact ⟨List.mem_append_right _ (sent _ wear), List.mem_append_right _ (sent _ activity),
      fun f coded clear => List.mem_append_right _ (sent _ (raises f coded clear)), summary notFault⟩
  obtain ⟨u, ended, rest⟩ := ended
  exact ⟨fun due => ⟨u, (expiry_at _ s due).trans ended, rest⟩, fun due => ⟨u, (expiry_at _ s due).trans ended, rest⟩⟩

/-! ### Evaluation -/

/-- The state after an evaluation (R64 to R69). -/
def DoorRun.evaluated (cfg : DoorConfig) (r : DoorRun) : DoorState :=
  if r.views.handle = some .asserted then .emergency
  else if requiredInvalid cfg r.views = true then if r.state = .emergency ∨ r.state = .fault then r.state else .unknown
  else if conflict cfg r.views = true then r.state
  else doorTable cfg r.views r.state

/-- The plausibility timer at an evaluation that changes no state (R66). -/
def DoorRun.plausible (cfg : DoorConfig) (now : Nat) (r : DoorRun) : Option Nat :=
  if r.views.handle = some .asserted ∨ requiredInvalid cfg r.views = true then none
  else if conflict cfg r.views = true then
    if r.state ≠ .fault ∧ r.plausibility = none then some (now + Config.plausibilityMs) else r.plausibility
  else none

/-- The record in which an evaluation comes to its outcome: re-reported (R74), with the plausibility timer as it then stands. -/
def DoorRun.marked (img : Image) (d : Fin 6) (cfg : DoorConfig) (now : Nat) (r : DoorRun) : DoorRun :=
  { r with reported := (doorRereport img d r).1, due := false, plausibility := r.plausible cfg now }

section
variable {img : Image} {d : Fin 6} {cfg : DoorConfig} {now : Nat} {r : DoorRun} {m : Notice}

/-- Every evaluation is a change to the evaluated state, which sends nothing where that is the present one. -/
theorem evaluateDoor_eq (img : Image) (d : Fin 6) (cfg : DoorConfig) (now : Nat) (r : DoorRun) :
    let t := enterDoor img d cfg now (r.evaluated cfg) (r.marked img d cfg now)
    evaluateDoor img d cfg now r = (t.1, (doorRereport img d r).2 ++ t.2) := by
  intro t
  simp only [evaluateDoor, t, DoorRun.evaluated, DoorRun.marked, DoorRun.plausible, beq_iff_eq]
  by_cases handle : r.views.handle = some .asserted
  · simp only [handle, ↓reduceIte, true_or]
  by_cases invalid : requiredInvalid cfg r.views = true
  · simp only [handle, invalid, ↓reduceIte, or_true, Bool.or_eq_true, beq_iff_eq]
    split
    · exact congrArg (fun e : Told DoorRun => (e.1, (doorRereport img d r).2 ++ e.2)) (enterDoor_same rfl).symm
    · rfl
  by_cases both : conflict cfg r.views = true
  · simp only [handle, invalid, both, ↓reduceIte, or_self, Bool.false_eq_true, Bool.and_eq_true, bne_iff_ne,
      Option.isNone_iff_eq_none]
    refine Eq.trans ?_ (congrArg (fun e : Told DoorRun => (e.1, (doorRereport img d r).2 ++ e.2)) (enterDoor_same (by rfl)).symm)
    split <;> rfl
  · simp only [handle, invalid, both, ↓reduceIte, or_self, Bool.false_eq_true]

@[simp] theorem evaluateDoor_state : (evaluateDoor img d cfg now r).1.state = r.evaluated cfg := by
  rw [evaluateDoor_eq]
  exact enterDoor_state

theorem evaluateDoor_same (h : r.evaluated cfg = r.state) :
    evaluateDoor img d cfg now r = (r.marked img d cfg now, (doorRereport img d r).2) := by
  rw [evaluateDoor_eq, enterDoor_same (r := r.marked img d cfg now) h]
  exact congrArg (Prod.mk _) (List.append_nil _)

theorem requiredInvalid_iff {v : Views} : requiredInvalid cfg v = true ↔ v.closed = some .invalid
    ∨ (if cfg.opened ≠ none then v.opened = some .invalid else v.release = some .invalid) := by
  unfold requiredInvalid
  cases cfg.opened <;> simp

theorem conflict_iff {v : Views} : conflict cfg v = true ↔
    cfg.opened ≠ none ∧ v.closed = some .asserted ∧ v.opened = some .asserted := by
  unfold conflict
  cases cfg.opened <;> simp

theorem openIndication_iff {v : Views} : openIndication cfg v = true ↔
    if cfg.opened ≠ none then v.opened = some .asserted else v.closed = some .notAsserted ∧ v.release = some .asserted := by
  unfold openIndication
  cases cfg.opened <;> simp

section
variable {v : Views} {present : DoorState}

theorem doorTable_opened (h : openIndication cfg v = true) :
    doorTable cfg v present = if present = .emergency then .emergency else .opened := by
  simp only [doorTable, picture, h, ↓reduceIte]
  cases present <;> rfl

theorem doorTable_closed (h : openIndication cfg v = false) (closed : v.closed = some .asserted) :
    doorTable cfg v present = if v.release = some .asserted then .released else .closed := by
  simp [doorTable, picture, h, closed, closedOrReleased]

theorem doorTable_midway (h : openIndication cfg v = false) (closed : v.closed ≠ some .asserted) :
    let moving : DoorState := if v.edge = some .asserted then .reversing else .closing
    (present = .opening ∨ present = .emergency ∨ present = .fault → doorTable cfg v present = present)
      ∧ (present = .closed ∨ present = .released → doorTable cfg v present = if cfg.opened ≠ none then .opening else moving)
      ∧ (present = .unknown ∨ present = .opened ∨ present = .closing ∨ present = .reversing →
        doorTable cfg v present = moving) := by
  have midway : picture cfg v = .midway := by simp [picture, h, closed]
  simp only [doorTable, midway, closingEdge, beq_iff_eq, Option.isSome_iff_ne_none]
  refine ⟨?_, ?_, ?_⟩
  · rintro (rfl | rfl | rfl) <;> rfl
  · rintro (rfl | rfl) <;> rfl
  · rintro (rfl | rfl | rfl | rfl) <;> rfl

theorem doorTable_fault (h : doorTable cfg v present = .fault) : present = .fault := by
  cases opened : openIndication cfg v with
  | true =>
    rw [doorTable_opened opened] at h
    split at h <;> nomatch h
  | false =>
    by_cases closed : v.closed = some .asserted
    · rw [doorTable_closed opened closed] at h
      split at h <;> nomatch h
    · obtain ⟨-, shut, moving⟩ := doorTable_midway (cfg := cfg) (present := present) opened closed
      cases present with
      | fault => rfl
      | opening => exact absurd ((doorTable_midway opened closed).1 (.inl rfl) ▸ h) (by decide)
      | emergency => exact absurd ((doorTable_midway opened closed).1 (.inr (.inl rfl)) ▸ h) (by decide)
      | closed | released =>
        rw [shut (by simp)] at h
        split at h
        · nomatch h
        · split at h <;> nomatch h
      | _ =>
        rw [moving (by simp)] at h
        split at h <;> nomatch h

end

/-- No evaluation takes a door to FAULT. -/
theorem evaluated_fault (h : r.evaluated cfg = .fault) : r.state = .fault := by
  unfold DoorRun.evaluated at h
  split at h
  · nomatch h
  · split at h
    · split at h
      · exact h
      · nomatch h
    · split at h
      · exact h
      · exact doorTable_fault h

theorem evaluated_handle (h : r.views.handle = some .asserted) : r.evaluated cfg = .emergency := if_pos h

theorem evaluated_invalid (handle : r.views.handle ≠ some .asserted) (h : requiredInvalid cfg r.views = true) :
    r.evaluated cfg = (if r.state = .emergency ∨ r.state = .fault then r.state else .unknown) ∧ r.plausible cfg now = none :=
  ⟨(if_neg handle).trans (if_pos h), if_pos (.inr h)⟩

theorem evaluated_conflict (handle : r.views.handle ≠ some .asserted) (valid : ¬requiredInvalid cfg r.views = true)
    (h : conflict cfg r.views = true) : r.evaluated cfg = r.state
      ∧ (r.state ≠ .fault → r.plausibility = none → r.plausible cfg now = some (now + 200)) :=
  ⟨((if_neg handle).trans (if_neg valid)).trans (if_pos h), fun working idle =>
    ((if_neg (not_or.2 ⟨handle, valid⟩)).trans (if_pos h)).trans (if_pos ⟨working, idle⟩)⟩

theorem evaluated_table (handle : r.views.handle ≠ some .asserted) (valid : ¬requiredInvalid cfg r.views = true)
    (h : ¬conflict cfg r.views = true) : r.evaluated cfg = doorTable cfg r.views r.state ∧ r.plausible cfg now = none :=
  ⟨((if_neg handle).trans (if_neg valid)).trans (if_neg h), (if_neg (not_or.2 ⟨handle, valid⟩)).trans (if_neg h)⟩

/-- The plausibility timer after an evaluation: stopped by a change of state, and where a change would stop it anyway. -/
theorem evaluateDoor_plausibility : (evaluateDoor img d cfg now r).1.plausibility =
    if r.evaluated cfg = r.state then r.plausible cfg now else none := by
  split
  · next same => rw [evaluateDoor_same same]; rfl
  · next other => rw [evaluateDoor_eq, enterDoor_other (r := r.marked img d cfg now) other]

theorem doorRereport_mem : m ∈ (doorRereport img d r).2 ↔ r.due = true ∧ r.state = .fault ∧ r.reported = none
    ∧ ∃ f, (img.doors.get d).fault = some f ∧ m = .report (.raise f.code (.door d) f.severity) := by
  unfold doorRereport
  split
  · next h =>
    obtain ⟨due, fault⟩ : r.due = true ∧ r.state = .fault := by simpa using h
    simp [raiseFlag_mem, due, fault]
  · next h => simpa using fun due fault => absurd (by simp [due, fault]) h

theorem doorRereport_silent (h : r.due = false ∨ r.state ≠ .fault) : doorRereport img d r = (r.reported, []) :=
  h.elim doorRereport_not_due doorRereport_not_fault

/-- What an evaluation that changes the state sends. -/
theorem evaluateDoor_mem (other : r.evaluated cfg ≠ r.state) : m ∈ (evaluateDoor img d cfg now r).2 ↔
    m ∈ (doorRereport img d r).2 ∨ m ∈ derivedWrite img cfg.stateSignal (.door d) (r.evaluated cfg).code
      ∨ m = .doorRequest d (cfg.lampFor (r.evaluated cfg)) ∨ m = .activity
      ∨ m ∈ doorWear d cfg now (r.marked img d cfg now) (r.evaluated cfg)
      ∨ m ∈ ((r.marked img d cfg now).changeReport img d (r.evaluated cfg)).2 := by
  rw [evaluateDoor_eq, List.mem_append, enterDoor_mem (r := r.marked img d cfg now) other]

/-- The report of an evaluation that changes the state: only of leaving FAULT, since none enters it. -/
theorem changeReport_evaluated (other : r.evaluated cfg ≠ r.state) :
    (r.marked img d cfg now).changeReport img d (r.evaluated cfg) =
      if r.state = .fault then clearFlag (doorRereport img d r).1 (.door d) else (r.reported, []) := by
  have notFault : (r.evaluated cfg == .fault) = false := by
    rw [beq_eq_false_iff_ne]
    exact fun fault => other (fault.trans (evaluated_fault fault).symm)
  simp only [DoorRun.changeReport, notFault, Bool.false_eq_true, ↓reduceIte]
  by_cases fault : r.state = .fault
  · simp [fault, DoorRun.marked]
  · simp [fault, DoorRun.marked, doorRereport_not_fault fault]

/-- The notices of an evaluation that changes the state, kind by kind. -/
theorem evaluateDoor_sends (other : r.evaluated cfg ≠ r.state) :
    let sent := (evaluateDoor img d cfg now r).2
    .doorRequest d (cfg.lampFor (r.evaluated cfg)) ∈ sent ∧ .activity ∈ sent
      ∧ (∀ i x, .write i x ∈ sent ↔ cfg.stateSignal = some i ∧ (img.signals.get i).source = .derived (.door d)
        ∧ x = .bare (r.evaluated cfg).code)
      ∧ (.report (.wear .doorCycle d.val) ∈ sent ↔ r.Completes (r.evaluated cfg) ∧ r.reachedOpen = true)
      ∧ (.report (.wear .doorSlowClose d.val) ∈ sent ↔ r.Completes (r.evaluated cfg) ∧ cfg.slow ≠ 0
        ∧ ∃ t, r.closingStart = some t ∧ cfg.slow * 100 < now - t)
      ∧ .report (.wear .doorFault d.val) ∉ sent := by
  intro sent
  have notFault : r.evaluated cfg ≠ .fault := fun fault => other (fault.trans (evaluated_fault fault).symm)
  have member : ∀ m, m ∈ sent ↔ _ := fun m => evaluateDoor_mem other
  simp only [member, changeReport_evaluated other, doorRereport_mem, derivedWrite_mem, doorWear_mem]
  have flag : ∀ m, m ∈ (if r.state = .fault then clearFlag (doorRereport img d r).1 (.door d) else (r.reported, [])).2 →
      ∃ code, m = .report (.clear code (.door d)) := by
    intro m member
    split at member
    · obtain ⟨code, -, rfl⟩ := clearFlag_mem.1 member
      exact ⟨code, rfl⟩
    · nomatch member
  have noWrite : ∀ i x, .write i x ∉ (if r.state = .fault then clearFlag (doorRereport img d r).1 (.door d)
      else (r.reported, [])).2 := fun i x member => nomatch flag _ member
  have noWear : ∀ k n, .report (.wear k n) ∉ (if r.state = .fault then clearFlag (doorRereport img d r).1 (.door d)
      else (r.reported, [])).2 := fun k n member => nomatch flag _ member
  refine ⟨by simp, by simp, fun i x => by simp [noWrite], ?_, ?_, by simp [noWear, notFault]⟩
  · simp only [reduceCtorEq, noWear, Notice.report.injEq, Report.wear.injEq, and_false, and_true, or_false, false_or, exists_false]
    exact Iff.rfl
  · simp only [reduceCtorEq, noWear, Notice.report.injEq, Report.wear.injEq, and_false, and_true, or_false, false_or, exists_false]
    exact Iff.rfl

/-- The reported code after an evaluation that changes the state: cleared on leaving FAULT (R74), else as before. -/
theorem evaluateDoor_reported (other : r.evaluated cfg ≠ r.state) :
    (∀ code, r.state = .fault → r.reported = some code → .report (.clear code (.door d)) ∈ (evaluateDoor img d cfg now r).2
        ∧ (evaluateDoor img d cfg now r).1.reported = none)
      ∧ (r.state ≠ .fault → (evaluateDoor img d cfg now r).1.reported = r.reported) := by
  have record : (evaluateDoor img d cfg now r).1.reported =
      (if r.state = .fault then clearFlag (doorRereport img d r).1 (.door d) else (r.reported, [])).1 := by
    rw [evaluateDoor_eq, enterDoor_other (r := r.marked img d cfg now) other, changeReport_evaluated other]
  refine ⟨fun code fault reported => ⟨?_, ?_⟩, fun working => record.trans (by rw [if_neg working])⟩
  · have kept : (doorRereport img d r).1 = some code := by
      unfold doorRereport
      split
      · rw [reported, raiseFlag_set]
      · exact reported
    rw [evaluateDoor_mem other, changeReport_evaluated other, if_pos fault, clearFlag_mem]
    exact .inr (.inr (.inr (.inr (.inr ⟨code, kept, rfl⟩))))
  · rw [record, if_pos fault, clearFlag_fst]

/-- The record after an evaluation that changes the state. -/
theorem evaluateDoor_other (other : r.evaluated cfg ≠ r.state) : (evaluateDoor img d cfg now r).1 =
    { r with
        state := r.evaluated cfg, plausibility := none, due := false, request := cfg.lampFor (r.evaluated cfg)
        reported := (evaluateDoor img d cfg now r).1.reported
        travel := if r.evaluated cfg = .opening ∨ r.evaluated cfg = .closing ∨ r.evaluated cfg = .reversing then
            some (now + cfg.travel * 100)
          else none
        closingStart := if r.evaluated cfg = .closing then some now else r.closingStart
        reachedOpen := if r.evaluated cfg = .opened then true
          else if r.evaluated cfg = .closed ∨ r.evaluated cfg = .released ∨ r.evaluated cfg = .unknown then false
          else r.reachedOpen } := by
  rw [evaluateDoor_eq, enterDoor_other (r := r.marked img d cfg now) other]
  rfl

end

/-- Settles O37. -/
theorem doorEvaluated : Obligations.DoorEvaluated := by
  refine ⟨?_, derivedWrite_eq, onDoor_eq, fun always s a => ?_⟩
  · intro img d cfg now r v u sent required both openNow closedNow moving
    have invalid : requiredInvalid cfg r.views = true ↔ required := requiredInvalid_iff
    have conflicting : conflict cfg r.views = true ↔ both := conflict_iff
    have opened : openIndication cfg r.views = true ↔ openNow := openIndication_iff
    have state : u.state = r.evaluated cfg := evaluateDoor_state
    have plausibility : u.plausibility = if r.evaluated cfg = r.state then r.plausible cfg now else none :=
      evaluateDoor_plausibility
    have due : u.due = false := by
      change (evaluateDoor img d cfg now r).1.due = false
      rw [evaluateDoor_eq]
      exact enterDoor_due
    have stopped : r.plausible cfg now = none → u.plausibility = none := fun none => by
      rw [plausibility, none, ite_self]
    have present : u.state = r.state → evaluateDoor img d cfg now r = (r.marked img d cfg now, (doorRereport img d r).2) :=
      fun same => evaluateDoor_same (state ▸ same)
    rw [← invalid, ← conflicting, ← opened]
    refine ⟨fun handle => state.trans (evaluated_handle handle), fun handle bad => ?_, fun handle good conflicts => ?_,
      fun handle good agrees => ?_, due, fun marked fault clear f coded => ⟨?_, fun still => ?_⟩, fun idle same => ?_, fun same => ?_,
      fun other => ?_⟩
    · obtain ⟨next, none⟩ := evaluated_invalid (now := now) handle bad
      exact ⟨state.trans next, stopped none⟩
    · obtain ⟨next, starts⟩ := evaluated_conflict (now := now) handle good conflicts
      exact ⟨state.trans next, fun working idle => plausibility.trans ((if_pos next).trans (starts working idle))⟩
    · obtain ⟨next, none⟩ := evaluated_table (now := now) handle good agrees
      rw [state, next]
      refine ⟨stopped none, fun shut closed => doorTable_closed (Bool.eq_false_iff.2 shut) closed, fun op => doorTable_opened op,
        fun shut closed => doorTable_midway (Bool.eq_false_iff.2 shut) closed⟩
    · have sentAll : sent = (doorRereport img d r).2 ++ _ := congrArg Prod.snd (evaluateDoor_eq img d cfg now r)
      rw [sentAll, List.mem_append, doorRereport_mem]
      exact .inl ⟨marked, fault, clear, f, coded, rfl⟩
    · have whole : u = r.marked img d cfg now := congrArg Prod.fst (present (still.trans fault.symm))
      rw [whole]
      simp [DoorRun.marked, doorRereport, marked, fault, clear, coded, raiseFlag_clear]
    · have whole : u = r.marked img d cfg now := congrArg Prod.fst (present same)
      have said : sent = (doorRereport img d r).2 := congrArg Prod.snd (present same)
      rw [said, whole]
      simp only [DoorRun.marked, doorRereport_silent idle, and_self]
    · have whole : u = r.marked img d cfg now := congrArg Prod.fst (present same)
      rw [whole]
      rfl
    · rw [state] at other
      obtain ⟨lamp, activity, writes, cycle, slow, noFault⟩ := evaluateDoor_sends (img := img) (d := d) (now := now) other
      obtain ⟨clears, keeps⟩ := evaluateDoor_reported (img := img) (d := d) (now := now) other
      have record : u = _ := evaluateDoor_other other
      rw [state]
      exact ⟨record, lamp, activity, writes, cycle, slow, noFault, clears, keeps⟩
  · intro u enabled st
    refine ⟨summarize_allClosed .., summarize_openMoving .., interlockAsserted_eq_false, rfl, ?_, fun b => rfl⟩
    have sent := summarize_out always s a
    rw [doorsContent_eq] at sent
    exact sent


end Sys2Proof.Machine
end

section
/-! PROOFS. DisplayProofs: the display records, their sending order and the display link's events (R16, R165 to R170). -/

namespace Sys2Proof.Machine

/-! ### Records and stall timer -/

section
variable {s : State} {a b : Acc Display} {f : Fin 64 → RecordKind → DisplayRecord → DisplayRecord}

/-- A change of the records by their kinds changes the stall timer beside them, and sends nothing. -/
theorem mapRecords_frame (s : State) (f : Fin 64 → RecordKind → DisplayRecord → DisplayRecord) (a : Acc Display) :
    Display.mapRecords s f a = ⟨{ a.st with
      records := (Display.mapRecords s f a).st.records, stall := (Display.mapRecords s f a).st.stall }, a.out⟩ := by
  unfold Display.mapRecords
  rw [restall_eq]
  rfl

@[simp] theorem mapRecords_link : (Display.mapRecords s f a).st.link = a.st.link := by rw [mapRecords_frame]

@[simp] theorem mapRecords_flight : (Display.mapRecords s f a).st.flight = a.st.flight := by rw [mapRecords_frame]

@[simp] theorem mapRecords_ready : (Display.mapRecords s f a).st.ready = a.st.ready := by rw [mapRecords_frame]

@[simp] theorem mapRecords_refresh : (Display.mapRecords s f a).st.refresh = a.st.refresh := by rw [mapRecords_frame]

@[simp] theorem mapRecords_reported : (Display.mapRecords s f a).st.reported = a.st.reported := by rw [mapRecords_frame]

@[simp] theorem mapRecords_out : (Display.mapRecords s f a).out = a.out := by rw [mapRecords_frame]

@[simp] theorem markAll_get (i : Fin 64) : (markAll s a).st.records.get i =
    if s.running.display.get i = .none then a.st.records.get i else { a.st.records.get i with dirty := true } := mapRecords_get ..

theorem clearStall_eq (a : Acc Display) : clearStall a = ⟨{ a.st with reported := false },
    a.out ++ if a.st.reported = true then [.report (.clear 0xF002 .displayLink)] else []⟩ := by
  cases reported : a.st.reported <;> simp [clearStall, Acc.sayIf, Acc.say, Acc.upd, reported, Config.stallCode]

theorem raiseStall_eq (a : Acc Display) : raiseStall a = ⟨{ a.st with reported := true },
    a.out ++ if a.st.reported = false then [.report (.raise 0xF002 .displayLink 1)] else []⟩ := by
  cases reported : a.st.reported <;> simp [raiseStall, Acc.sayIf, Acc.say, Acc.upd, reported, Config.stallCode]

theorem displayFaultWrite_named {img : Image} {w : SignalWrite} {i : Fin 256} (named : img.general.displayFault = some i)
    (produced : (img.signals.get i).source = .derived .displayFault) : displayFaultWrite img w = [.write i w] := by
  simp [displayFaultWrite, named, produced]

/-- The display `a'` has its stall timer as its conditions have it, running on from `a` or started now. -/
def Display.SettledFrom (s : State) (a a' : Acc Display) : Prop :=
  restall s a' = a' ∧ ∀ t, a'.st.stall = some t → a.st.stall = some t ∨ t = s.now + 500

theorem settledFrom_restall (earlier : ∀ t, b.st.stall = some t → a.st.stall = some t ∨ t = s.now + 500) :
    Display.SettledFrom s a (restall s b) := by
  refine ⟨restall_restall s b, fun t runs => ?_⟩
  rw [restall_eq] at runs
  dsimp only at runs
  split at runs
  · cases stall : b.st.stall with
    | some t' =>
      rw [stall] at runs earlier
      exact earlier t runs
    | none =>
      rw [stall] at runs
      exact .inr (Option.some.inj runs).symm
  · nomatch runs

theorem settledFrom_mapRecords (earlier : ∀ t, b.st.stall = some t → a.st.stall = some t ∨ t = s.now + 500) :
    Display.SettledFrom s a (Display.mapRecords s f b) := settledFrom_restall earlier

/-- A display with the timer stopped and the link not RUNNING is settled. -/
theorem settledFrom_stopped (link : b.st.link ≠ .running) (stopped : b.st.stall = none) : Display.SettledFrom s a b := by
  refine ⟨?_, fun t runs => nomatch stopped.symm.trans runs⟩
  rw [restall_eq, if_neg (by simp [link]), ← stopped]

theorem settledFrom_sayAll {l : List Notice} (h : Display.SettledFrom s a b) : Display.SettledFrom s a (b.sayAll l) := by
  obtain ⟨settled, earlier⟩ := h
  refine ⟨?_, earlier⟩
  have stall := congrArg (·.st) settled
  rw [restall_eq] at stall ⊢
  exact congrArg (fun d => (⟨d, (b.sayAll l).out⟩ : Acc Display)) stall

theorem completeTransfer_settled (status : Byte) (flies : a.st.flight ≠ none) :
    Display.SettledFrom s a (completeTransfer status s a) := by
  unfold completeTransfer
  split
  · next landed => exact absurd landed flies
  · dsimp only
    split
    · refine settledFrom_sayAll ?_
      split
      · exact settledFrom_mapRecords (settledFrom_mapRecords fun t => .inl).2
      · exact settledFrom_mapRecords fun t => .inl
    · exact settledFrom_restall fun t => .inl

theorem displayMode_settled (old : Mode) {new : Mode} (started : new ≠ .starting) :
    Display.SettledFrom s a (displayMode old new s a) := by
  have sending : Display.SettledFrom s a (displayMode old .active s a) := by
    simp only [displayMode]
    split
    · exact settledFrom_mapRecords fun t => .inl
    · split
      · exact settledFrom_restall fun t => .inl
      · exact settledFrom_restall fun t => .inl
  cases new with
  | active | configuring => exact sending
  | standby | sleep => exact settledFrom_stopped (by simp [displayMode]) rfl
  | starting => exact absurd rfl started

theorem readyOn_settled : Display.SettledFrom s a (readyOn s a) := by
  unfold readyOn
  dsimp only
  split
  · refine settledFrom_mapRecords fun t runs => ?_
    rw [clearStall_eq] at runs
    exact .inl runs
  · exact settledFrom_restall fun t => .inl

theorem takeStall_settled : Display.SettledFrom s a (takeStall s a) := by
  refine settledFrom_sayAll (settledFrom_stopped ?_ ?_) <;> simp [raiseStall_eq]

end

/-! ### The record sent next -/

section
variable {kinds : Tab 64 RecordKind} {records : Tab 64 DisplayRecord}

/-- Record `i` is dirty and of a defined kind. -/
def DisplayRecord.Waits (kinds : Tab 64 RecordKind) (records : Tab 64 DisplayRecord) (i : Fin 64) : Prop :=
  (records.get i).dirty = true ∧ kinds.get i ≠ .none

/-- `best` is the waiting record of `l` that comes before the others, or `l` holds none. -/
def DisplayRecord.Leads (kinds : Tab 64 RecordKind) (records : Tab 64 DisplayRecord) (l : List (Fin 64)) : Option (Fin 64) → Prop
  | none => ∀ i ∈ l, ¬DisplayRecord.Waits kinds records i
  | some i => i ∈ l ∧ DisplayRecord.Waits kinds records i ∧ ∀ j ∈ l, DisplayRecord.Waits kinds records j →
      (kinds.get i).rank < (kinds.get j).rank ∨ ((kinds.get i).rank = (kinds.get j).rank ∧ i ≤ j)

theorem nextRecord_leads (kinds : Tab 64 RecordKind) (records : Tab 64 DisplayRecord) :
    DisplayRecord.Leads kinds records (List.finRange 64) (nextRecord kinds records) := by
  unfold nextRecord
  have sorted := List.pairwise_lt_finRange 64
  generalize List.finRange 64 = l at sorted
  induction l using List.reverseRecOn with
  | nil => exact fun i member => nomatch member
  | append_singleton l x ih =>
    obtain ⟨before, -, later⟩ := List.pairwise_append.1 sorted
    have lead := ih before
    rw [List.foldl_concat]
    generalize List.foldl _ none l = best at lead
    split
    · next h =>
      have waits : DisplayRecord.Waits kinds records x := by simpa [DisplayRecord.Waits] using h
      match best, lead with
      | none, idleAll =>
        refine ⟨by simp, waits, fun j member other => ?_⟩
        rcases List.mem_append.1 member with member | member
        · exact absurd other (idleAll j member)
        · exact .inr ⟨by rw [List.mem_singleton.1 member], (List.mem_singleton.1 member).ge⟩
      | some i, ⟨within, waiting, least⟩ =>
        dsimp only
        split
        · next lower =>
          refine ⟨by simp, waits, fun j member other => ?_⟩
          rcases List.mem_append.1 member with member | member
          · have := least j member other
            omega
          · exact .inr ⟨by rw [List.mem_singleton.1 member], (List.mem_singleton.1 member).ge⟩
        · next higher =>
          refine ⟨List.mem_append_left _ within, waiting, fun j member other => ?_⟩
          rcases List.mem_append.1 member with member | member
          · exact least j member other
          · obtain rfl := List.mem_singleton.1 member
            have := later i within j (by simp)
            omega
    · next h =>
      have idle : ¬DisplayRecord.Waits kinds records x := by simpa [DisplayRecord.Waits] using h
      match best, lead with
      | none, idleAll =>
        intro j member
        rcases List.mem_append.1 member with member | member
        · exact idleAll j member
        · exact List.mem_singleton.1 member ▸ idle
      | some i, ⟨within, waiting, least⟩ =>
        refine ⟨List.mem_append_left _ within, waiting, fun j member other => ?_⟩
        rcases List.mem_append.1 member with member | member
        · exact least j member other
        · exact absurd (List.mem_singleton.1 member ▸ other) idle

theorem nextRecord_none : nextRecord kinds records = none ↔ ∀ i, ¬DisplayRecord.Waits kinds records i := by
  have lead := nextRecord_leads kinds records
  cases next : nextRecord kinds records with
  | none =>
    rw [next] at lead
    exact ⟨fun _ i => lead i (List.mem_finRange i), fun _ => rfl⟩
  | some i =>
    rw [next] at lead
    exact ⟨fun h => (nomatch h), fun h => absurd lead.2.1 (h i)⟩

theorem nextRecord_some {i : Fin 64} : nextRecord kinds records = some i ↔ DisplayRecord.Waits kinds records i
    ∧ ∀ j, DisplayRecord.Waits kinds records j →
      (kinds.get i).rank < (kinds.get j).rank ∨ ((kinds.get i).rank = (kinds.get j).rank ∧ i ≤ j) := by
  have lead := nextRecord_leads kinds records
  constructor
  · intro next
    rw [next] at lead
    exact ⟨lead.2.1, fun j => lead.2.2 j (List.mem_finRange j)⟩
  · rintro ⟨waits, least⟩
    cases next : nextRecord kinds records with
    | none => exact absurd waits (nextRecord_none.1 next i)
    | some k =>
      rw [next] at lead
      have first := least k lead.2.1
      have second := lead.2.2 i (List.mem_finRange i) waits
      exact congrArg some (by omega)

end

/-! ### Writes -/

theorem writeRecord_same {content : List Byte} {r : DisplayRecord} (h : content = r.current) : writeRecord content r = r := if_pos h

theorem writeRecord_other {content : List Byte} {r : DisplayRecord} (h : content ≠ r.current) :
    writeRecord content r = { r with current := content, dirty := true } := if_neg h

/-- A write of records that changes the display's records alone, and of them only those `taken`. -/
theorem mapRecords_writes (s : State) (content : List Byte) (taken : Fin 64 → RecordKind → Prop)
    [∀ i k, Decidable (taken i k)] :
    let f := fun (i : Fin 64) (k : RecordKind) (r : DisplayRecord) => if taken i k then writeRecord content r else r
    let u := s.runDisplay fun s => Display.mapRecords s f
    u = { s with display := { s.display with records := u.display.records, stall := u.display.stall } }
      ∧ ∀ i, let r := s.display.records.get i
        let r' := u.display.records.get i
        (taken i (s.running.display.get i) → content ≠ r.current → r' = { r with current := content, dirty := true })
          ∧ (¬taken i (s.running.display.get i) ∨ content = r.current → r' = r) := by
  intro f u
  have whole := mapRecords_frame s f ⟨s.display, []⟩
  constructor
  · have mail : u.mail = s.mail := by
      change s.mail ++ (Display.mapRecords s f ⟨s.display, []⟩).out = _
      rw [mapRecords_out, List.append_nil]
    have display : u.display = { s.display with records := u.display.records, stall := u.display.stall } :=
      congrArg Acc.st whole
    calc u = { s with display := u.display, mail := u.mail } := rfl
      _ = _ := by rw [mail, ← display]
  · intro i r r'
    have record : r' = f i (s.running.display.get i) r := mapRecords_get s f ⟨s.display, []⟩ i
    rw [record]
    refine ⟨fun named other => (if_pos named).trans (writeRecord_other other), fun h => ?_⟩
    by_cases named : taken i (s.running.display.get i)
    · exact (if_pos named).trans (writeRecord_same (h.resolve_left (not_not.2 named)))
    · exact if_neg named

/-! ### Transfers -/

/-- A transfer may start as far as the link goes (R167). -/
def State.MayTransfer (s : State) (d : Display) : Prop :=
  d.link = .running ∧ (s.control.mode = .active ∨ s.control.mode = .configuring) ∧ d.ready = true ∧ d.flight = none

theorem startTransfer_eq (s : State) (a : Acc Display) [Decidable (s.MayTransfer a.st)] : startTransfer s a =
    if s.MayTransfer a.st then
      match nextRecord s.running.display a.st.records with
      | some i => ⟨{ a.st with
          flight := some ⟨i, (s.running.display.get i).code, (a.st.records.get i).current⟩ }, a.out⟩
      | none => a
    else a := by
  have may : (a.st.link == .running && s.control.mode.sends && a.st.ready && a.st.flight.isNone) = true ↔ s.MayTransfer a.st := by
    simp [State.MayTransfer, sends_iff, and_assoc]
  simp only [startTransfer, may]
  rfl

/-- Settles O47. -/
theorem recordOrder : Obligations.RecordOrder := by
  refine ⟨fun kinds records => ⟨nextRecord_none, fun i => nextRecord_some⟩, fun g g' i i' => by simp [RecordKind.rank], fun s a => ?_, fun s => rfl, fun s a => ?_,
    fun s a k content i status old m m' => ?_, fun s content => ⟨fun k => ?_, fun j => ?_⟩⟩
  · classical
    intro may next
    refine ⟨fun i allowed found => ?_, fun stands => ?_⟩
    · rw [startTransfer_eq, if_pos (show s.MayTransfer a.st from allowed), show nextRecord _ _ = some i from found]
    · rw [startTransfer_eq]
      split
      · next allowed => rw [show nextRecord _ _ = none from stands.resolve_left (not_not.2 allowed)]
      · rfl
  · intro runs
    have cond : (a.st.link == .running && s.control.mode.sends && !a.st.ready && anyDirty a.st) = true ↔ runs := by
      simp [runs, sends_iff, anyDirty_iff, and_assoc]
    simp only [restall_eq, cond, Config.stallMs]
    exact ⟨fun h => by rw [if_pos h], fun h => by rw [if_neg h]⟩
  · exact ⟨readyOn_settled, settledFrom_restall fun t => .inl, takeStall_settled, settledFrom_mapRecords fun t => .inl,
      settledFrom_mapRecords fun t => .inl, settledFrom_mapRecords fun t => .inl, settledFrom_mapRecords fun t => .inl,
      displayMode_settled m, completeTransfer_settled status⟩
  · obtain ⟨frame, each⟩ := mapRecords_writes s content fun _ kind => kind = k ∧ k ≠ .none
    exact ⟨frame, rfl, each⟩
  · obtain ⟨frame, each⟩ := mapRecords_writes s content fun i kind => i = j ∧ kind = .raw
    exact ⟨frame, rfl, each⟩

/-! ### Events of the link -/

theorem happening_at {b : Bool} (f : State → State) (s : State) (h : b = true) : happening b f s = .next (finish (f s)) := by
  rw [h, happening_true]

section
variable {s : State} {a : Acc Display}

/-- A display that changes through `f`, sending nothing, is all that changes. -/
theorem runDisplay_silent {f : State → Acc Display → Acc Display} (h : (f s ⟨s.display, []⟩).out = []) :
    s.runDisplay f = { s with display := (f s ⟨s.display, []⟩).st } := by
  have mail : (s.runDisplay f).mail = s.mail := by rw [runDisplay_mail, h, List.append_nil]
  calc s.runDisplay f = { s with display := (f s ⟨s.display, []⟩).st, mail := (s.runDisplay f).mail } := rfl
    _ = _ := by rw [mail]

theorem readyOn_stalled (stalled : a.st.link = .stalled) : readyOn s a =
    markAll s (clearStall ⟨{ a.st with ready := true, link := .running }, a.out⟩) := if_pos stalled

theorem readyOn_running (running : a.st.link ≠ .stalled) : readyOn s a = restall s ⟨{ a.st with ready := true }, a.out⟩ :=
  if_neg running

theorem readyOn_ready : (readyOn s a).st.ready = true := by
  by_cases stalled : a.st.link = .stalled
  · rw [readyOn_stalled stalled, clearStall_eq]
    exact mapRecords_ready
  · rw [readyOn_running stalled, restall_eq]

/-- A STALLED link that sees READY runs again with every defined record dirty and 0xF002 cleared (R170). -/
theorem readyOn_revives (stalled : a.st.link = .stalled) :
    (readyOn s a).st.link = .running ∧ (readyOn s a).st.reported = false
      ∧ (∀ i, s.running.display.get i ≠ .none → ((readyOn s a).st.records.get i).dirty = true)
      ∧ (a.st.reported = true → .report (.clear 0xF002 .displayLink) ∈ (readyOn s a).out) := by
  rw [readyOn_stalled stalled, clearStall_eq]
  refine ⟨mapRecords_link, mapRecords_reported, fun i defined => ?_, fun reported => ?_⟩
  · rw [markAll_get, if_neg defined]
  · rw [markAll, mapRecords_out]
    simp [reported]

theorem completeTransfer_dead {f : Transfer} {status : Byte} (flies : a.st.flight = some f) (dead : status.getLsbD 0 = false) :
    completeTransfer status s a = restall s ⟨{ a.st with flight := none }, a.out⟩ := by
  simp only [completeTransfer, flies, dead, Bool.false_eq_true, ↓reduceIte]
  rfl

/-- The display after the copy of the transfer `f` was taken, before any refresh request is. -/
def Display.taken (f : Transfer) (s : State) (a : Acc Display) : Acc Display :=
  Display.mapRecords s (fun i kind r => if i = f.index then sentRecord kind f.copy r else r) ⟨{ a.st with flight := none }, a.out⟩

theorem completeTransfer_alive {f : Transfer} {status : Byte} (flies : a.st.flight = some f) (alive : status.getLsbD 0 = true) :
    completeTransfer status s a =
      (if status.getLsbD 1 = true then markAll s (Display.taken f s a) else Display.taken f s a).sayAll
        (displayFaultWrite s.image (.bare (if status.getLsbD 2 then 1 else 0))) := by
  simp only [completeTransfer, flies, alive, ↓reduceIte]
  rfl

theorem completeTransfer_flight {f : Transfer} {status : Byte} (flies : a.st.flight = some f) :
    (completeTransfer status s a).st.flight = none := by
  cases alive : status.getLsbD 0 with
  | false => rw [completeTransfer_dead flies alive, restall_eq]
  | true =>
    rw [completeTransfer_alive flies alive, sayAll_st]
    split <;> simp only [Display.taken, markAll, mapRecords_flight]

/-- The records after the completion of a transfer that was taken. -/
theorem completeTransfer_record {f : Transfer} {status : Byte} (flies : a.st.flight = some f) (alive : status.getLsbD 0 = true)
    (i : Fin 64) : (completeTransfer status s a).st.records.get i =
      let r := a.st.records.get i
      let kind := s.running.display.get i
      let r' := if i = f.index then sentRecord kind f.copy r else r
      if status.getLsbD 1 = true ∧ kind ≠ .none then { r' with dirty := true } else r' := by
  rw [completeTransfer_alive flies alive, sayAll_st]
  cases status.getLsbD 1 with
  | false => simp [Display.taken]
  | true => by_cases none : s.running.display.get i = .none <;> simp [Display.taken, none]

end

/-- Settles O46. -/
theorem linkEventsTaken : Obligations.LinkEventsTaken := by
  intro s t kind
  refine ⟨fun low => ⟨_, happening_at _ s (by rw [low]; rfl), ?_, rfl, fun running => ?_, fun stalled => ?_⟩,
    fun high => ⟨_, happening_at _ s high, ?_, ?_, ?_, ?_, ?_⟩,
    fun f status flies => ⟨_, happening_at _ s (by rw [flies]; rfl), ?_, rfl, ?_, ?_, ?_, ?_, ?_, ?_, ?_⟩,
    fun due => ⟨_, expiry_at _ s due, ?_, ?_, ?_, ?_⟩, fun due => ⟨_, expiry_at _ s due, rfl, ?_, ?_, ?_, ?_, ?_⟩, ?_⟩
  · exact readyOn_ready
  · have link : readyOn s ⟨s.display, []⟩ = _ := readyOn_running running
    rw [runDisplay_display, link, restall_eq]
    exact ⟨rfl, rfl⟩
  · obtain ⟨link, reported, dirty, clears⟩ := readyOn_revives (s := s) (a := ⟨s.display, []⟩) stalled
    exact ⟨link, reported, dirty, fun raised => List.mem_append_right _ (clears raised)⟩
  · rw [runDisplay_display, readyOff, restall_eq]
    rfl
  · exact runDisplay_silent (by rw [readyOff, restall_eq]; rfl)
  · rw [runDisplay_display, readyOff, restall_eq]
    rfl
  · rw [runDisplay_display, readyOff, restall_eq]
    rfl
  · rw [runDisplay_display, readyOff, restall_eq]
    rfl
  · exact completeTransfer_flight flies
  · intro dead
    rw [runDisplay_display, completeTransfer_dead flies dead, restall_records]
  · intro alive defined
    rw [runDisplay_display, completeTransfer_record flies alive]
    have defined : s.running.display.get f.index ≠ .none := defined
    simp only [↓reduceIte, sentRecord, defined]
    split <;> rfl
  · intro alive none
    rw [runDisplay_display, completeTransfer_record flies alive]
    have none : s.running.display.get f.index = .none := none
    simp [sentRecord, none]
  · intro alive
    rw [runDisplay_display, completeTransfer_record flies alive]
    by_cases none : s.running.display.get f.index = .none
    · simp [sentRecord, kind, none]
    · cases refresh : status.getLsbD 1 <;> simp [sentRecord, kind, none]
  · intro alive quiet i other
    rw [runDisplay_display, completeTransfer_record flies alive]
    simp only [quiet, Bool.false_eq_true, false_and, ↓reduceIte, if_neg other]
  · intro alive refresh i defined
    rw [runDisplay_display, completeTransfer_record flies alive]
    exact congrArg DisplayRecord.dirty (if_pos ⟨refresh, defined⟩)
  · intro alive i named produced
    rw [runDisplay_mail, completeTransfer_alive flies alive]
    refine List.mem_append_right _ (List.mem_append_right _ ?_)
    rw [displayFaultWrite_named named produced]
    exact List.mem_singleton_self _
  · exact runDisplay_silent mapRecords_out
  · rw [runDisplay_display, takeRefresh, markAll, mapRecords_refresh]
    rfl
  · intro i defined
    rw [runDisplay_display, takeRefresh, markAll_get]
    exact congrArg DisplayRecord.dirty (if_neg defined)
  · intro i
    rw [runDisplay_display, takeRefresh, markAll_get]
    refine ⟨?_, fun none => if_pos none⟩
    split <;> rfl
  · rw [runDisplay_display, takeStall, raiseStall_eq]
    rfl
  · rw [runDisplay_display, takeStall, raiseStall_eq]
    rfl
  · rw [runDisplay_display, takeStall, raiseStall_eq]
    rfl
  · rw [runDisplay_display, takeStall, raiseStall_eq]
    rfl
  · intro clear
    rw [runDisplay_mail, takeStall, raiseStall_eq]
    refine List.mem_append_right _ (List.mem_append_left _ ?_)
    simp [clear]
  · intro old a i r r'
    have record : r' = takeKind (old.display.get i != kind i) (kind i) r := mapRecords_get ..
    rw [record]
    refine ⟨fun changed => ?_, fun same => ?_, fun defined => ?_, fun none => ?_⟩
    · simp [takeKind, Ne.symm changed, DisplayRecord.emptyContent]
    · simp [takeKind, same]
    · simp [takeKind, defined]
    · simp [takeKind, none]

end Sys2Proof.Machine
end

section
/-! PROOFS. ValueProofs: the conversion of payload fields (R27 to R30) and the packing of own frames (R25, R26, R162). -/

namespace Sys2Proof.Machine

/-! ### Scaling -/

theorem two_pow_pos (n : Nat) : (0 : Int) < 2 ^ n := by positivity

/-- A quotient that rounds toward minus infinity stays within the bounds of what is divided. -/
theorem ediv_within {bound p d : Int} (h : 0 < d) (low : -bound ≤ p) (high : p ≤ bound) (nonneg : 0 ≤ bound) :
    -bound ≤ p / d ∧ p / d ≤ bound := by
  have step : ∀ {x : Int}, 0 ≤ x → x ≤ x * d := fun {x} hx => le_mul_of_one_le_right hx h
  constructor
  · rw [Int.le_ediv_iff_mul_le h, Int.neg_mul]
    exact le_trans (neg_le_neg (step nonneg)) low
  · exact Int.ediv_le_of_le_mul h (le_trans high (step nonneg))

theorem mul_gain_within {raw gain : Int} (low : -4294967296 < raw) (high : raw < 4294967296) (gainLow : -32768 ≤ gain)
    (gainHigh : gain ≤ 32768) : -140737488355328 ≤ raw * gain ∧ raw * gain ≤ 140737488355328 := by
  have product : |raw * gain| ≤ 4294967296 * 32768 := by
    rw [abs_mul]
    exact mul_le_mul (abs_le.2 ⟨by omega, by omega⟩) (abs_le.2 ⟨gainLow, gainHigh⟩) (abs_nonneg _) (by decide)
  have := abs_le.1 product
  omega

theorem toSigned_eq {bits v : Nat} : toSigned bits v = if 2 ^ (bits - 1) ≤ v then (v : Int) - 2 ^ bits else v := by
  unfold toSigned
  split <;> split <;> omega

/-- Settles O48. -/
theorem conversionScales : Obligations.ConversionScales := by
  refine ⟨fun lo hi v => ⟨fun below => if_pos below, fun above beyond => ?_, fun low high => clamp_within low high⟩,
    fun gain shift offset raw => ?_, fun d cfg data long => ?_⟩
  · exact (if_neg (not_lt.2 above)).trans (if_pos beyond)
  · intro p q
    have positive := two_pow_pos shift
    refine ⟨⟨Int.ediv_mul_le p positive.ne', Int.lt_ediv_add_one_mul_self p positive⟩, rfl,
      fun low high gainLow gainHigh offLow offHigh => ?_, fun zero => ?_, fun negative raw' le => ?_⟩
    · obtain ⟨least, most⟩ := mul_gain_within low high gainLow gainHigh
      obtain ⟨qLow, qHigh⟩ := ediv_within positive least most (by decide)
      refine ⟨least, most, ?_, ?_⟩
      · change _ ≤ raw * gain / 2 ^ shift + offset
        omega
      · change raw * gain / 2 ^ shift + offset ≤ _
        omega
    · simp [scale, zero]
    · exact Int.add_le_add_right (Int.ediv_le_ediv positive (mul_le_mul_of_nonpos_right le negative.le)) offset
  · intro n
    refine ⟨fun codes top => ?_, fun codes top => ?_, fun plain => ?_⟩
    · have top : field d.order d.start d.length data = 2 ^ d.length - 1 := by omega
      simp [convert, codes, top]
    · have top : field d.order d.start d.length data = 2 ^ d.length - 2 := by omega
      have two : 2 ≤ 2 ^ d.length := Nat.le_self_pow (by omega) 2
      simp only [convert, codes, top, Bool.true_and, beq_iff_eq]
      rw [if_neg (by omega), if_pos trivial]
    · intro raw v
      have notTop : ∀ k, 1 ≤ k → k ≤ 2 → (d.invalidCodes && n == 2 ^ d.length - k) = false := by
        intro k least most
        rcases plain with plain | small
        · simp [plain]
        · simp only [Bool.and_eq_false_iff, beq_eq_false_iff_ne]
          exact .inr (by omega)
      have signed : (if d.signed = true then toSigned d.length n else (n : Int)) = raw := by
        rw [toSigned_eq]
        by_cases sign : d.signed = true
        · simp only [raw, sign, ↓reduceIte, true_and]
        · simp only [raw, sign, Bool.false_eq_true, ↓reduceIte, false_and]
      have whole : convert d cfg data = converted cfg (scale d.gain d.shift d.offset
          (if d.signed = true then toSigned d.length n else (n : Int))) :=
        (if_neg (Bool.eq_false_iff.1 (notTop 1 (by decide) (by decide)))).trans
          (if_neg (Bool.eq_false_iff.1 (notTop 2 (by decide) (by decide))))
      rw [whole, signed]
      rfl

end Sys2Proof.Machine
end

section
/-! PROOFS. PackingProofs: the bits of payload fields, placed, packed and extracted (R25, R26, R162). -/

namespace Sys2Proof.Machine

/-! ### Bits of data bytes -/

/-- Bit `n % 8` of byte `n / 8` of the data, `false` beyond it. -/
def bitAt (data : List Byte) (n : Nat) : Bool := (data[n / 8]?.getD 0).getLsbD (n % 8)

/-- The bit of the data bytes that is bit `j` of the payload number. -/
def bitPos (order : ByteOrder) (j : Nat) : Nat :=
  match order with
  | .little => j
  | .big => (7 - j / 8) * 8 + j % 8

section
variable {order : ByteOrder} {j n s v ℓ m : Nat} {data l l' : List Byte}

theorem bitPos_lt (h : j < 64) : bitPos order j < 64 := by
  cases order
  · exact h
  · simp only [bitPos]
    omega

theorem bitPos_bitPos (h : j < 64) : bitPos order (bitPos order j) = j := by
  cases order
  · rfl
  · simp only [bitPos]
    omega

theorem mem_bitsOf : n ∈ bitsOf order s ℓ ↔ ∃ k, k < ℓ ∧ n = bitPos order (s + k) := by
  cases order <;> simp [bitsOf, bitPos, eq_comm]

theorem bitAt_of_getElem? {b : Byte} {i : Nat} (at_ : data[i]? = some b) (h : n < 8) : bitAt data (8 * i + n) = b.getLsbD n := by
  have byteIndex : (8 * i + n) / 8 = i := by omega
  have bitIndex : (8 * i + n) % 8 = n := by omega
  simp [bitAt, byteIndex, bitIndex, at_]

theorem bitAt_take : bitAt (data.take m) n = (decide (n / 8 < m) && bitAt data n) := by
  unfold bitAt
  rw [List.getElem?_take]
  split
  · next h => simp [h]
  · next h => simp [h]

theorem bitAt_append_zeros (k : Nat) : bitAt (data ++ List.replicate k 0) n = bitAt data n := by
  unfold bitAt
  rw [List.getElem?_append]
  split
  · rfl
  · next h =>
    rw [List.getElem?_eq_none (not_lt.1 h), List.getElem?_replicate]
    split <;> rfl

theorem bitAt_eightBytes (h : n < 64) : bitAt (eightBytes data) n = bitAt data n := by
  rw [eightBytes, bitAt_take, bitAt_append_zeros, decide_eq_true (by omega), Bool.true_and]

theorem eightBytes_length : (eightBytes data).length = 8 := by
  simp only [eightBytes, List.length_take, List.length_append, List.length_replicate]
  omega

theorem bitAt_reverse (length : l.length = 8) (h : n < 64) : bitAt l.reverse n = bitAt l (bitPos .big n) := by
  have byteIndex : ((7 - n / 8) * 8 + n % 8) / 8 = 7 - n / 8 := by omega
  have bitIndex : ((7 - n / 8) * 8 + n % 8) % 8 = n % 8 := by omega
  unfold bitAt bitPos
  rw [List.getElem?_reverse (by omega), byteIndex, bitIndex, show l.length - 1 - n / 8 = 7 - n / 8 by omega]

theorem testBit_leNat (l : List Byte) (j : Nat) : (leNat l).testBit j = bitAt l j := by
  induction l generalizing j with
  | nil => simp [leNat, bitAt]
  | cons b l ih =>
    rw [leNat, Nat.add_comm, show 256 = 2 ^ 8 from rfl, Nat.testBit_two_pow_mul_add _ b.isLt]
    split
    · next low => simp [bitAt, Nat.div_eq_of_lt low, Nat.mod_eq_of_lt low, BitVec.testBit_toNat]
    · next high =>
      have byteIndex : j / 8 = (j - 8) / 8 + 1 := by omega
      have bitIndex : j % 8 = (j - 8) % 8 := by omega
      rw [ih, bitAt, bitAt, byteIndex, bitIndex]
      rfl

theorem bitAt_leBytes (k v j : Nat) : bitAt (leBytes k v) j = (decide (j < 8 * k) && v.testBit j) := by
  induction k generalizing v j with
  | zero => simp [leBytes, bitAt]
  | succ k ih =>
    by_cases low : j < 8
    · have : j < 8 * (k + 1) := by omega
      have bit : (BitVec.ofNat 8 v).getLsbD j = v.testBit j := by rw [BitVec.getLsbD_ofNat, decide_eq_true low, Bool.true_and]
      simpa [leBytes, bitAt, Nat.div_eq_of_lt low, Nat.mod_eq_of_lt low, low, this] using bit
    · have byteIndex : j / 8 = (j - 8) / 8 + 1 := by omega
      have bitIndex : j % 8 = (j - 8) % 8 := by omega
      have rest : bitAt (leBytes (k + 1) v) j = bitAt (leBytes k (v / 256)) (j - 8) := by
        rw [bitAt, bitAt, byteIndex, bitIndex]
        rfl
      rw [rest, ih, show 256 = 2 ^ 8 from rfl, Nat.testBit_div_two_pow, Nat.sub_add_cancel (by omega)]
      congr 1
      exact decide_eq_decide.2 (by omega)

theorem bitAt_zipWith_or (same : l.length = l'.length) :
    bitAt (List.zipWith (· ||| ·) l l') n = (bitAt l n || bitAt l' n) := by
  unfold bitAt
  rw [List.getElem?_zipWith]
  by_cases inside : n / 8 < l.length
  · rw [List.getElem?_eq_getElem inside, List.getElem?_eq_getElem (same ▸ inside)]
    exact BitVec.getLsbD_or
  · rw [List.getElem?_eq_none (not_lt.1 inside), List.getElem?_eq_none (same ▸ not_lt.1 inside)]
    simp

/-! ### Fields -/

theorem testBit_payload (h : j < 64) : (payload order data).testBit j = bitAt data (bitPos order j) := by
  cases order with
  | little => exact (testBit_leNat ..).trans (bitAt_eightBytes h)
  | big =>
    exact (testBit_leNat ..).trans ((bitAt_reverse eightBytes_length h).trans (bitAt_eightBytes (bitPos_lt (order := .big) h)))

theorem testBit_field (h : s + ℓ ≤ 64) (k : Nat) :
    (field order s ℓ data).testBit k = (decide (k < ℓ) && bitAt data (bitPos order (s + k))) := by
  rw [field, Nat.testBit_mod_two_pow, Nat.testBit_div_two_pow, Nat.add_comm k]
  by_cases inside : k < ℓ
  · rw [testBit_payload (by omega)]
  · simp [inside]

@[simp] theorem placeField_length : (placeField order s v).length = 8 := by
  cases order <;> simp [placeField]

theorem bitAt_placeField (h : n < 64) :
    bitAt (placeField order s v) n = (decide (s ≤ bitPos order n) && v.testBit (bitPos order n - s)) := by
  have plain : ∀ j, j < 64 → bitAt (leBytes 8 (v * 2 ^ s)) j = (decide (s ≤ j) && v.testBit (j - s)) := fun j small => by
    rw [bitAt_leBytes, Nat.testBit_mul_two_pow, decide_eq_true (by omega), Bool.true_and]
  cases order with
  | little => exact plain n h
  | big => exact (bitAt_reverse (leBytes_length ..) h).trans (plain _ (bitPos_lt (order := .big) h))

theorem bitAt_beyond (length : data.length = 8) (h : 64 ≤ n) : bitAt data n = false := by
  rw [bitAt, List.getElem?_eq_none (by omega)]
  simp

/-- A placed value that has `ℓ` bits sets none but those of its field. -/
theorem mem_bitsOf_of_bitAt (small : v < 2 ^ ℓ) (h : bitAt (placeField order s v) n = true) : n ∈ bitsOf order s ℓ := by
  by_cases inside : n < 64
  · rw [bitAt_placeField inside, Bool.and_eq_true, decide_eq_true_eq] at h
    obtain ⟨above, bit⟩ := h
    refine mem_bitsOf.2 ⟨bitPos order n - s, ?_, ?_⟩
    · by_contra high
      have zero := Nat.testBit_lt_two_pow (lt_of_lt_of_le small (Nat.pow_le_pow_right (by decide) (not_lt.1 high)))
      exact absurd (zero.symm.trans bit) (by decide)
    · rw [Nat.add_sub_cancel' above, bitPos_bitPos inside]
  · exact absurd ((bitAt_beyond placeField_length (not_lt.1 inside)).symm.trans h) (by decide)

theorem fits_bits (h : fits order s ℓ m = true) : s + ℓ ≤ 64 ∧ ∀ k, k < ℓ → bitPos order (s + k) / 8 < m := by
  unfold fits at h
  cases order with
  | little =>
    simp only [Bool.and_eq_true, decide_eq_true_eq] at h
    exact ⟨h.1, fun k small => by simp only [bitPos]; omega⟩
  | big =>
    simp only [Bool.and_eq_true, decide_eq_true_eq] at h
    exact ⟨h.1, fun k small => by simp only [bitPos]; omega⟩

/-- Data whose bits in a field's place are those of a value hold that value in the field. -/
theorem field_eq_of_bits (inside : s + ℓ ≤ 64) (small : v < 2 ^ ℓ)
    (bits : ∀ k, k < ℓ → bitAt data (bitPos order (s + k)) = v.testBit k) : field order s ℓ data = v := by
  refine Nat.eq_of_testBit_eq fun k => ?_
  rw [testBit_field inside]
  by_cases low : k < ℓ
  · simp [low, bits k low]
  · have zero := Nat.testBit_lt_two_pow (lt_of_lt_of_le small (Nat.pow_le_pow_right (by decide) (not_lt.1 low)))
    simp [low, zero]

theorem bitAt_placeField_own (inside : s + ℓ ≤ 64) {k : Nat} (low : k < ℓ) :
    bitAt (placeField order s v) (bitPos order (s + k)) = v.testBit k := by
  rw [bitAt_placeField (bitPos_lt (by omega)), bitPos_bitPos (by omega)]
  simp

end

/-! ### Own frames -/

theorem packValue_invalid {slot : PackSlot} {e : Effective} (invalid : e.status = .invalid) (codes : slot.invalidCodes = true) :
    packValue slot e = 2 ^ slot.length - 1 := by
  simp [packValue, Effective.good, invalid, codes]

theorem packValue_scaled {slot : PackSlot} {e : Effective} (h : e.status ≠ .invalid ∨ slot.invalidCodes = false) :
    packValue slot e = (clamp 0 (packTop slot) ((e.value - slot.offset) / (2 : Int) ^ slot.shift)).toNat := by
  have : (!e.good && slot.invalidCodes) = false := by
    rcases h with h | h <;> simp [Effective.good, h]
  simp only [packValue, this, Bool.false_eq_true, ↓reduceIte]

theorem packTop_lt (slot : PackSlot) : packTop slot < 2 ^ slot.length := by
  have := Nat.two_pow_pos slot.length
  unfold packTop
  split <;> omega

theorem packValue_lt (slot : PackSlot) (e : Effective) : packValue slot e < 2 ^ slot.length := by
  have top := packTop_lt slot
  by_cases h : e.status ≠ .invalid ∨ slot.invalidCodes = false
  · rw [packValue_scaled h]
    have := clamp_le (lo := 0) (hi := packTop slot) (by omega) ((e.value - slot.offset) / (2 : Int) ^ slot.shift)
    omega
  · obtain ⟨invalid, codes⟩ := not_or.1 h
    rw [packValue_invalid (not_not.1 invalid) (Bool.not_eq_false _ ▸ codes)]
    omega

/-- Bytes joined field by field: a bit is set where it was set or one of the fields sets it. -/
theorem foldl_or_bits (n : Nat) (fields : List (List Byte)) (bytes : List Byte) (length : bytes.length = 8)
    (lengths : ∀ f ∈ fields, f.length = 8) :
    let joined := fields.foldl (fun bytes f => List.zipWith (· ||| ·) bytes f) bytes
    joined.length = 8 ∧ (bitAt joined n = true ↔ bitAt bytes n = true ∨ ∃ f ∈ fields, bitAt f n = true) := by
  induction fields generalizing bytes with
  | nil => exact ⟨length, by simp⟩
  | cons f fields ih =>
    have same : bytes.length = f.length := length.trans (lengths f List.mem_cons_self).symm
    obtain ⟨joinedLength, bits⟩ := ih (List.zipWith (· ||| ·) bytes f) (by simp [length, ← same])
      fun g member => lengths g (List.mem_cons_of_mem _ member)
    refine ⟨joinedLength, bits.trans ?_⟩
    rw [bitAt_zipWith_or same]
    simp [or_assoc]

/-- The bits of an own frame are those that its slots set, as far as the frame reaches. -/
theorem packFrame_bits (eff : Fin 256 → Effective) (e : TransmitEntry) (n : Nat) :
    (packFrame eff e).length = min e.length 8
      ∧ (bitAt (packFrame eff e) n = true ↔ n / 8 < e.length ∧ ∃ k x, e.slots.get k = some x
        ∧ bitAt (placeField x.order x.start (packValue x (eff x.signal))) n = true) := by
  obtain ⟨length, bits⟩ := foldl_or_bits n
    (e.slots.list.filterMap fun slot => slot.map fun p => placeField p.order p.start (packValue p (eff p.signal)))
    (List.replicate 8 0) (List.length_replicate ..) (by simp)
  refine ⟨by simp only [packFrame, List.length_take, length], ?_⟩
  have zeros : bitAt (List.replicate 8 0) n = false := (bitAt_append_zeros (data := []) 8).trans (by simp [bitAt])
  simp only [packFrame, bitAt_take, Bool.and_eq_true, decide_eq_true_eq, bits, zeros, Bool.false_eq_true, false_or,
    List.mem_filterMap, Option.map_eq_some_iff]
  refine and_congr_right fun _ => ?_
  constructor
  · rintro ⟨_, ⟨_, member, x, rfl, rfl⟩, bit⟩
    obtain ⟨k, slot⟩ := Tab.get_of_mem member
    exact ⟨k, x, slot, bit⟩
  · rintro ⟨k, x, slot, bit⟩
    exact ⟨_, ⟨_, slot ▸ List.getElem_mem _, x, rfl, rfl⟩, bit⟩

/-- Settles O49. -/
theorem packedFieldsExtract : Obligations.PackedFieldsExtract := by
  refine ⟨fun order start length value m long fitting small => ⟨?_, placeField_length, fun start' length' long' fitting' apart => ?_⟩,
    fun slot e => ?_, fun eff e => ?_⟩
  · obtain ⟨inside, bytes⟩ := fits_bits fitting
    refine field_eq_of_bits inside small fun k low => ?_
    rw [bitAt_take, decide_eq_true (bytes k low), Bool.true_and, bitAt_placeField_own inside low]
  · obtain ⟨inside, -⟩ := fits_bits fitting'
    refine field_eq_of_bits inside (Nat.two_pow_pos _) fun k low => ?_
    rw [bitAt_placeField (bitPos_lt (by omega)), bitPos_bitPos (by omega), Nat.zero_testBit, Bool.and_eq_false_iff]
    rcases apart with after | before
    · exact .inr (Nat.testBit_lt_two_pow (lt_of_lt_of_le small (Nat.pow_le_pow_right (by decide) (by omega))))
    · exact .inl (decide_eq_false (by omega))
  · intro top packed
    refine ⟨packValue_invalid, fun good raw low high => ?_⟩
    have positive := two_pow_pos slot.shift
    have quotient : (e.value - slot.offset) / (2 : Int) ^ slot.shift = raw :=
      le_antisymm (Int.lt_add_one_iff.1 (Int.ediv_lt_of_lt_mul positive high)) (Int.le_ediv_of_mul_le positive low)
    have whole : packed = (clamp 0 (top : Int) raw).toNat := by rw [← quotient]; exact packValue_scaled good
    rw [whole]
    refine ⟨fun negative => ?_, fun nonneg within => ?_, fun beyond => ?_⟩
    · rw [clamp, if_pos negative]
      rfl
    · rw [clamp_within nonneg within]
      omega
    · rw [clamp, if_neg (by omega), if_pos beyond]
      rfl
  · intro data bits short fitting apart
    refine ⟨(packFrame_bits eff e 0).1.trans (min_eq_left short), fun k x slot => ?_, fun j n b at_ low free => ?_⟩
    · obtain ⟨-, fit⟩ := fitting k x slot
      obtain ⟨inside, bytes⟩ := fits_bits fit
      refine field_eq_of_bits inside (packValue_lt ..) fun i low => ?_
      rw [← bitAt_placeField_own inside low (v := packValue x (eff x.signal)), Bool.eq_iff_iff, (packFrame_bits eff e _).2]
      constructor
      · rintro ⟨-, m, y, other, bit⟩
        by_cases same : k = m
        · obtain rfl : x = y := Option.some.inj (slot.symm.trans (same ▸ other))
          exact bit
        · exact absurd (mem_bitsOf_of_bitAt (packValue_lt ..) bit)
            (apart k m x y same slot other _ (mem_bitsOf.2 ⟨i, low, rfl⟩))
      · exact fun bit => ⟨bytes i low, k, x, slot, bit⟩
    · rw [← bitAt_of_getElem? at_ low, Bool.eq_false_iff]
      intro set
      obtain ⟨-, k, x, slot, bit⟩ := (packFrame_bits eff e _).2.1 set
      exact free k x slot (mem_bitsOf_of_bitAt (packValue_lt ..) bit)

end Sys2Proof.Machine
end

section
/-! PROOFS. UpdateProofs: frame activity, writes of signals with their update events, and the consumers of an update event (R7, R24,
R33, R34). -/

namespace Sys2Proof.Machine

/-! ### Update events of resolutions -/

section
variable {img : Image} {t : Tab 256 SignalRun} {a : Acc (Tab 256 SignalRun)} {i : Fin 256} {must may : Fin 256 → Prop}

/-- What has been sent since the table `t` is one update event for each signal whose effective state is another now. -/
def Announced (t : Tab 256 SignalRun) (a : Acc (Tab 256 SignalRun)) : Prop :=
  a.out.Nodup ∧ ∀ n, n ∈ a.out ↔ ∃ k, (a.st.get k).eff ≠ (t.get k).eff ∧ n = .update k (a.st.get k).eff

theorem announced_nil (t : Tab 256 SignalRun) : Announced t ⟨t, []⟩ := ⟨List.nodup_nil, by simp⟩

theorem resolve_silent (same : (resolved img a.st i).eff = (a.st.get i).eff) :
    resolve img i a = ⟨a.st.set i (resolved img a.st i), a.out⟩ := by
  simp [resolve, Acc.sayIf, same, Acc.upd]

theorem resolve_sends (other : (resolved img a.st i).eff ≠ (a.st.get i).eff) : resolve img i a =
    ⟨a.st.set i (resolved img a.st i), a.out ++ [.update i (resolved img a.st i).eff]⟩ := by
  simp [resolve, Acc.sayIf, other, Acc.upd, Acc.say]

/-- A signal is announced when it is resolved, and a second resolution has nothing to announce. -/
theorem resolve_announced (h : Resolutions img t must may a.st) (announced : Announced t a) : Announced t (resolve img i a) := by
  obtain ⟨nodup, sent⟩ := announced
  have now : resolved img a.st i = resolved img t i := resolved_congr h.1 (h.2 i).2.1
  by_cases same : (resolved img a.st i).eff = (a.st.get i).eff
  · have effects : ∀ k, ((a.st.set i (resolved img a.st i)).get k).eff = (a.st.get k).eff := fun k => by
      rw [Tab.get_set]
      split
      · next here => rw [here, same]
      · rfl
    rw [resolve_silent same]
    exact ⟨nodup, fun n => by simp only [sent, effects]⟩
  · have stood : a.st.get i = t.get i := (h.2 i).2.1.resolve_right fun done => same (by rw [now, done])
    have quiet : ∀ k e, .update k e ∈ a.out → k ≠ i := by
      rintro k e member rfl
      obtain ⟨k', changed, eq⟩ := (sent _).1 member
      cases eq
      exact changed (by rw [stood])
    rw [resolve_sends same]
    refine ⟨List.nodup_append.2 ⟨nodup, List.nodup_singleton _, ?_⟩, fun n => ?_⟩
    · rintro n member _ last rfl
      rw [List.mem_singleton.1 last] at member
      exact quiet i _ member rfl
    · rw [List.mem_append, List.mem_singleton, sent]
      constructor
      · rintro (⟨k, changed, rfl⟩ | rfl)
        · have elsewhere : k ≠ i := fun here => changed (by rw [here, stood])
          exact ⟨k, by rwa [Tab.get_set_ne _ _ elsewhere], by rw [Tab.get_set_ne _ _ elsewhere]⟩
        · exact ⟨i, by rwa [Tab.get_set_self, ← stood], by rw [Tab.get_set_self]⟩
      · rintro ⟨k, changed, rfl⟩
        by_cases here : k = i
        · subst here
          exact .inr (by rw [Tab.get_set_self])
        · rw [Tab.get_set_ne _ _ here] at changed ⊢
          exact .inl ⟨k, changed, rfl⟩

theorem resolveWithDependents_announced (h : Resolutions img t must (fun _ => True) a.st) (announced : Announced t a) :
    Announced t (resolveWithDependents img i a) := by
  have pass : ∀ (l : List SubEntry) (m : Fin 256 → Prop) (b : Acc (Tab 256 SignalRun)), Resolutions img t m (fun _ => True) b.st →
      Announced t b → Announced t (b.eachOf l fun e a =>
        if e.inUse && e.alternate == .signal i then resolve img e.signal a else a) := by
    intro l
    induction l with
    | nil => exact fun _ _ _ hb => hb
    | cons e l ih =>
      intro m b reached told
      by_cases depends : (e.inUse && e.alternate == .signal i) = true
      · have turn : Announced t _ := ih _ _ (resolve_resolutions (i := e.signal) trivial reached) (resolve_announced reached told)
        simpa only [Acc.eachOf, List.foldl_cons, depends, ↓reduceIte] using turn
      · have turn : Announced t _ := ih _ _ reached told
        simpa only [Acc.eachOf, List.foldl_cons, depends, ↓reduceIte, Bool.false_eq_true] using turn
  exact pass _ _ _ (resolve_resolutions trivial h) (resolve_announced h announced)

/-- A resolution with dependents of a table, from which nothing has been resolved yet: which signals change, and what is sent. -/
theorem resolveWithDependents_from (img : Image) (t : Tab 256 SignalRun) (i : Fin 256) :
    let a := resolveWithDependents img i ⟨t, []⟩
    (∀ k, k = i ∨ DependsOn img k i → a.st.get k = resolved img t k)
      ∧ (∀ k, ¬(k = i ∨ DependsOn img k i) → a.st.get k = t.get k) ∧ Announced t a := by
  intro a
  have reached := resolveWithDependents_resolutions (a := ⟨t, []⟩) (may := fun k => k = i ∨ DependsOn img k i) (.inl rfl)
    (fun k depends => .inr depends) (resolutions_refl img t _)
  refine ⟨fun k named => (reached.2 k).1 (named.imp_right .inl), fun k => (reached.2 k).2.2, ?_⟩
  exact resolveWithDependents_announced (resolutions_refl img t _) (announced_nil t)

end

/-! ### Writes -/

section
variable {i : Fin 256} {w : SignalWrite} {s : State}

/-- A write changes what the resolution of the signal reads (R33). -/
def State.WriteTells (s : State) (i : Fin 256) (w : SignalWrite) : Prop :=
  let r := s.signals.get i
  let now := written (s.image.signals.get i) w r
  now.own ≠ r.own ∨ now.qual ≠ r.qual ∨ ownStatus s.image i now ≠ ownStatus s.image i r

theorem takeWrite_silent (h : ¬s.WriteTells i w) : takeWrite i w s ⟨s.signals, []⟩ =
    ⟨s.signals.set i (written (s.image.signals.get i) w (s.signals.get i)), []⟩ := by
  obtain ⟨own, qual, status⟩ : _ ∧ _ ∧ _ := by simpa only [State.WriteTells, not_or, not_not] using h
  simp only [takeWrite, own, qual, status, bne_self_eq_false, Bool.or_self, Bool.false_eq_true, ↓reduceIte]
  rfl

theorem takeWrite_tells (h : s.WriteTells i w) : takeWrite i w s ⟨s.signals, []⟩ = resolveWithDependents s.image i
    ⟨s.signals.set i (written (s.image.signals.get i) w (s.signals.get i)), []⟩ := by
  refine if_pos ?_
  simp only [Bool.or_eq_true, bne_iff_ne]
  rcases h with own | qual | status
  · exact .inl (.inl own)
  · exact .inr qual
  · exact .inl (.inr status)

theorem written_eff (cfg : SignalConfig) (w : SignalWrite) (r : SignalRun) : (written cfg w r).eff = r.eff := by
  cases w <;> rfl

end

/-! ### Views of warnings -/

section
variable {s : State} {a : Acc Warnings} {w : Fin 64}

@[simp] theorem setWarning_views (f : WarningRun → WarningRun) : (setWarning w f a).st.views = a.st.views := rfl

@[simp] theorem topChanged_views : (topChanged s a).st.views = a.st.views := by
  unfold topChanged
  dsimp only [showPresent_st, say_st, upd_st]
  split
  · rfl
  · split
    · split <;> rfl
    · rfl

@[simp] theorem push_views : (push w s a).st.views = a.st.views := by simp [push]

@[simp] theorem giveStamp_views (v : Warnings) : (giveStamp w v).views = v.views := by
  unfold giveStamp
  dsimp only
  split <;> rfl

@[simp] theorem arrive_views : (arrive w s a).st.views = a.st.views := by
  simp only [arrive]
  split <;> simp

theorem promote_views {otherwise : Acc Warnings → Acc Warnings} (kept : (otherwise a).st.views = a.st.views) :
    (promote s otherwise a).st.views = a.st.views := by
  unfold promote
  split
  · split
    · simp
    · exact kept
  · exact kept

@[simp] theorem withdraw_views : (withdraw w s a).st.views = a.st.views := by
  simp only [withdraw]
  split
  · rfl
  · split
    · exact promote_views topChanged_views
    · rfl

@[simp] theorem enterOn_views : (enterOn w s a).st.views = a.st.views := by
  simp only [enterOn]
  split
  · rw [arrive_views]
    split <;> rfl
  · rfl

@[simp] theorem enterOff_views : (enterOff w s a).st.views = a.st.views := by
  unfold enterOff
  dsimp only
  split
  · rw [withdraw_views]
    split <;> rfl
  · split <;> rfl

@[simp] theorem release_views : (release w s a).st.views = a.st.views := by
  unfold release
  split <;> simp

@[simp] theorem evaluateWarning_views : (evaluateWarning w s a).st.views = a.st.views := by
  simp only [evaluateWarning]
  split
  · rfl
  · split
    · split <;> simp
    · simp
    · simp
    · simp
    · split <;> simp
    · rfl

@[simp] theorem acknowledged_views : (acknowledged w s a).st.views = a.st.views := by
  unfold acknowledged
  split <;> simp

@[simp] theorem acknowledgeTop_views : (acknowledgeTop s a).st.views = a.st.views := by
  unfold acknowledgeTop
  split
  · rfl
  · split
    · rfl
    · split <;> simp

@[simp] theorem remask_views (promoting : Bool) : (remask promoting s a).st.views = a.st.views := by
  have either : ∀ (c : Bool) (b : Acc Warnings), (if c then promote s id b else b).st.views = b.st.views := by
    intro c b
    cases c
    · rfl
    · exact promote_views (otherwise := id) rfl
  exact either _ _

/-- An update event reaches the view of its signal, and no other (R103). -/
theorem warningUpdate_views (i : Fin 256) (e : Effective) (s : State) (a : Acc Warnings) :
    (warningUpdate i e s a).st.views = a.st.views.set i ⟨e, (a.st.views.get i).delivered || e.good⟩ := by
  simp only [warningUpdate]
  refine each_keeps (P := fun v : Warnings => v.views = a.st.views.set i ⟨e, (a.st.views.get i).delivered || e.good⟩) (fun w b hb => ?_) _ ?_
  · split
    · rw [evaluateWarning_views, hb]
    · exact hb
  · split
    · rw [remask_views]
      split
      · rw [acknowledgeTop_views]
        rfl
      · rfl
    · split
      · rw [acknowledgeTop_views]
        rfl
      · rfl

end

/-! ### Consumers of an update event -/

section
variable {i : Fin 256} {e : Effective} {s : State}

theorem writeRecord_current (content : List Byte) (r : DisplayRecord) : (writeRecord content r).current = content := by
  unfold writeRecord
  split
  · next same => exact same.symm
  · rfl

theorem writeKind_current (k : RecordKind) (content : List Byte) (a : Acc Display) (j : Fin 64) :
    ((writeKind k content s a).st.records.get j).current =
      if s.running.display.get j = k ∧ k ≠ .none then content else (a.st.records.get j).current := by
  rw [writeKind, mapRecords_get]
  split
  · exact writeRecord_current _ _
  · rfl

theorem valueContent_eq (i : Fin 256) (e : Effective) : valueContent i e =
    leSigned 4 e.value ++ [byte e.status.code, optByte (e.reason.map (·.code)), flagByte e.qual, byte i.val]
      ++ List.replicate 4 0 := by
  simp [valueContent, content12, leSigned]

theorem onDoor_doors (d : Fin 6) (f : DoorRun → Told DoorRun) (s : State) (a : Acc Doors) :
    (Doors.onDoor d f s a).st.doors = a.st.doors.set d (f (a.st.doors.get d)).1 := by
  rw [onDoor_eq]
  split <;> rfl

theorem view_of (e : Effective) :
    View.of e = if e.status = .invalid then .invalid else if e.value = 0 then .notAsserted else .asserted := by
  simp [View.of, Effective.good]

theorem names_iff {cfg : DoorConfig} : cfg.names i = true ↔ cfg.closed = i ∨ cfg.opened = some i ∨ cfg.edge = some i
    ∨ cfg.handle = some i ∨ cfg.release = some i := by
  simp [DoorConfig.names, or_assoc]

/-- An update event makes each enabled door that names its signal take the view and be evaluated (R62, R63). -/
theorem doorUpdate_get (i : Fin 256) (e : Effective) (s : State) (a : Acc Doors) (d : Fin 6) :
    (doorUpdate i e s a).st.doors.get d =
      if (s.running.doors.get d).enabled = true ∧ (s.running.doors.get d).names i = true then
        (evaluateDoor s.image d (s.running.doors.get d) s.now { a.st.doors.get d with
          views := (a.st.doors.get d).views.update (s.running.doors.get d) i e }).1
      else a.st.doors.get d := by
  have pass := foldl_row (look := fun (a : Acc Doors) d => a.st.doors.get d)
    (turn := fun a d => if (s.running.doors.get d).enabled && (s.running.doors.get d).names i then
      Doors.onDoor d (fun r => evaluateDoor s.image d (s.running.doors.get d) s.now
        { r with views := r.views.update (s.running.doors.get d) i e }) s a else a)
    (g := fun d r => if (s.running.doors.get d).enabled = true ∧ (s.running.doors.get d).names i = true then
      (evaluateDoor s.image d (s.running.doors.get d) s.now
        { r with views := r.views.update (s.running.doors.get d) i e }).1 else r)
    (fun a d => by
      simp only [Bool.and_eq_true]
      split
      · rw [onDoor_doors, Tab.get_set_self]
      · rfl)
    (fun a d k other => by
      split
      · rw [onDoor_doors, Tab.get_set_ne _ _ other]
      · rfl)
    (List.nodup_finRange 6) a d
  rw [if_pos (List.mem_finRange d)] at pass
  rw [← pass]
  unfold doorUpdate
  dsimp only
  split <;> rfl

@[simp] theorem relight_view (s : State) (a : Acc Lamps) (l : Fin 24) :
    ((relight s a).st.lamps.get l).view = (a.st.lamps.get l).view := by
  simp [relight]

theorem lampSignal_view (i : Fin 256) (e : Effective) (s : State) (a : Acc Lamps) (l : Fin 24) :
    ((lampSignal i e s a).st.lamps.get l).view =
      if (s.running.lamps.get l).owner = .signal ∧ (s.running.lamps.get l).signal = some i then e
      else (a.st.lamps.get l).view := by
  simp only [lampSignal, Lamps.onLamps, relight_view, tellRows_get]
  have lamps : (if s.running.general.dimmer = i then setDuties e s a else a).st.lamps = a.st.lamps := by split <;> rfl
  rw [lamps]
  split <;> rfl

theorem gaugeSignal_view (i : Fin 256) (e : Effective) (s : State) (a : Acc Gauges) (g : Fin 6) :
    ((gaugeSignal i e s a).st.gauges.get g).view =
      if (s.running.gauges.get g).inUse = true ∧ (s.running.gauges.get g).source = i then e else (a.st.gauges.get g).view := by
  rw [gaugeSignal, onInUse_get]
  by_cases inUse : (s.running.gauges.get g).inUse = true
  · by_cases source : (s.running.gauges.get g).source = i
    · simp only [inUse, source, ↓reduceIte, and_self]
      split
      · split <;> rfl
      · split <;> rfl
      · rfl
    · simp only [inUse, source, ↓reduceIte, and_false]
  · simp only [inUse, Bool.false_eq_true, ↓reduceIte, false_and]

theorem serviceUpdate_workshop (i : Fin 256) (s : State) (a : Acc Service) : (serviceUpdate i s a).st.workshop =
    if s.running.general.serviceEnable = i ∨ s.running.general.brake = i ∨ s.running.general.speed = i then accessNow s
    else a.st.workshop := by
  unfold serviceUpdate
  dsimp only
  split
  · exact evaluateAccess_workshop s a
  · rfl

/-- The part after the consumers of an update event but the Mode Controller have taken it. -/
def State.updated (i : Fin 256) (e : Effective) (s : State) : State :=
  s.runDisplay (writeKind (.value i) (valueContent i e))
    |>.runDoors (doorUpdate i e)
    |>.runGauges (gaugeSignal i e)
    |>.runWarnings (warningUpdate i e)
    |>.runLamps (lampSignal i e)
    |>.runService (serviceUpdate i)

end

/-- Settles O6. -/
theorem frameActivityReported : Obligations.FrameActivityReported := by
  refine ⟨fun p f s receives => happening_at _ s receives, fun s => ⟨fun standby => if_pos standby, fun other => if_neg other⟩,
    fun i w s => ?_, fun i e s => ⟨s.updated i e, rfl, rfl, fun k => ?_, fun d => ?_, fun g => ?_, fun k => ?_, fun l => ?_, ?_⟩⟩
  · intro cfg r now changed t named u
    have nowIs : now = written cfg w r := by cases w <;> rfl
    have tells : s.WriteTells i w ↔ changed := by
      simp only [changed, nowIs]
      exact Iff.rfl
    refine ⟨fun silent => ?_, fun tell => ?_⟩
    · have whole := takeWrite_silent (mt tells.1 silent)
      change { s with signals := (takeWrite i w s ⟨s.signals, []⟩).st, mail := s.mail ++ (takeWrite i w s ⟨s.signals, []⟩).out } = _
      rw [whole, List.append_nil]
      simp only [t, nowIs]
      rfl
    · have whole : takeWrite i w s ⟨s.signals, []⟩ = resolveWithDependents s.image i ⟨t, []⟩ := by
        simp only [t, nowIs]
        exact takeWrite_tells (tells.2 tell)
      obtain ⟨resolves, stands, nodup, events⟩ := resolveWithDependents_from s.image t i
      rw [← whole] at resolves stands nodup events
      refine ⟨rfl, resolves, stands, _, rfl, nodup, fun n => (events n).trans ?_⟩
      have before : ∀ k, (t.get k).eff = (s.signals.get k).eff := fun k => by
        simp only [t, Tab.get_set, nowIs]
        split
        · next here => rw [here]; exact written_eff cfg w r
        · rfl
      simp only [before]
      refine exists_congr fun k => ?_
      constructor
      · rintro ⟨other, rfl⟩
        refine ⟨?_, other, rfl⟩
        by_contra far
        exact other (by rw [stands k far, before])
      · rintro ⟨-, other, rfl⟩
        exact ⟨other, rfl⟩
  · refine (writeKind_current ..).trans ?_
    simp [valueContent_eq]
  · intro cfg r view views
    refine (doorUpdate_get i e _ _ d).trans ?_
    have seen : r.views.update cfg i e = views := by simp only [Views.update, views, view, view_of]
    simp only [names_iff, ← seen]
    rfl
  · exact gaugeSignal_view i e _ _ g
  · refine (congrArg (Tab.get · k) (warningUpdate_views i e _ _)).trans ?_
    simp only [Tab.get_set]
    split
    · simp [Effective.good, bne, beq_eq_decide]
    · rfl
  · exact lampSignal_view i e _ _ l
  · exact serviceUpdate_workshop i _ _

end Sys2Proof.Machine
end

section
/-! PROOFS. SubstitutionProofs: SUBSTITUTE and RELEASE SUBSTITUTE (R40 to R42). -/

namespace Sys2Proof.Machine

/-! ### Fields of a content -/

/-- A signed number of four bytes reads back. -/
theorem toSigned_leSigned {c : Int} (low : -2147483648 ≤ c) (high : c ≤ 2147483647) : toSigned 32 (leNat (leSigned 4 c)) = c := by
  have number : leNat (leSigned 4 c) = (c % 4294967296).toNat := by
    rw [leSigned, leNat_leBytes]
    norm_num
    omega
  rw [number, toSigned_eq]
  norm_num
  split <;> omega

namespace Reader
variable {β : Type} {l : List Byte}

theorem on_nat_leBytes {n v : Nat} (small : v < 256 ^ n) (k : Nat → Reader β) : (nat n >>= k).on (leBytes n v ++ l) = (k v).on l := by
  rw [on_nat, List.take_left' (leBytes_length ..), List.drop_left' (leBytes_length ..), leNat_leBytes, Nat.mod_eq_of_lt small]

theorem on_nat_byte {n : Nat} (small : n < 256) (k : Nat → Reader β) : (nat 1 >>= k).on (byte n :: l) = (k n).on l :=
  on_nat_leBytes (n := 1) small k

theorem on_int_leSigned {c : Int} (low : -2147483648 ≤ c) (high : c ≤ 2147483647) (k : Int → Reader β) :
    (int 4 >>= k).on (leSigned 4 c ++ l) = (k c).on l := by
  have length : (leSigned 4 c).length = 4 := leBytes_length ..
  rw [on_int, List.take_left' length, List.drop_left' length, toSigned_leSigned low high]

theorem on_flag_flagByte (b : Bool) (k : Bool → Reader β) : (flag >>= k).on (flagByte b :: l) = (k b).on l := by
  rw [on_flag]
  cases b <;> rfl

theorem on_enum_byte {α : Type} {codes : List α} {n : Nat} {a : α} (small : n < 256) (known : codes[n]? = some a) (k : α → Reader β) :
    (enum codes >>= k).on (byte n :: l) = (k a).on l := by
  have code : leNat ((byte n :: l).take 1) = n := Nat.mod_eq_of_lt small
  rw [on_enum, code, known]
  rfl

theorem on_row_fin {n : Nat} (i : Fin n) (r : Result) (k : Fin n → Reader β) : (row n i.val r >>= k).on l = (k i).on l := by
  rw [on_row, dif_pos i.isLt]

theorem on_check_true {b : Bool} (h : b = true) (r : Result) (k : Unit → Reader β) : (check b r >>= k).on l = (k ()).on l := by
  rw [on_check, if_pos h]

end Reader

/-! ### The entry that is written -/

section
variable {img : Image} {e : Fin 16} {i j : Fin 256} {c : Int} {alt : Alternate} {forced : Bool}

/-- The alternate kind of an entry as its code. -/
def Alternate.code : Alternate → Nat
  | .none => 0
  | .signal _ => 1
  | .constant _ => 2

/-- A SUBSTITUTE content that meets the checks of R40 gives its entry. -/
theorem loadSubstitution_accepts (low : -2147483648 ≤ c) (high : c ≤ 2147483647)
    (single : ∀ k, k ≠ e → (img.substitution.get k).inUse = true → (img.substitution.get k).signal ≠ i)
    (kind : alt = .none ∨ alt = .signal j ∨ alt = .constant (clamp (img.signals.get i).min (img.signals.get i).max c))
    (other : alt = .signal j → j ≠ i) (offers : forced = true ∨ alt ≠ .none) :
    (loadSubstitution e.val img).on
        (flagByte true :: byte i.val :: byte alt.code :: byte j.val :: (leSigned 4 c ++ [flagByte forced]))
      = .ok (e, ⟨true, i, alt, forced⟩, { img with substitution := img.substitution.set e ⟨true, i, alt, forced⟩ }) := by
  have free : ((List.finRange 16).all fun k =>
      k == e || !((img.substitution.get k).inUse && (img.substitution.get k).signal == i)) = true := by
    rw [List.all_eq_true]
    intro k _
    by_cases here : k = e
    · simp [here]
    · by_cases inUse : (img.substitution.get k).inUse = true
      · simp [single k here inUse]
      · simp [inUse]
  have code : ([0, 1, 2] : List Nat)[alt.code]? = some alt.code := by cases alt <;> rfl
  have small : alt.code < 256 := by cases alt <;> simp [Alternate.code]
  have valid : (!(alt.code == 1 && j == i) && (forced || alt.code != 0)) = true := by
    rcases kind with rfl | rfl | rfl
    · simpa [Alternate.code] using offers
    · simpa [Alternate.code] using other
    · simp [Alternate.code]
  have entry : (if alt.code = 0 then Alternate.none else if alt.code = 1 then .signal j
      else .constant (clamp (img.signals.get i).min (img.signals.get i).max c)) = alt := by
    rcases kind with rfl | rfl | rfl <;> rfl
  rw [loadSubstitution, Reader.on_flag_flagByte, Reader.on_nat_byte (by omega), Reader.on_enum_byte small code,
    Reader.on_nat_byte (by omega), Reader.on_int_leSigned low high, Reader.on_flag_flagByte, Reader.on_row_fin, Reader.on_row_fin,
    Reader.on_row_fin]
  simp only [if_true, Reader.on_check, valid, free, entry]
  rfl

end

/-! ### What the entry does to the signals -/

/-- Entry `e` is replaced by `new`, with the resolutions that follow. -/
def State.setEntry (e : Fin 16) (new : SubEntry) (s : State) : State :=
  { s with image := { s.image with substitution := s.image.substitution.set e new } }.runSignals
    (takeSubstitution (s.image.substitution.get e) new)

section
variable {s : State} {e : Fin 16} {new : SubEntry} {i j : Fin 256}

/-- Entry `e` names signal `k`, before it is replaced by `new` or after. -/
def SubEntry.Names (s : State) (e : Fin 16) (new : SubEntry) (k : Fin 256) : Prop :=
  (new.inUse = true ∧ k = new.signal) ∨ ((s.image.substitution.get e).inUse = true ∧ k = (s.image.substitution.get e).signal)

theorem setEntry_resolutions (s : State) (e : Fin 16) (new : SubEntry) :
    let v := s.setEntry e new
    Resolutions v.image s.signals (SubEntry.Names s e new)
      (fun k => SubEntry.Names s e new k ∨ ∃ m i, (v.image.substitution.get m).inUse = true
        ∧ (v.image.substitution.get m).signal = k ∧ (v.image.substitution.get m).alternate = .signal i ∧ SubEntry.Names s e new i)
      v.signals :=
  takeSubstitution_resolutions (s := { s with image := { s.image with substitution := s.image.substitution.set e new } })
    (fun inUse => .inl (.inl ⟨inUse, rfl⟩)) (fun inUse => .inl (.inr ⟨inUse, rfl⟩))
    fun m inUse i alternate named => .inr ⟨m, i, inUse, rfl, alternate, named⟩

theorem setEntry_entry (k : Fin 16) : (s.setEntry e new).image.substitution.get k = if k = e then new else s.image.substitution.get k :=
  Tab.get_set ..

/-- A signal that neither names is as it was. -/
theorem setEntry_apart {k : Fin 256} (unnamed : ¬SubEntry.Names s e new k)
    (independent : ∀ m, ((s.setEntry e new).image.substitution.get m).inUse = true →
      ((s.setEntry e new).image.substitution.get m).signal = k →
      ∀ i, ((s.setEntry e new).image.substitution.get m).alternate = .signal i → ¬SubEntry.Names s e new i) :
    (s.setEntry e new).signals.get k = s.signals.get k :=
  ((setEntry_resolutions s e new).2 k).2.2 fun h =>
    h.elim unnamed fun ⟨m, i, inUse, signal, alternate, named⟩ => independent m inUse signal i alternate named

/-- A signal that only the former entry named shows its own state. -/
theorem setEntry_alone {k : Fin 256} (before : (s.image.substitution.get e).inUse = true ∧ k = (s.image.substitution.get e).signal)
    (after : ¬(new.inUse = true ∧ new.signal = k))
    (others : ∀ m, m ≠ e → (s.image.substitution.get m).inUse = true → (s.image.substitution.get m).signal ≠ k) :
    ((s.setEntry e new).signals.get k).eff =
      (if (s.signals.get k).written = .valid then ⟨(s.signals.get k).own, .valid, none, (s.signals.get k).qual⟩
        else ⟨(s.signals.get k).held, .invalid, some (s.signals.get k).written, false⟩) := by
  have none : (s.setEntry e new).image.subOf k = none := subOf_absent fun m inUse names => by
    rw [setEntry_entry] at inUse names
    by_cases here : m = e
    · rw [if_pos here] at inUse names
      exact after ⟨inUse, names⟩
    · rw [if_neg here] at inUse names
      exact others m here inUse names
  rw [((setEntry_resolutions s e new).2 k).1 (.inr before)]
  exact resolved_alone _ none

theorem setEntry_silent (before : (s.image.substitution.get e).inUse = false) (after : new.inUse = false) :
    (s.setEntry e new).signals = s.signals ∧ (s.setEntry e new).mail = s.mail := by
  have quiet : takeSubstitution (s.image.substitution.get e) new
      { s with image := { s.image with substitution := s.image.substitution.set e new } } ⟨s.signals, []⟩ = ⟨s.signals, []⟩ := by
    simp [takeSubstitution, before, after]
  refine ⟨congrArg Acc.st quiet, ?_⟩
  exact (congrArg (fun a => s.mail ++ a.out) quiet).trans (List.append_nil _)

/-- What another signal offers as alternate under the replaced entry. -/
theorem setEntry_ownStatus (apart : ¬(new.inUse = true ∧ new.signal = j)) :
    let img := (s.setEntry e new).image
    let blocks := fun k : Fin 16 => (k ≠ e ∧ (s.image.substitution.get k).inUse = true) ∧ (s.image.substitution.get k).signal = j
      ∧ (s.image.substitution.get k).forced = true ∧ (s.image.substitution.get k).alternate = .none
    ((∀ k, ¬blocks k) → ownStatus img j (s.signals.get j) = (s.signals.get j).written)
      ∧ ((s.signals.get j).written ≠ .valid → ownStatus img j (s.signals.get j) ≠ .valid)
      ∧ ∀ k, blocks k → (∀ m, m ≠ e ∧ (s.image.substitution.get m).inUse = true → (s.image.substitution.get m).signal = j → m = k) →
        ownStatus img j (s.signals.get j) ≠ .valid := by
  intro img blocks
  have entry : ∀ k, img.substitution.get k = if k = e then new else s.image.substitution.get k := fun k => setEntry_entry k
  have elsewhere : ∀ k, (img.substitution.get k).inUse = true → (img.substitution.get k).signal = j →
      k ≠ e ∧ img.substitution.get k = s.image.substitution.get k := fun k inUse names => by
    by_cases here : k = e
    · rw [entry, if_pos here] at inUse names
      exact absurd ⟨inUse, names⟩ apart
    · exact ⟨here, by rw [entry, if_neg here]⟩
  refine ⟨fun free => ?_, fun bad => ?_, fun k ⟨⟨other, inUse⟩, names, forced, nothing⟩ single => ?_⟩
  · cases found : img.subOf j with
    | none => exact ownStatus_unnamed _ found
    | some x =>
      obtain ⟨k, rfl, inUse, names⟩ := subOf_some found
      obtain ⟨other, same⟩ := elsewhere k inUse names
      rw [ownStatus_named _ found, if_neg]
      rintro ⟨forced, nothing⟩
      rw [same] at inUse names forced nothing
      exact free k ⟨⟨other, inUse⟩, names, forced, nothing⟩
  · cases found : img.subOf j with
    | none => rwa [ownStatus_unnamed _ found]
    | some x =>
      rw [ownStatus_named _ found]
      split
      · decide
      · exact bad
  · have here : img.substitution.get k = s.image.substitution.get k := by rw [entry, if_neg other]
    have found : img.subOf j = some (img.substitution.get k) := subOf_unique (here ▸ inUse) (here ▸ names) fun m used named => by
      obtain ⟨else_, same⟩ := elsewhere m used named
      rw [same] at used named
      exact single m ⟨else_, used⟩ named
    rw [ownStatus_named _ found, if_pos ⟨here ▸ forced, here ▸ nothing⟩]
    decide

/-- What the signal of an entry in use shows (Table 2-4). -/
theorem setEntry_shows (inUse : new.inUse = true)
    (single : ∀ m, m ≠ e → (s.image.substitution.get m).inUse = true → (s.image.substitution.get m).signal ≠ new.signal) :
    let img := (s.setEntry e new).image
    let cfg := s.image.signals.get new.signal
    let was := s.signals.get new.signal
    let now := ((s.setEntry e new).signals.get new.signal).eff
    let own : OwnStatus := if new.forced = true ∧ new.alternate = .none then .blocked else was.written
    (new.forced = false → was.written = .valid → now = ⟨was.own, .valid, none, was.qual⟩)
      ∧ (new.forced = true ∨ was.written ≠ .valid →
        (∀ x, alternateValue img s.signals new = some x →
          now = ⟨clamp cfg.min cfg.max x, .substituted, none, decide (clamp cfg.min cfg.max x ≠ x)⟩)
        ∧ (alternateValue img s.signals new = none →
          now = ⟨was.held, .invalid, some (if own = .valid then .blocked else own), false⟩)) := by
  intro img cfg was now own
  have here : img.substitution.get e = new := (setEntry_entry e).trans (if_pos rfl)
  have named : img.subOf new.signal = some new := here ▸ subOf_unique (img := img) (here.symm ▸ inUse) (by rw [here]) fun m used names => by
    by_contra other
    rw [show img.substitution.get m = s.image.substitution.get m from (setEntry_entry m).trans (if_neg other)] at used names
    exact single m other used (names.trans (by rw [here]))
  have status : ownStatus img new.signal was = own := ownStatus_named was named
  have shows : now = (resolved img s.signals new.signal).eff :=
    congrArg SignalRun.eff (((setEntry_resolutions s e new).2 new.signal).1 (.inl ⟨inUse, rfl⟩))
  obtain ⟨plain, gives⟩ := resolved_named s.signals named
  refine ⟨fun free valid => ?_, fun way => ?_⟩
  · have : own = .valid := by simp only [own, free, Bool.false_eq_true, false_and, ↓reduceIte, valid]
    rw [shows, plain free (status.trans this)]
  · have yields : new.forced = true ∨ ownStatus img new.signal was ≠ .valid := by
      rcases way with forced | bad
      · exact .inl forced
      · cases forced : new.forced with
        | true => exact .inl rfl
        | false => exact .inr (by simpa [status, own, forced] using bad)
    obtain ⟨value, nothing⟩ := gives yields
    refine ⟨fun x offered => by rw [shows, value x offered]; rfl, fun offered => ?_⟩
    rw [shows, nothing offered]
    change (⟨was.held, .invalid, some (if ownStatus img new.signal was = .valid then .blocked else ownStatus img new.signal was), false⟩
      : Effective) = _
    rw [status]

end

/-- Settles O20. -/
theorem substituteAndRelease : Obligations.SubstituteAndRelease := by
  intro p e s mode access free old others alone sourced apart
  have serving : s.control.mode ∈ servingModes := by rcases mode with mode | mode <;> simp [mode, servingModes]
  have admitted : s.control.mode ∈ [Mode.active, .configuring] := by rcases mode with mode | mode <;> simp [mode]
  have idle : storeCommandRuns s.heard = false := (storeCommandRuns_heard access).trans free
  constructor
  · intro i j c alt forced low high cfg single kind other offers code
    let new : SubEntry := ⟨true, i, alt, forced⟩
    have codeIs : code = byte alt.code := by cases alt <;> rfl
    have loads : (loadSubstitution e.val s.heard.image).on _ = _ := loadSubstitution_accepts low high
      (fun k apart inUse => single k ⟨apart, inUse⟩) kind other offers
    have served : s.heard.substitute e.val (flagByte true :: byte i.val :: byte alt.code :: byte j.val :: (leSigned 4 c ++ [flagByte forced]))
        = .ok (s.heard.setEntry e new) := by
      rw [State.substitute, loads]
      rfl
    have length : (leSigned 4 c).length = 4 := leBytes_length ..
    have names : ∀ k, SubEntry.Names s.heard e new k ↔ k = i ∨ (old.inUse = true ∧ k = old.signal) := fun k => by
      simp only [SubEntry.Names, new, true_and]
      exact Iff.rfl
    refine ⟨s.heard.setEntry e new, next_finish ?_, rfl, rfl, (setEntry_resolutions s.heard e new).1, fun k unnamed independent => ?_,
      fun inUse elsewhere unnamed => ?_, ?_⟩
    · rw [codeIs, serveSubstitute]
      have ten : (([byte e.val, 1, byte i.val, byte alt.code, byte j.val] ++ leSigned 4 c ++ [flagByte forced]).length == 10) = true := by
        simp [length]
      rw [ten, request_admitted access admitted serving idle]
      have first : param ([byte e.val, 1, byte i.val, byte alt.code, byte j.val] ++ leSigned 4 c ++ [flagByte forced]) 0 = e.val :=
        param_byte (by omega) _
      rw [first]
      change (match s.heard.substitute e.val
        (flagByte true :: byte i.val :: byte alt.code :: byte j.val :: (leSigned 4 c ++ [flagByte forced])) with
          | .ok s => s.answer p 0x12 .done []
          | .error r => s.heard.answer p 0x12 r []) = _
      rw [served]
    · exact setEntry_apart (fun h => unnamed ((names k).1 h)) fun m used signal x alternate h =>
        independent m used signal x alternate ((names x).1 h)
    · exact setEntry_alone (s := s.heard) ⟨inUse, rfl⟩ (fun h => elsewhere h.2.symm) fun m other used => unnamed m ⟨other, used⟩
    · intro was now own held given
      obtain ⟨plain, gives⟩ := setEntry_shows (s := s.heard) (e := e) (new := new) rfl fun m other used => single m ⟨other, used⟩
      refine ⟨plain, ?_⟩
      intro way blocks
      obtain ⟨value, nothing⟩ := gives way
      rw [alternateValue_eq] at value nothing
      refine ⟨fun x constant => ?_, fun none => ?_, fun signal => ?_⟩
      · exact value x (by simp only [new, constant])
      · exact nothing (by simp only [new, none])
      · have apart : ¬(new.inUse = true ∧ new.signal = j) := fun h => other signal h.2.symm
        subst signal
        obtain ⟨written, bad, blocked⟩ := setEntry_ownStatus (s := s.heard) (e := e) (new := new) (j := j) apart
        refine ⟨fun valid clear => ?_, fun invalid => ?_, fun k blocks single => ?_⟩
        · exact value _ (if_pos ((written clear).trans valid))
        · exact nothing (if_neg (bad invalid))
        · exact nothing (if_neg (blocked k blocks single))
  · let new : SubEntry := { old with inUse := false }
    have names : ∀ k, SubEntry.Names s.heard e new k ↔ old.inUse = true ∧ k = old.signal := fun k => by
      simp only [SubEntry.Names, new, Bool.false_eq_true, false_and, false_or]
      exact Iff.rfl
    refine ⟨s.heard.setEntry e new, next_finish ?_, rfl, rfl, (setEntry_resolutions s.heard e _).1,
      fun k unnamed independent => ?_, fun inUse => ⟨?_, fun unnamed => ?_⟩, fun unused => setEntry_silent unused rfl⟩
    · rw [serveReleaseSubstitute]
      exact (request_admitted access admitted serving idle).trans (withRow_inside (param_byte (by omega) []))
    · exact setEntry_apart (fun h => unnamed ((names k).1 h)) fun m used signal x alternate h =>
        independent m used signal x alternate ((names x).1 h)
    · obtain ⟨own, each⟩ := setEntry_resolutions s.heard e new
      have now := (each old.signal).1 ((names old.signal).2 ⟨inUse, rfl⟩)
      exact now.trans (resolved_congr own (.inr now)).symm
    · exact setEntry_alone (s := s.heard) ⟨inUse, rfl⟩ (fun h => nomatch h.1) fun m other used => unnamed m ⟨other, used⟩

end Sys2Proof.Machine
end

section
/-! PROOFS. ModeProofs: what an entry to a mode and a re-initialization leave in each block (R6, R21, R77, R125, R171, R182, R192,
R193). -/

namespace Sys2Proof.Machine

/-! ### An entry to a mode, block by block -/

/-- What a block sees while it takes an entry to `m` from `s`: the mode entered, with clock, images and signals as they stood. -/
def State.SeesEntry (s : State) (m : Mode) (v : State) : Prop :=
  v.now = s.now ∧ v.image = s.image ∧ v.running = s.running ∧ v.signals = s.signals ∧ v.control = (s.setMode m).control

/-- The part after its blocks have taken the entry to `m`, before a save begins and the MODE records are written. -/
def State.told (m : Mode) (s : State) : State := ((s.setMode m).beginCycle m).tellMode s.control.mode m

section
variable (s : State) (m : Mode)

theorem enterMode_eq : s.enterMode m = ((s.told m).savePoint m).writeMode := rfl

/-- What a save and the MODE records leave of the part as its blocks took the mode. -/
theorem enterMode_frame : s.enterMode m = { s.told m with
    store := (s.enterMode m).store, faults := (s.enterMode m).faults, display := (s.enterMode m).display
    mail := (s.enterMode m).mail } := by
  rw [enterMode_eq, savePoint_frame]
  rfl

theorem setMode_control : (s.setMode m).control = { s.control with
    mode := m, sleepTimer := if m = .standby then some (s.now + s.image.general.sleepDelay * 1000) else none } := by
  unfold State.setMode
  split <;> rfl

theorem told_sees : s.SeesEntry m (s.told m) := by
  have frame : s.told m = _ := congrArg (State.tellMode s.control.mode m) (beginCycle_frame (s.setMode m) m)
  rw [frame]
  refine ⟨?_, ?_, ?_, ?_, rfl⟩ <;> simp [State.tellMode]

theorem enterMode_sees : s.SeesEntry m (s.enterMode m) := by
  rw [enterMode_frame]
  exact told_sees s m

/-- The Mode Controller's part of an entry (R192). -/
theorem enterMode_control : (s.enterMode m).control = { s.control with
    mode := m, sleepTimer := if m = .standby then some (s.now + s.image.general.sleepDelay * 1000) else none } :=
  (enterMode_sees s m).2.2.2.2.trans (setMode_control s m)

@[simp] theorem enterMode_mode : (s.enterMode m).control.mode = m := by rw [enterMode_control]

@[simp] theorem enterMode_image : (s.enterMode m).image = s.image := (enterMode_sees s m).2.1

@[simp] theorem enterMode_running : (s.enterMode m).running = s.running := (enterMode_sees s m).2.2.1

@[simp] theorem enterMode_signals : (s.enterMode m).signals = s.signals := (enterMode_sees s m).2.2.2.1

@[simp] theorem enterMode_now : (s.enterMode m).now = s.now := (enterMode_sees s m).1

/-- The part as its first block takes the mode. -/
theorem begun_sees : s.SeesEntry m ((s.setMode m).beginCycle m) := by
  rw [beginCycle_frame]
  refine ⟨?_, ?_, ?_, ?_, rfl⟩ <;> simp

/-- Each block takes the change of mode with the entry in sight. -/
theorem enterMode_frames : ∃ v, s.SeesEntry m v ∧
    (s.enterMode m).frames = (frameMode s.control.mode m v ⟨s.frames, []⟩).st := by
  refine ⟨_, begun_sees s m, ?_⟩
  have same : ((s.setMode m).beginCycle m).frames = s.frames := by rw [beginCycle_frame]; exact setMode_frames s m
  rw [enterMode_frame, ← same]
  rfl

theorem enterMode_inputs : ∃ v, s.SeesEntry m v ∧ (s.enterMode m).inputs = (inputMode m v ⟨s.inputs, []⟩).st := by
  refine ⟨((s.setMode m).beginCycle m).runFrames (frameMode s.control.mode m), begun_sees s m, ?_⟩
  have same : ((s.setMode m).beginCycle m).inputs = s.inputs := by rw [beginCycle_frame]; exact setMode_inputs s m
  rw [enterMode_frame, ← same]
  rfl

theorem enterMode_doors : ∃ v, s.SeesEntry m v ∧ (s.enterMode m).doors = (doorMode m v ⟨s.doors, []⟩).st := by
  refine ⟨((s.setMode m).beginCycle m).runFrames (frameMode s.control.mode m) |>.runInputs (inputMode m), begun_sees s m, ?_⟩
  have same : ((s.setMode m).beginCycle m).doors = s.doors := by rw [beginCycle_frame]; exact setMode_doors s m
  rw [enterMode_frame, ← same]
  rfl

theorem enterMode_gauges : ∃ v, s.SeesEntry m v ∧ (s.enterMode m).gauges = (gaugeMode s.control.mode m v ⟨s.gauges, []⟩).st := by
  refine ⟨((s.setMode m).beginCycle m).runFrames (frameMode s.control.mode m) |>.runInputs (inputMode m) |>.runDoors (doorMode m),
    begun_sees s m, ?_⟩
  have same : ((s.setMode m).beginCycle m).gauges = s.gauges := by rw [beginCycle_frame]; exact setMode_gauges s m
  rw [enterMode_frame, ← same]
  rfl

theorem enterMode_warnings : ∃ v, s.SeesEntry m v ∧
    (s.enterMode m).warnings = (warningMode s.control.mode m v ⟨s.warnings, []⟩).st := by
  refine ⟨((s.setMode m).beginCycle m).runFrames (frameMode s.control.mode m) |>.runInputs (inputMode m) |>.runDoors (doorMode m)
    |>.runGauges (gaugeMode s.control.mode m), begun_sees s m, ?_⟩
  have same : ((s.setMode m).beginCycle m).warnings = s.warnings := by rw [beginCycle_frame]; exact setMode_warnings s m
  rw [enterMode_frame, ← same]
  rfl

theorem enterMode_service : (s.enterMode m).service = (serviceMode s.control.mode m ⟨s.service, []⟩).st := by
  have same : ((s.setMode m).beginCycle m).service = s.service := by rw [beginCycle_frame]; exact setMode_service s m
  rw [enterMode_frame, ← same]
  rfl

theorem enterMode_lamps : ∃ v, s.SeesEntry m v ∧ (s.enterMode m).lamps = (lampMode m v ⟨s.lamps, []⟩).st := by
  refine ⟨((s.setMode m).beginCycle m).runFrames (frameMode s.control.mode m) |>.runInputs (inputMode m) |>.runDoors (doorMode m)
    |>.runGauges (gaugeMode s.control.mode m) |>.runWarnings (warningMode s.control.mode m)
    |>.runService (fun _ => serviceMode s.control.mode m), begun_sees s m, ?_⟩
  have same : ((s.setMode m).beginCycle m).lamps = s.lamps := by rw [beginCycle_frame]; exact setMode_lamps s m
  rw [enterMode_frame, ← same]
  rfl

theorem enterMode_outbound : ∃ v, s.SeesEntry m v ∧ (s.enterMode m).outbound = (outboundMode m v ⟨s.outbound, []⟩).st := by
  refine ⟨((s.setMode m).beginCycle m).runFrames (frameMode s.control.mode m) |>.runInputs (inputMode m) |>.runDoors (doorMode m)
    |>.runGauges (gaugeMode s.control.mode m) |>.runWarnings (warningMode s.control.mode m)
    |>.runService (fun _ => serviceMode s.control.mode m) |>.runLamps (lampMode m), begun_sees s m, ?_⟩
  have same : ((s.setMode m).beginCycle m).outbound = s.outbound := by rw [beginCycle_frame]; exact setMode_outbound s m
  rw [enterMode_frame, ← same]
  rfl

/-- The display link takes the mode, and the MODE records are written. -/
theorem enterMode_display : ∃ v v', s.SeesEntry m v ∧ s.SeesEntry m v' ∧ (s.enterMode m).display =
    (writeKind .mode (modeContent (s.enterMode m).control) v' ⟨(displayMode s.control.mode m v ⟨s.display, []⟩).st, []⟩).st := by
  refine ⟨((s.setMode m).beginCycle m).runFrames (frameMode s.control.mode m) |>.runInputs (inputMode m) |>.runDoors (doorMode m)
    |>.runGauges (gaugeMode s.control.mode m) |>.runWarnings (warningMode s.control.mode m)
    |>.runService (fun _ => serviceMode s.control.mode m) |>.runLamps (lampMode m) |>.runOutbound (outboundMode m),
    (s.told m).savePoint m, begun_sees s m, ?_, ?_⟩
  · rw [savePoint_frame]
    exact told_sees s m
  · have same : ((s.setMode m).beginCycle m).display = s.display := by rw [beginCycle_frame]; exact setMode_display s m
    have control : (s.enterMode m).control = ((s.told m).savePoint m).control := rfl
    have told : ((s.told m).savePoint m).display = (s.told m).display := by rw [savePoint_frame]
    rw [control, ← same]
    change (writeKind .mode (modeContent ((s.told m).savePoint m).control) ((s.told m).savePoint m)
      ⟨((s.told m).savePoint m).display, []⟩).st = _
    rw [told]
    rfl

theorem enterMode_mail : ∃ rest, (s.enterMode m).mail = ((s.setMode m).beginCycle m).mail ++ rest := by
  have told : ∃ rest, (s.told m).mail = ((s.setMode m).beginCycle m).mail ++ rest := by
    simp only [State.told, State.tellMode, runDisplay_mail, runOutbound_mail, runLamps_mail, runService_mail, runWarnings_mail,
      runGauges_mail, runDoors_mail, runInputs_mail, runFrames_mail, List.append_assoc]
    exact ⟨_, rfl⟩
  obtain ⟨rest, eq⟩ := told
  have silent : (s.enterMode m).mail = ((s.told m).savePoint m).mail ++ [] :=
    congrArg (((s.told m).savePoint m).mail ++ ·) (mapRecords_out (a := ⟨((s.told m).savePoint m).display, []⟩))
  rw [silent, List.append_nil, savePoint_frame]
  exact ⟨rest, eq⟩

/-- What has been sent stands in the mail. -/
theorem mem_enterMode_mail {n : Notice} (h : n ∈ s.mail) : n ∈ (s.enterMode m).mail := by
  obtain ⟨rest, eq⟩ := enterMode_mail s m
  rw [eq]
  refine List.mem_append_left _ ?_
  have sent : n ∈ (s.setMode m).mail := by rw [setMode_mail]; exact h
  unfold State.beginCycle
  split
  · rw [runFaults_mail, runFaults_mail]
    exact List.mem_append_left _ (List.mem_append_left _ sent)
  · exact sent

/-- No entry but one to ACTIVE touches the Fault Unit before a save begins. -/
theorem told_store : (s.told m).store = s.store := by
  rw [State.told, tellMode_store, beginCycle_frame]
  exact setMode_store s m

theorem told_faults : (s.told m).faults = ((s.setMode m).beginCycle m).faults := rfl

theorem told_faults_inactive (inactive : m ≠ .active) : (s.told m).faults = s.faults := by
  rw [told_faults, State.beginCycle, if_neg inactive, setMode_faults]

theorem enterMode_store : (s.enterMode m).store = ((s.told m).savePoint m).store := rfl

theorem enterMode_faults : (s.enterMode m).faults = ((s.told m).savePoint m).faults := rfl

/-- An entry that requests no save leaves the store. -/
theorem enterMode_no_save (none : ¬(m = .standby ∨ (m = .sleep ∧ s.faults.changed = true))) :
    (s.enterMode m).store = s.store ∧ (s.enterMode m).faults = ((s.setMode m).beginCycle m).faults := by
  have none : ¬(m = .standby ∨ (m = .sleep ∧ (s.told m).faults.changed = true)) := by
    rintro (standby | ⟨sleep, changed⟩)
    · exact none (.inl standby)
    · rw [told_faults_inactive s m (by rw [sleep]; decide)] at changed
      exact none (.inr ⟨sleep, changed⟩)
  rw [enterMode_store, enterMode_faults, State.savePoint, if_neg none]
  exact ⟨told_store s m, rfl⟩

/-- An entry that requests a save leaves it to the store. -/
theorem enterMode_save (wanted : m = .standby ∨ (m = .sleep ∧ s.faults.changed = true)) :
    (s.enterMode m).store = ((s.told m).requestOperation .save).store
      ∧ (s.enterMode m).faults = ((s.told m).requestOperation .save).faults ∧ (s.told m).faults = s.faults := by
  have inactive : m ≠ .active := by rcases wanted with rfl | ⟨rfl, -⟩ <;> decide
  have faults := told_faults_inactive s m inactive
  have wanted : m = .standby ∨ (m = .sleep ∧ (s.told m).faults.changed = true) := by rwa [faults]
  rw [enterMode_store, enterMode_faults, State.savePoint, if_pos wanted]
  exact ⟨rfl, rfl, faults⟩

end

end Sys2Proof.Machine
end

section
/-! PROOFS. EndingProofs: re-initializations, the beginning and the end of CONFIGURING, the end of a select (R178, R179, R188, R193). -/

namespace Sys2Proof.Machine

/-! ### Frames at a change of mode -/

section
variable {s : State} {a : Acc FrameEngine}

@[simp] theorem onPorts_port (f : Port → PortRun → Told PortRun) (p : Port) :
    (FrameEngine.onPorts f a).st.ports.get p = (f p (a.st.ports.get p)).1 := tellRows_get ..

@[simp] theorem onPorts_entries (f : Port → PortRun → Told PortRun) : (FrameEngine.onPorts f a).st.entries = a.st.entries := rfl

@[simp] theorem onEntries_entry (f : Fin 128 → EntryRun → Told EntryRun) (e : Fin 128) :
    (FrameEngine.onEntries f a).st.entries.get e = (f e (a.st.entries.get e)).1 := tellRows_get ..

@[simp] theorem onEntries_ports (f : Fin 128 → EntryRun → Told EntryRun) : (FrameEngine.onEntries f a).st.ports = a.st.ports := rfl

/-- A change between two modes on the bus leaves the frames. -/
theorem frameMode_stays {old new : Mode} (awake : old ≠ .sleep) (runs : new = .active ∨ new = .standby) :
    frameMode old new s a = a := by
  have notSleep : (old == .sleep) = false := beq_eq_false_iff_ne.2 awake
  rcases runs with rfl | rfl
  · simp only [frameMode, notSleep]
    rfl
  · simp only [frameMode, notSleep]
    rfl

/-- Receive timers are held at BEGIN CONFIGURATION (R21). -/
theorem frameMode_configuring {old : Mode} (awake : old ≠ .sleep) (e : Fin 128) :
    (frameMode old .configuring s a).st.entries.get e = match (a.st.entries.get e).timer with
      | .running t => { a.st.entries.get e with timer := .held (t - s.now) }
      | _ => a.st.entries.get e := by
  have notSleep : (old == .sleep) = false := beq_eq_false_iff_ne.2 awake
  simp only [frameMode, notSleep]
  rw [if_neg (by decide), if_neg (by decide), onEntries_entry] <;> rfl

theorem frameMode_sleep_port {old : Mode} (p : Port) : (frameMode old .sleep s a).st.ports.get p =
    if (a.st.ports.get p).state.sends then { a.st.ports.get p with state := .listen } else a.st.ports.get p := by
  simp only [frameMode, beq_self_eq_true, ↓reduceIte, onPorts_port, onEntries_ports] <;> rfl

theorem frameMode_sleep_entry {old : Mode} (e : Fin 128) :
    (frameMode old .sleep s a).st.entries.get e = { a.st.entries.get e with timer := .stopped } := by
  simp only [frameMode, beq_self_eq_true, ↓reduceIte, onPorts_entries, onEntries_entry]

/-- Listening ports return to the bus at a wake (R6). -/
theorem frameMode_wakes {new : Mode} (runs : new = .active ∨ new = .standby) (p : Port) :
    (frameMode .sleep new s a).st.ports.get p = (if (a.st.ports.get p).state = .listen then
        { a.st.ports.get p with state := errorState (a.st.ports.get p).transmitErrors (a.st.ports.get p).receiveErrors }
      else a.st.ports.get p)
      ∧ (frameMode .sleep new s a).st.entries = a.st.entries := by
  rcases runs with rfl | rfl <;>
  · simp only [frameMode, beq_self_eq_true, ↓reduceIte]
    rw [if_neg (by decide)]
    simp only [onPorts_port, beq_iff_eq, onPorts_entries, and_true]

end

theorem modeFor_runs (ignition : Bool) : modeFor ignition = .active ∨ modeFor ignition = .standby := by
  cases ignition
  · exact .inr rfl
  · exact .inl rfl

theorem freshEntry_eq (cfg : FrameEntry) (now : Nat) : freshEntry cfg now =
    ⟨.waiting, if cfg.enabled = true ∧ cfg.timeout ≠ 0 then .running (now + cfg.timeout * 10) else .stopped, 0, 0, none⟩ := by
  unfold freshEntry receptionTimer
  by_cases enabled : cfg.enabled = true <;> by_cases timeout : cfg.timeout = 0 <;> simp [enabled, timeout]

/-! ### Re-initializations -/

section
variable (s : State) (starting : Bool)

@[simp] theorem reinit_image : (s.reinit starting).image = s.image := rfl
@[simp] theorem reinit_running : (s.reinit starting).running = s.image := rfl
@[simp] theorem reinit_now : (s.reinit starting).now = s.now := rfl
@[simp] theorem reinit_control : (s.reinit starting).control = s.control := rfl
@[simp] theorem reinit_store : (s.reinit starting).store = s.store := rfl
@[simp] theorem reinit_faults : (s.reinit starting).faults = s.faults := rfl
@[simp] theorem reinit_slot : (s.reinit starting).service.slot = s.service.slot := rfl
@[simp] theorem reinit_endDue : (s.reinit starting).service.endDue = s.service.endDue := rfl
@[simp] theorem reinit_service_ports : (s.reinit starting).service.ports = s.service.ports := rfl
@[simp] theorem reinit_frame_ports : (s.reinit starting).frames.ports = s.frames.ports := rfl

/-- Every entry of the Frame Table is fresh after a re-initialization (R21). -/
theorem reinit_entry (e : Fin 128) : (s.reinit starting).frames.entries.get e = freshEntry (s.image.frames.get e) s.now :=
  onEntries_entry (a := ⟨s.frames, []⟩) _ e

/-- Every signal is resolved after a re-initialization (R44). -/
theorem reinit_signals (i : Fin 256) :
    (s.reinit starting).signals.get i = resolved s.image (s.reinit starting).signals i :=
  reinitSignals_resolved starting { s with running := s.image } ⟨s.signals, []⟩ i

theorem reinit_mail : ∃ rest, (s.reinit starting).mail = s.mail ++ rest := by
  simp only [State.reinit, runService_mail, runOutbound_mail, runLamps_mail, runWarnings_mail, runGauges_mail, runDoors_mail,
    runInputs_mail, runFrames_mail, runSignals_mail, runDisplay_mail, List.append_assoc]
  exact ⟨_, rfl⟩

/-- The part at an end of CONFIGURING or of SLEEP, before the mode is entered that the ignition decides. -/
def State.renewed (s : State) : State := (s.reinit false).runFaults (reinitFaults s.running)

theorem leaveConfiguration_eq : s.leaveConfiguration = s.renewed.enterMode (modeFor s.ignition) := rfl

theorem wake_eq (sleeps : s.control.mode = .sleep) : s.wake = s.renewed.enterMode (modeFor s.renewed.ignition) := if_pos sleeps

theorem mem_leaveConfiguration_mail {n : Notice} (h : n ∈ s.mail) : n ∈ s.leaveConfiguration.mail := by
  rw [leaveConfiguration_eq]
  refine mem_enterMode_mail _ _ ?_
  obtain ⟨rest, eq⟩ := reinit_mail s false
  rw [State.renewed, runFaults_mail, eq]
  exact List.mem_append_left _ (List.mem_append_left _ h)

end

/-! ### Service at a change of mode -/

section
variable {a : Acc Service}

theorem endTest_ports (r : Result) (a : Acc Service) : (endTest r a).st.ports = a.st.ports := by
  unfold endTest
  split <;> rfl

/-- Staging records are emptied at an entry to CONFIGURING or SLEEP and at the end of CONFIGURING (R182). -/
theorem serviceMode_staging {old new : Mode} (empties : old = .configuring ∨ new = .configuring ∨ new = .sleep) (p : Port) :
    ((serviceMode old new a).st.ports.get p).staging = none := by
  simp only [serviceMode, if_pos empties]
  split <;> simp [mapServicePorts]

theorem serviceMode_sleep {old : Mode} (p : Port) : (serviceMode old .sleep a).st.ports.get p = ⟨none, none, none⟩ := by
  simp [serviceMode, mapServicePorts]

/-- Outside ACTIVE a change of mode leaves the timed command. -/
theorem serviceMode_slot {old new : Mode} (inactive : old ≠ .active) :
    (serviceMode old new a).st.slot = a.st.slot ∧ (serviceMode old new a).st.endDue = a.st.endDue := by
  simp only [serviceMode, if_neg inactive]
  split <;> split <;> exact ⟨rfl, rfl⟩

end

/-! ### The end of CONFIGURING -/

section
variable {s : State}

/-- What the end of CONFIGURING leaves (R179, R193). -/
theorem leaveConfiguration_leaves (mode : s.control.mode = .configuring) :
    let v := s.leaveConfiguration
    v.control.mode = modeFor s.ignition ∧ v.image = s.image ∧ v.running = s.image
      ∧ (∀ q, (v.service.ports.get q).staging = none) ∧ v.frames.ports = s.frames.ports
      ∧ (∀ e, v.frames.entries.get e = freshEntry (s.image.frames.get e) s.now)
      ∧ v.service.slot = s.service.slot ∧ v.service.endDue = s.service.endDue := by
  intro v
  have whole : v = s.renewed.enterMode (modeFor s.ignition) := leaveConfiguration_eq s
  have old : s.renewed.control.mode = .configuring := mode
  obtain ⟨w, -, frames⟩ := enterMode_frames s.renewed (modeFor s.ignition)
  have same : v.frames = s.renewed.frames := by
    rw [whole, frames, frameMode_stays (by rw [old]; decide) (modeFor_runs _)]
  have service : v.service = (serviceMode .configuring (modeFor s.ignition) ⟨s.renewed.service, []⟩).st := by
    rw [whole, enterMode_service, old]
  obtain ⟨slot, endDue⟩ := serviceMode_slot (a := ⟨s.renewed.service, []⟩) (old := .configuring) (new := modeFor s.ignition) (by decide)
  refine ⟨by rw [whole, enterMode_mode], by rw [whole, enterMode_image]; rfl, by rw [whole, enterMode_running]; rfl, fun q => ?_,
    by rw [same]; rfl, fun e => ?_, ?_, ?_⟩
  · rw [service]
    exact serviceMode_staging (.inl rfl) q
  · rw [same]
    exact reinit_entry s false e
  · rw [service, slot]
    rfl
  · rw [service, endDue]
    rfl

theorem modeFor_eq (ignition : Bool) : modeFor ignition = if ignition = true then .active else .standby := by cases ignition <;> rfl

end

/-! ### The beginning of CONFIGURING -/

theorem seesEntry_mode {s v : State} {m : Mode} (sees : s.SeesEntry m v) : v.control.mode = m := by
  rw [sees.2.2.2.2, setMode_mode]

theorem outboundMode_configuring (s : State) (a : Acc Outbound) (p : Port) :
    ((outboundMode .configuring s a).st.ports.get p).forward = [] := by
  simp [outboundMode, retime, Outbound.mapPorts]

theorem warningsDepart_recs (s : State) (a : Acc Warnings) (w : Fin 64) : (warningsDepart s a).st.recs.get w = WarningRun.reset := by
  simp only [warningsDepart, showPresent_st, say_st]
  exact tellRows_get ..

/-- What BEGIN CONFIGURATION leaves (R178, R193). -/
theorem enterMode_configuring (s : State) (active : s.control.mode = .active) :
    let v := s.enterMode .configuring
    v.doors.interlock = true
      ∧ (∀ q, (v.outbound.ports.get q).forward = [] ∧ (v.service.ports.get q).staging = none)
      ∧ v.warnings.stack = [] ∧ v.warnings.waiting = [] ∧ (∀ w, v.warnings.recs.get w = WarningRun.reset)
      ∧ ∀ e t, (s.frames.entries.get e).timer = .running t → (v.frames.entries.get e).timer = .held (t - s.now) := by
  intro v
  obtain ⟨d, seesDoors, doors⟩ := enterMode_doors s .configuring
  obtain ⟨o, -, outbound⟩ := enterMode_outbound s .configuring
  obtain ⟨w, -, warnings⟩ := enterMode_warnings s .configuring
  obtain ⟨f, seesFrames, frames⟩ := enterMode_frames s .configuring
  have departs : v.warnings = (warningsDepart w ⟨s.warnings, []⟩).st := by
    change (s.enterMode .configuring).warnings = _
    rw [warnings, active]
    rfl
  refine ⟨?_, fun q => ⟨?_, ?_⟩, ?_, ?_, fun x => ?_, fun e t runs => ?_⟩
  · change (s.enterMode .configuring).doors.interlock = true
    rw [doors]
    change interlockAsserted d.control.mode s.doors.allClosed = true
    rw [seesEntry_mode seesDoors]
    rfl
  · change ((s.enterMode .configuring).outbound.ports.get q).forward = []
    rw [outbound, outboundMode_configuring]
  · change ((s.enterMode .configuring).service.ports.get q).staging = none
    rw [enterMode_service]
    exact serviceMode_staging (.inr (.inl rfl)) q
  · rw [departs]
    rfl
  · rw [departs]
    rfl
  · rw [departs, warningsDepart_recs]
  · change ((s.enterMode .configuring).frames.entries.get e).timer = _
    rw [frames, frameMode_configuring (by rw [active]; decide), show (s.frames.entries.get e).timer = .running t from runs, seesFrames.1]

/-! ### Access -/

theorem accessNow_iff (s : State) : accessNow s = true ↔ (s.eff s.running.general.serviceEnable).asserted = true
    ∧ (s.eff s.running.general.brake).asserted = true ∧ s.moving = false := by
  simp [accessNow, and_assoc]

section
variable {s : State} {a : Acc Service}

theorem evaluateAccess_kept (kept : ¬(a.st.workshop = true ∧ accessNow s = false)) :
    evaluateAccess s a = ⟨{ a.st with workshop := accessNow s }, a.out⟩ := by
  have : (a.st.workshop && !accessNow s) = false := by
    cases held : a.st.workshop <;> cases now : accessNow s <;> simp_all
  simp only [evaluateAccess, this, Bool.false_eq_true, ↓reduceIte]
  rfl

theorem evaluateAccess_lost (lost : a.st.workshop = true ∧ accessNow s = false) : evaluateAccess s a =
    (let b : Acc Service := ⟨{ a.st with workshop := accessNow s }, a.out⟩
    if s.control.mode = .configuring then
      match a.st.slot with
      | none => b.say .endConfiguration
      | some _ => b.upd fun v => { v with endDue := true }
    else endTest (if s.moving then .wrongMode else .denied) b) := by
  simp only [evaluateAccess, lost, Bool.not_false, Bool.and_self, ↓reduceIte]
  rfl

end

/-- Settles O21. -/
theorem configurationBeginsAndEnds : Obligations.ConfigurationBeginsAndEnds := by
  refine ⟨fun p s => ⟨fun admits => ?_, fun admits => ?_⟩, fun s => ?_⟩
  · have active : s.control.mode = .active := List.mem_singleton.1 admits.1
    obtain ⟨interlock, queues, stack, waiting, recs, held⟩ := enterMode_configuring s.heard active
    refine ⟨s.heard.enterMode .configuring, next_finish (request_of_admits admits (by decide)), enterMode_mode _ _, ?_, interlock, queues, stack,
      waiting, fun w => by rw [recs]; rfl, held, enterMode_image _ _, enterMode_running _ _, enterMode_signals _ _⟩
    rw [enterMode_control]
    rfl
  · have configuring : s.heard.control.mode = .configuring := List.mem_singleton.1 admits.1
    obtain ⟨mode, image, running, staging, ports, entries, -⟩ := leaveConfiguration_leaves configuring
    refine ⟨s.heard.leaveConfiguration, next_finish (request_of_admits admits (by decide)), rfl, mode.trans (modeFor_eq _), image, running, staging,
      ports, fun e => (entries e).trans (freshEntry_eq _ _)⟩
  · intro a lost level
    refine ⟨accessNow_iff s, evaluateAccess_kept (a := ⟨s.service, []⟩), fun gone mode free => ?_, fun gone mode runs => ?_, fun q gone mode tests => ?_,
      fun gone mode others => ?_, fun c q r held => ?_, rfl⟩
    · rw [show a = _ from evaluateAccess_lost (a := ⟨s.service, []⟩) gone, if_pos mode, free]
      rfl
    · rw [show a = _ from evaluateAccess_lost (a := ⟨s.service, []⟩) gone, if_pos mode]
      split
      · next free => exact absurd free runs
      · rfl
    · rw [show a = _ from evaluateAccess_lost (a := ⟨s.service, []⟩) gone, if_neg mode]
      exact endTest_of_test tests
    · rw [show a = _ from evaluateAccess_lost (a := ⟨s.service, []⟩) gone, if_neg mode]
      exact endTest_of_no_test others
    · rw [completeTimed_of_slot (a := ⟨s.service, []⟩) held]
      rfl

/-! ### The end of a select -/

theorem beginOperation_current (s : State) : s.beginOperation.store.current = s.store.current := by
  unfold State.beginOperation
  split
  · rfl
  · rfl
  · exact spoil_current s.store
  · rfl

theorem requestOperation_current (r : StoreRequest) (s : State) : (s.requestOperation r).store.current = s.store.current := by
  unfold State.requestOperation
  split
  · rfl
  · exact beginOperation_current _

theorem enterMode_current (s : State) (m : Mode) : (s.enterMode m).store.current = s.store.current := by
  rw [enterMode_store, State.savePoint]
  split
  · rw [requestOperation_current, told_store]
  · rw [told_store]

theorem enterMode_activeSlot (s : State) (m : Mode) : (s.enterMode m).control.activeSlot = s.control.activeSlot := by
  rw [enterMode_control]

theorem enterMode_fallback (s : State) (m : Mode) : (s.enterMode m).control.fallback = s.control.fallback := by
  rw [enterMode_control]

/-- The image of the selected slot is in place and its slot active, and CONFIGURING has not ended. -/
def State.selected (n : Fin 4) (items : Persistent) (image : Image) (s : State) : State :=
  { s with store := s.store.saved items n, image := image, service := { s.service with endDue := false } }
    |>.activate n
    |>.runStore (fun _ a => completedWell (clearFallback a))

/-- The part at the end of a select, before a waiting operation begins. -/
def State.selectEnded (n : Fin 4) (items : Persistent) (image : Image) (s : State) : State :=
  (s.selected n items image).leaveConfiguration.runService fun _ => completeTimed .done

theorem selectDone_eq (n : Fin 4) (items : Persistent) (image : Image) (s : State) :
    s.selectDone n items image = (s.selectEnded n items image).beginOperation := rfl

theorem completeTimed_endDue {r : Result} {a : Acc Service} (clear : a.st.endDue = false) : (completeTimed r a).st.endDue = false := by
  rcases held : a.st.slot with _ | ⟨c, p⟩
  · rw [completeTimed_free held, clear]
  · rw [completeTimed_of_slot held]

theorem selected_current (n : Fin 4) (items : Persistent) (image : Image) (s : State) :
    (s.selected n items image).store.current = ⟨items, n, s.store.current.number + 1, true⟩ := by
  have store : (s.selected n items image).store = (completedWell (clearFallback ⟨s.store.saved items n, []⟩)).st := rfl
  rw [store, completedWell_eq, clearFallback_eq]
  exact saved_current s.store items n

/-- What the end of a select leaves (R188, R193). -/
theorem selectEnded_leaves (n : Fin 4) (items : Persistent) (image : Image) {s : State} (mode : s.control.mode = .configuring) :
    let v := s.selectEnded n items image
    v.image = image ∧ v.running = image ∧ v.control.mode = (if s.ignition then .active else .standby)
      ∧ v.control.activeSlot = n ∧ v.control.fallback = false
      ∧ v.store.current = ⟨items, n, s.store.current.number + 1, true⟩ ∧ v.service.slot = none ∧ v.service.endDue = false
      ∧ ∀ c p, s.service.slot = some (c, p) → .respond p c.code .done [] ∈ v.mail := by
  intro v
  obtain ⟨entered, imageIs, runs, -, -, -, slot, endDue⟩ := leaveConfiguration_leaves (s := s.selected n items image) mode
  refine ⟨imageIs, runs, entered.trans (modeFor_eq _), enterMode_activeSlot _ _, enterMode_fallback _ _,
    (enterMode_current _ _).trans (selected_current n items image s), completeTimed_slot _ _, completeTimed_endDue (endDue.trans rfl),
    fun c p held => respond_mem_completeTimed (slot.trans held)⟩

theorem selectSaved_eq {n : Fin 4} {items : Persistent} {image : Image} {s : State}
    (runs : s.store.operation = some (.selectSave n items)) (holds : (s.store.slots.get n).image = some image)
    (mode : s.control.mode = .configuring) : s.selectSaved = (s.selectEnded n items image).beginOperation := by
  simp only [State.selectSaved, runs, holds, mode, ↓reduceIte, selectDone_eq]

/-- Settles O30. -/
theorem selectCompletes : Obligations.SelectCompletes := by
  intro n items image s mode holds ends
  refine ⟨fun runs => ⟨s.selectEnded n items image, ?_, selectEnded_leaves n items image mode⟩, fun runs agrees taken => ?_⟩
  · rw [← selectSaved_eq runs holds mode]
    simp only [exec, execPersistenceSaveComplete, runs]
  · subst taken
    have read : (s.selectVerified n).store.operation = some (.selectSave n s.faults.items) := rfl
    have slots : ((s.selectVerified n).store.slots.get n).image = some image := by
      change ((s.store.spoil.slots).get n).image = _
      rw [spoil_slots, holds]
    have current : (s.selectVerified n).store.current = s.store.current := spoil_current s.store
    have left := selectEnded_leaves n s.faults.items image (s := s.selectVerified n) mode
    rw [current] at left
    refine ⟨(s.selectVerified n).selectEnded n s.faults.items image, ?_, left⟩
    rw [exec_selectReadComplete runs, selectRead_good holds agrees, if_pos rfl, selectSaved_eq read slots mode]

end Sys2Proof.Machine
end

section
/-! PROOFS. SleepProofs: the sleep timer, the running time, the entries to the modes, the ignition and the wake (R144, R189, R192). -/

namespace Sys2Proof.Machine

/-! ### The entry to SLEEP, block by block -/

section
variable {s : State} {m : Mode}

theorem sends_listen (st : PortState) : (if st.sends = true then .listen else st) =
    (match st with | .errorActive | .errorPassive => .listen | st => st : PortState) := by cases st <;> rfl

theorem onLamps_timers (f : Fin 24 → LampConfig → LampRun → Told LampRun) (a : Acc Lamps) :
    (Lamps.onLamps s f a).st.stepTimer = a.st.stepTimer ∧ (Lamps.onLamps s f a).st.bulbTimer = a.st.bulbTimer := by
  simp [Lamps.onLamps, relight]

theorem lampMode_sleep (a : Acc Lamps) : (lampMode .sleep s a).st.stepTimer = none ∧ (lampMode .sleep s a).st.bulbTimer = none := by
  simp only [lampMode]
  rw [(onLamps_timers ..).1, (onLamps_timers ..).2]
  simp only [upd_st, reduceCtorEq, false_and, ↓reduceIte, and_self]

theorem outboundMode_sleep (mode : s.control.mode = .sleep) (a : Acc Outbound) :
    (∀ p, let q := (outboundMode .sleep s a).st.ports.get p
      q.forward = [] ∧ q.response = [] ∧ q.flight = none)
      ∧ ∀ e, (outboundMode .sleep s a).st.schedule.get e = ⟨0, none⟩ := by
  refine ⟨fun p => by simp [outboundMode, retime, Outbound.mapPorts], fun e => ?_⟩
  have stops : ∀ cfg, entryRuns s cfg = false := fun cfg => by simp [entryRuns, mode]
  simp [outboundMode, retime, retimeEntry, stops]

theorem displayMode_sleep (old : Mode) (a : Acc Display) : (displayMode old .sleep s a).st.link = .idle
    ∧ (displayMode old .sleep s a).st.refresh = none ∧ (displayMode old .sleep s a).st.stall = none := ⟨rfl, rfl, rfl⟩

theorem writeKind_link (k : RecordKind) (content : List Byte) (a : Acc Display) : (writeKind k content s a).st.link = a.st.link :=
  mapRecords_link

theorem writeKind_refresh (k : RecordKind) (content : List Byte) (a : Acc Display) : (writeKind k content s a).st.refresh = a.st.refresh :=
  mapRecords_refresh

/-- An IDLE link has no stall timer after any write (R170). -/
theorem writeKind_stall_idle (k : RecordKind) (content : List Byte) {a : Acc Display} (idle : a.st.link = .idle) :
    (writeKind k content s a).st.stall = none := by
  change (restall s _).st.stall = none
  rw [restall_eq]
  refine if_neg ?_
  simp [idle]

/-- What an entry to SLEEP stops (R192). -/
theorem enterMode_sleep (s : State) :
    let u := s.enterMode .sleep
    u.doors.interlock = true
      ∧ (∀ p, (u.frames.ports.get p).state = (match (s.frames.ports.get p).state with
        | .errorActive | .errorPassive => .listen
        | st => st))
      ∧ (∀ e, (u.frames.entries.get e).timer = .stopped)
      ∧ (∀ p, (u.outbound.ports.get p).forward = [] ∧ (u.outbound.ports.get p).response = [] ∧ (u.outbound.ports.get p).flight = none)
      ∧ (∀ e, u.outbound.schedule.get e = ⟨0, none⟩)
      ∧ u.inputs.scanTimer = none ∧ u.inputs.sleepTimer = some (s.now + 100) ∧ u.gauges.updateTimer = none
      ∧ (∀ p, u.service.ports.get p = ⟨none, none, none⟩)
      ∧ u.display.link = .idle ∧ u.display.refresh = none ∧ u.display.stall = none
      ∧ u.lamps.stepTimer = none ∧ u.lamps.bulbTimer = none := by
  intro u
  obtain ⟨d, seesDoors, doors⟩ := enterMode_doors s .sleep
  obtain ⟨f, -, frames⟩ := enterMode_frames s .sleep
  obtain ⟨o, seesOutbound, outbound⟩ := enterMode_outbound s .sleep
  obtain ⟨i, seesInputs, inputs⟩ := enterMode_inputs s .sleep
  obtain ⟨g, -, gauges⟩ := enterMode_gauges s .sleep
  obtain ⟨l, -, lamps⟩ := enterMode_lamps s .sleep
  obtain ⟨x, y, -, -, display⟩ := enterMode_display s .sleep
  obtain ⟨queues, schedule⟩ := outboundMode_sleep (seesEntry_mode seesOutbound) ⟨s.outbound, []⟩
  obtain ⟨link, refresh, -⟩ := displayMode_sleep (s := x) s.control.mode ⟨s.display, []⟩
  obtain ⟨step, bulb⟩ := lampMode_sleep (s := l) ⟨s.lamps, []⟩
  rw [← outbound] at queues schedule
  rw [← lamps] at step bulb
  refine ⟨?_, fun p => ?_, fun e => ?_, queues, schedule, ?_, ?_, ?_, fun p => ?_, ?_, ?_, ?_, step, bulb⟩
  · change (s.enterMode .sleep).doors.interlock = true
    rw [doors]
    change interlockAsserted d.control.mode s.doors.allClosed = true
    rw [seesEntry_mode seesDoors]
    rfl
  · change ((s.enterMode .sleep).frames.ports.get p).state = _
    rw [frames, frameMode_sleep_port, ← sends_listen]
    split <;> rfl
  · change ((s.enterMode .sleep).frames.entries.get e).timer = _
    rw [frames, frameMode_sleep_entry]
  · change (s.enterMode .sleep).inputs.scanTimer = none
    rw [inputs]
    rfl
  · change (s.enterMode .sleep).inputs.sleepTimer = some (s.now + 100)
    rw [inputs, ← seesInputs.1]
    rfl
  · change (s.enterMode .sleep).gauges.updateTimer = none
    rw [gauges]
    rfl
  · change (s.enterMode .sleep).service.ports.get p = _
    rw [enterMode_service, serviceMode_sleep]
  · change (s.enterMode .sleep).display.link = _
    rw [display, writeKind_link, link]
  · change (s.enterMode .sleep).display.refresh = _
    rw [display, writeKind_refresh, refresh]
  · change (s.enterMode .sleep).display.stall = _
    rw [display]
    exact writeKind_stall_idle (a := ⟨_, []⟩) _ _ link

end

/-! ### The running time -/

theorem edit_seconds {u : FaultUnit} (bounded : u.items.seconds ≤ 4294967295) :
    edit (fun p => { p with seconds := satSucc Config.max32 p.seconds }) ⟨u, []⟩ = ⟨{ u with
      items := { u.items with seconds := min 4294967295 (u.items.seconds + 1) }
      changed := u.changed || decide (u.items.seconds < 4294967295) }, []⟩ := by
  have differs : ({ u.items with seconds := min 4294967295 (u.items.seconds + 1) } != u.items) = decide (u.items.seconds < 4294967295) := by
    rw [Bool.eq_iff_iff, bne_iff_ne, decide_eq_true_iff]
    constructor
    · intro other
      by_contra full
      refine other ?_
      have : min 4294967295 (u.items.seconds + 1) = u.items.seconds := by omega
      rw [this]
    · intro room same
      have := congrArg Persistent.seconds same
      simp only at this
      omega
  have top : satSucc Config.max32 u.items.seconds = min 4294967295 (u.items.seconds + 1) := satSucc_eq_min bounded
  dsimp only at differs
  rw [edit_eq]
  dsimp only
  rw [top, differs]
  simp only [ne_eq, not_true_eq_false, or_self, ↓reduceIte, List.append_nil]

/-- The part after a second of running time (R192). -/
theorem countSecond_eq {s : State} (mode : s.control.mode = .active) (low : s.control.remainder ≤ 1000)
    (bounded : s.faults.items.seconds ≤ 4294967295) : s.countSecond = { s with
      now := s.now + (1000 - s.control.remainder)
      control := { s.control with remainder := 0 }
      warnings := { s.warnings with stack := (s.advance (1000 - s.control.remainder)).warnings.stack }
      faults := { s.faults with
        items := { s.faults.items with seconds := min 4294967295 (s.faults.items.seconds + 1) }
        changed := s.faults.changed || decide (s.faults.items.seconds < 4294967295) } } := by
  have full : s.control.remainder + (1000 - s.control.remainder) - 1000 = 0 := by omega
  unfold State.countSecond State.runFaults
  rw [advance_frame]
  simp only [edit_seconds bounded, mode, ↓reduceIte, full, List.append_nil]

/-! ### Entries to the modes -/

section
variable {s : State} {m : Mode}

/-- An entry to a mode shows it in the MODE records (R192). -/
theorem enterMode_shows (s : State) (m : Mode) : s.ShowsMode (s.enterMode m) := by
  obtain ⟨v, v', -, sees', display⟩ := enterMode_display s m
  intro i before now
  have content : modeContent (s.enterMode m).control = [byte (s.enterMode m).control.mode.code,
      byte (s.enterMode m).control.activeSlot.val, byte (s.enterMode m).control.faultCount,
      flagByte (s.enterMode m).control.faultOverflow] ++ List.replicate 8 0 := rfl
  have told : ((displayMode s.control.mode m v ⟨s.display, []⟩).st.records.get i).current = before.current :=
    displayMode_current ..
  have kinds : v'.running.display.get i = s.running.display.get i := by rw [sees'.2.2.1]
  have record : now = if s.running.display.get i = .mode ∧ RecordKind.mode ≠ .none then
      writeRecord (modeContent (s.enterMode m).control) ((displayMode s.control.mode m v ⟨s.display, []⟩).st.records.get i)
      else (displayMode s.control.mode m v ⟨s.display, []⟩).st.records.get i := by
    change (s.enterMode m).display.records.get i = _
    rw [display, writeKind, mapRecords_get, kinds]
  by_cases mode : s.running.display.get i = .mode
  · rw [if_pos ⟨mode, by decide⟩] at record
    rw [record, if_pos mode, writeRecord_current, ← content]
    refine ⟨rfl, fun changed => ?_⟩
    rw [writeRecord_other (by rw [told]; exact changed)]
  · rw [if_neg fun h => mode h.1] at record
    rw [record, if_neg mode]
    exact ⟨told, fun changed => absurd told changed⟩

theorem enterMode_mail_active (s : State) (started : s.faults.started = true) :
    let b := ignitionCycle s (takeWear .ignitionCycle 0 s ⟨s.faults, []⟩)
    ((s.setMode .active).beginCycle .active).faults = b.st
      ∧ ((s.setMode .active).beginCycle .active).mail = s.mail ++ b.out := by
  intro b
  have wear : takeReport (.wear .ignitionCycle 0) (s.setMode .active) ⟨s.faults, []⟩ = takeWear .ignitionCycle 0 s ⟨s.faults, []⟩ := by
    simp only [takeReport, started]
    rfl
  have cycle : ∀ a : Acc FaultUnit, ignitionCycle s a =
      ⟨(ignitionCycle s ⟨a.st, []⟩).st, a.out ++ (ignitionCycle s ⟨a.st, []⟩).out⟩ := fun a => by
    simp only [ignitionCycle, edit_eq, List.nil_append]
  have whole : (s.setMode .active).beginCycle .active = { s.setMode .active with
      faults := (ignitionCycle s ⟨(takeWear .ignitionCycle 0 s ⟨s.faults, []⟩).st, []⟩).st
      mail := s.mail ++ (takeWear .ignitionCycle 0 s ⟨s.faults, []⟩).out
        ++ (ignitionCycle s ⟨(takeWear .ignitionCycle 0 s ⟨s.faults, []⟩).st, []⟩).out } := by
    rw [← wear]
    rfl
  have eq : b = _ := cycle _
  rw [whole, eq]
  exact ⟨rfl, List.append_assoc ..⟩

theorem requestOperation_joins (waits : .save ∈ s.store.waiting) : s.requestOperation .save = s := if_pos ⟨rfl, waits⟩

theorem requestOperation_save_begins (idle : s.store.operation = none) (alone : s.store.waiting = []) :
    s.requestOperation .save = { s with
      store := { ({ s.store with waiting := [.save] } : Store).spoil with
        operation := some (.save s.faults.items s.slotRecord), waiting := [] }
      faults := { s.faults with changed := false } } := by
  rw [requestOperation_begins alone]
  simp only [State.beginOperation, idle]
  rfl

theorem requestOperation_save_waits (runs : s.store.operation ≠ none) (absent : .save ∉ s.store.waiting) :
    s.requestOperation .save = { s with store := { s.store with waiting := s.store.waiting ++ [.save] } } := by
  obtain ⟨op, running⟩ := Option.ne_none_iff_exists'.1 runs
  unfold State.requestOperation
  rw [if_neg fun h => absent h.2]
  exact beginOperation_busy (op := op) running

/-- What an entry that requests a save does to store and Fault Unit (R189, R192). -/
theorem enterMode_saves (wanted : m = .standby ∨ (m = .sleep ∧ s.faults.changed = true)) :
    (.save ∈ s.store.waiting → (s.enterMode m).store = s.store ∧ (s.enterMode m).faults = s.faults)
      ∧ (.save ∉ s.store.waiting → s.store.operation ≠ none → (s.enterMode m).faults = s.faults
          ∧ (s.enterMode m).store = { s.store with waiting := s.store.waiting ++ [.save] })
      ∧ (s.store.waiting = [] → s.store.operation = none →
          (s.enterMode m).faults = { s.faults with changed := false }
          ∧ ∃ slot, (s.enterMode m).store.operation = some (.save s.faults.items slot)
            ∧ (s.control.fallback = false → slot = s.control.activeSlot)
            ∧ (s.enterMode m).store.waiting = [] ∧ (s.enterMode m).store.current = s.store.current
            ∧ (s.enterMode m).store.other = { s.store.other with valid := false }
            ∧ (s.enterMode m).store.slots = s.store.slots ∧ (s.enterMode m).store.status = s.store.status) := by
  obtain ⟨store, faults, before⟩ := enterMode_save s m wanted
  have stored := told_store s m
  refine ⟨fun waits => ?_, fun absent runs => ?_, fun alone idle => ?_⟩
  · rw [store, faults, requestOperation_joins (by rw [stored]; exact waits)]
    exact ⟨stored, before⟩
  · rw [store, faults, requestOperation_save_waits (by rw [stored]; exact runs) (by rw [stored]; exact absent), stored]
    exact ⟨before, rfl⟩
  · have begun := requestOperation_save_begins (s := s.told m) (by rw [stored]; exact idle) (by rw [stored]; exact alone)
    have control : (s.told m).control = (s.setMode m).control := (told_sees s m).2.2.2.2
    rw [store, faults, begun, before, stored]
    refine ⟨rfl, (s.told m).slotRecord, rfl, fun normal => ?_, rfl, ?_, ?_, spoil_slots _, spoil_status _⟩
    · rw [State.slotRecord, control, setMode_control]
      simp [normal]
    · exact spoil_current ({ s.store with waiting := [.save] } : Store)
    · exact spoil_other ({ s.store with waiting := [.save] } : Store)

end

/-! ### The ignition and the wake -/

section
variable {s : State} {i : Fin 256} {e : Effective}

theorem asserted_iff : e.asserted = true ↔ e.status ≠ .invalid ∧ e.value ≠ 0 := by simp [Effective.asserted, Effective.good]

theorem followIgnition_eq (i : Fin 256) (e : Effective) (s : State) : s.followIgnition i e =
    if s.running.general.ignition = i then
      match s.control.mode with
      | .standby => if e.status ≠ .invalid ∧ e.value ≠ 0 then s.enterMode .active else s
      | .active => if e.status ≠ .invalid ∧ e.value = 0 then s.enterMode .standby else s
      | _ => s
    else s := by
  have good : e.good = true ↔ e.status ≠ .invalid := by simp [Effective.good]
  simp only [State.followIgnition, asserted_iff, good] <;> rfl

/-- What a wake leaves (R192, R193). -/
theorem wake_leaves (sleeps : s.control.mode = .sleep) :
    let u := s.wake
    u.image = s.image ∧ u.running = s.image ∧ (∀ i, u.signals.get i = resolved s.image u.signals i)
      ∧ u.control.mode = (if u.ignition then .active else .standby)
      ∧ (∀ e, u.frames.entries.get e = freshEntry (s.image.frames.get e) s.now)
      ∧ ∀ p, u.frames.ports.get p = (if (s.frames.ports.get p).state = .listen then
          { s.frames.ports.get p with
            state := errorState (s.frames.ports.get p).transmitErrors (s.frames.ports.get p).receiveErrors }
        else s.frames.ports.get p) := by
  intro u
  have whole : u = s.renewed.enterMode (modeFor s.renewed.ignition) := wake_eq s sleeps
  have old : s.renewed.control.mode = .sleep := sleeps
  obtain ⟨w, -, frames⟩ := enterMode_frames s.renewed (modeFor s.renewed.ignition)
  rw [← whole, old] at frames
  have signals : u.signals = (s.reinit false).signals := by rw [whole, enterMode_signals]; rfl
  have running : u.running = s.image := by rw [whole, enterMode_running]; rfl
  refine ⟨by rw [whole, enterMode_image]; rfl, running, fun i => ?_, ?_, fun e => ?_, fun p => ?_⟩
  · rw [signals]
    exact reinit_signals s false i
  · have ignition : u.ignition = s.renewed.ignition := by
      unfold State.ignition State.eff
      rw [signals, running]
      rfl
    rw [ignition, ← modeFor_eq, whole, enterMode_mode]
  · rw [frames, (frameMode_wakes (modeFor_runs _) 0).2]
    exact reinit_entry s false e
  · rw [frames, (frameMode_wakes (modeFor_runs _) p).1]
    rfl

end

theorem advanceTo_allClosed (t : Nat) (s : State) : (s.advanceTo t).control.allClosed = s.control.allClosed := by
  rw [State.advanceTo, advance_frame]

/-- Settles O32. -/
theorem sleepAndRunningTime : Obligations.SleepAndRunningTime := by
  refine ⟨fun s t due => ?_, fun s mode low bounded => ?_, fun m s => ?_, fun i e s => ?_, fun s => ⟨fun awake => ?_, fun sleeps => ?_⟩⟩
  · intro v
    refine ⟨fun opened => ?_, fun closed => ?_⟩
    · have stays : v.sleepDue = v.restartSleep := if_neg (by rw [show v.control.allClosed = _ from advanceTo_allClosed t s, opened]; decide)
      exact (expiry_at _ s due).trans (by rw [stays]; rfl)
    · have enters : v.sleepDue = v.enterMode .sleep := if_pos (by rw [show v.control.allClosed = _ from advanceTo_allClosed t s, closed])
      obtain ⟨interlock, ports, timers, queues, schedule, scan, sleepScan, gauges, service, link, refresh, stall, step, bulb⟩ :=
        enterMode_sleep v
      refine ⟨v.enterMode .sleep, (expiry_at _ s due).trans (by rw [enters]), enterMode_mode _ _, ?_, interlock, ports, timers, queues,
        schedule, scan, sleepScan, gauges, service, link, refresh, stall, step, bulb, enterMode_image _ _, enterMode_signals _ _⟩
      rw [enterMode_control]
      rfl
  · have whole := countSecond_eq mode low bounded
    refine ⟨s.countSecond, happening_at _ s (by rw [mode]; rfl), ?_, ?_, ?_, ?_, ?_⟩
    · rw [whole]
    · rw [whole]
    · rw [whole]
    · rw [whole]
    · rw [whole]
  · refine ⟨enterMode_control s m, enterMode_image s m, enterMode_running s m, enterMode_signals s m, enterMode_shows s m,
      fun active => ?_, enterMode_saves, fun quiet => ?_⟩
    · subst active
      obtain ⟨store, faults⟩ := enterMode_no_save s .active (by simp)
      refine ⟨store, fun started => ?_⟩
      intro b
      obtain ⟨counted, sent⟩ := enterMode_mail_active s started
      obtain ⟨rest, mail⟩ := enterMode_mail s .active
      exact ⟨faults.trans counted, rest, by rw [mail, sent]⟩
    · have none : ¬(m = .standby ∨ (m = .sleep ∧ s.faults.changed = true)) := by
        rcases quiet with rfl | ⟨rfl, clean⟩
        · simp
        · simp [clean]
      obtain ⟨store, faults⟩ := enterMode_no_save s m none
      have inactive : m ≠ .active := by rcases quiet with rfl | ⟨rfl, -⟩ <;> decide
      exact ⟨store, faults.trans (told_faults_inactive s m inactive)⟩
  · intro ignition
    have eq := followIgnition_eq i e s
    refine ⟨fun named standby good set => ?_, fun named active good clear => ?_, fun stays => ?_⟩
    · rw [eq, if_pos named, standby]
      exact if_pos ⟨good, set⟩
    · rw [eq, if_pos named, active]
      exact if_pos ⟨good, clear⟩
    · rw [eq]
      by_cases named : s.running.general.ignition = i
      · rw [if_pos named]
        split
        · next standby =>
          refine if_neg fun ⟨good, set⟩ => ?_
          rcases stays with other | invalid | ⟨notStandby, -⟩ | ⟨-, clear⟩ | ⟨active, -⟩
          · exact other named
          · exact good invalid
          · exact notStandby standby
          · exact set clear
          · exact absurd (standby.symm.trans active) (by decide)
        · next active =>
          refine if_neg fun ⟨good, clear⟩ => ?_
          rcases stays with other | invalid | ⟨-, notActive⟩ | ⟨standby, -⟩ | ⟨-, set⟩
          · exact other named
          · exact good invalid
          · exact notActive active
          · exact absurd (standby.symm.trans active) (by decide)
          · exact set clear
        · rfl
      · rw [if_neg named]
  · exact if_neg awake
  · intro u
    obtain ⟨image, running, signals, mode, entries, ports⟩ := wake_leaves sleeps
    exact ⟨image, running, signals, mode, fun e => (entries e).trans (freshEntry_eq _ _), ports⟩

end Sys2Proof.Machine
end

section
/-! PROOFS. StartProofs: the end of STARTING (R1, R146, R149, R186, R189 to R191). -/

namespace Sys2Proof.Machine

/-! ### Notices of the Fault Unit stand -/

section
variable {s : State} {a : Acc FaultUnit} {m : Notice}

theorem mem_edit (f : Persistent → Persistent) (h : m ∈ a.out) : m ∈ (edit f a).out := by
  rw [edit_eq]
  exact List.mem_append_left _ h

theorem mem_checkAttribute (t : Fin 16) (h : m ∈ a.out) : m ∈ (checkAttribute t s a).out := by
  unfold checkAttribute
  dsimp only
  split
  · split
    · exact mem_edit _ h
    · exact h
  · exact h

theorem mem_takeWear (kind : WearKind) (index : Nat) (h : m ∈ a.out) : m ∈ (takeWear kind index s a).out := by
  refine List.foldlRecOn (motive := fun b : Acc FaultUnit => m ∈ b.out) _ _ h fun b hb t _ => ?_
  dsimp only
  split
  · exact mem_checkAttribute t (mem_edit _ hb)
  · exact hb

theorem mem_takeReport (r : Report) (h : m ∈ a.out) : m ∈ (takeReport r s a).out := by
  unfold takeReport
  split
  · exact h
  · cases r with
    | raise code source severity => exact mem_edit _ h
    | clear code source => exact mem_edit _ h
    | wear kind index => exact mem_takeWear kind index h

/-- What the start hands on first, the record count and the overflow indicator restored, stands (R149). -/
theorem startFaults_hands {items : Persistent} {changed : Bool}
    (other : items.records.length ≠ a.st.items.records.length ∨ items.overflow ≠ a.st.items.overflow) :
    .faultCount items.records.length items.overflow ∈ (startFaults items changed s a).out := by
  refine List.foldlRecOn (motive := fun b : Acc FaultUnit => _ ∈ b.out) _ _ ?_ fun b hb t _ => mem_checkAttribute t hb
  refine List.foldlRecOn (motive := fun b : Acc FaultUnit => _ ∈ b.out) _ _ ?_ fun b hb r _ => mem_takeReport r hb
  refine mem_edit _ ?_
  have differs : (items.records.length != a.st.items.records.length || items.overflow != a.st.items.overflow) = true := by
    simpa using other
  simp [handCount, Acc.sayIf, Acc.upd, Acc.say, differs]

end

/-! ### The start -/

section
variable {s : State}

/-- The part at its start, before the mode is entered that the ignition decides. -/
def State.started (items : Persistent) (changed : Bool) (s : State) : State :=
  s.reinit true |>.runFaults (startFaults items changed) |>.runFrames startPorts |>.writeMode

theorem start_eq (items : Persistent) (changed : Bool) (s : State) :
    s.start items changed = (s.started items changed).enterMode (modeFor (s.started items changed).ignition) := rfl

/-- With no operation running or waiting an entry to a mode leaves slots and flags of the store. -/
theorem enterMode_store_idle {s : State} (m : Mode) (idle : s.store.operation = none) (alone : s.store.waiting = []) :
    let t := (s.enterMode m).store
    t.slots = s.store.slots ∧ t.status = s.store.status ∧ t.reportedFallback = s.store.reportedFallback
      ∧ t.reportedFailure = s.store.reportedFailure := by
  intro t
  by_cases wanted : m = .standby ∨ (m = .sleep ∧ s.faults.changed = true)
  · have stored := told_store s m
    have begun := requestOperation_save_begins (s := s.told m) (by rw [stored]; exact idle) (by rw [stored]; exact alone)
    have store : t = _ := (enterMode_save s m wanted).1
    rw [store, begun, stored]
    exact ⟨spoil_slots _, spoil_status _, spoil_reportedFallback _, spoil_reportedFailure _⟩
  · have store : t = s.store := (enterMode_no_save s m wanted).1
    rw [store]
    exact ⟨rfl, rfl, rfl, rfl⟩

/-- What the start leaves (R1, R191). -/
theorem start_leaves (items : Persistent) (changed : Bool) {s : State} (mode : s.control.mode = .starting)
    (idle : s.store.operation = none) (alone : s.store.waiting = []) :
    let u := s.start items changed
    u.image = s.image ∧ u.running = s.image ∧ u.control.activeSlot = s.control.activeSlot ∧ u.control.fallback = s.control.fallback
      ∧ u.control.mode = (if u.ignition then .active else .standby)
      ∧ (∀ p, u.frames.ports.get p = if (s.image.general.ports.get p).inUse then
          { s.frames.ports.get p with
            state := .errorActive, transmitErrors := 0, receiveErrors := 0, bitRate := (s.image.general.ports.get p).bitRate }
          else s.frames.ports.get p)
      ∧ u.store.slots = s.store.slots ∧ u.store.status = s.store.status ∧ u.store.reportedFallback = s.store.reportedFallback
      ∧ u.store.reportedFailure = s.store.reportedFailure
      ∧ (items.records.length ≠ s.faults.items.records.length ∨ items.overflow ≠ s.faults.items.overflow →
        .faultCount items.records.length items.overflow ∈ u.mail) := by
  intro u
  have whole : u = (s.started items changed).enterMode (modeFor (s.started items changed).ignition) := start_eq items changed s
  have old : (s.started items changed).control.mode = .starting := mode
  obtain ⟨w, -, frames⟩ := enterMode_frames (s.started items changed) (modeFor (s.started items changed).ignition)
  rw [frameMode_stays (by rw [old]; decide) (modeFor_runs _), ← whole] at frames
  have ports : ∀ p, (s.started items changed).frames.ports.get p = if (s.image.general.ports.get p).inUse then
      { s.frames.ports.get p with
        state := .errorActive, transmitErrors := 0, receiveErrors := 0, bitRate := (s.image.general.ports.get p).bitRate }
      else s.frames.ports.get p := fun p => by
    have row : (s.started items changed).frames.ports.get p = _ :=
      onPorts_port (a := ⟨(s.reinit true).frames, []⟩) (fun p r => let cfg := s.image.general.ports.get p
        (if cfg.inUse then { r with state := .errorActive, transmitErrors := 0, receiveErrors := 0, bitRate := cfg.bitRate }
          else r, [])) p
    rw [row]
    rfl
  have signals : u.signals = (s.started items changed).signals := by rw [whole, enterMode_signals]
  have running : u.running = s.image := by rw [whole, enterMode_running]; rfl
  have ignition : u.ignition = (s.started items changed).ignition := by
    unfold State.ignition State.eff
    rw [signals, running]
    rfl
  obtain ⟨slots, status, fallback, failure⟩ := enterMode_store_idle (s := s.started items changed)
    (modeFor (s.started items changed).ignition) idle alone
  rw [← whole] at slots status fallback failure
  refine ⟨by rw [whole, enterMode_image]; rfl, running, by rw [whole, enterMode_activeSlot]; rfl, by rw [whole, enterMode_fallback]; rfl,
    by rw [ignition, ← modeFor_eq, whole, enterMode_mode], fun p => by rw [frames]; exact ports p, slots, status, fallback, failure,
    fun other => ?_⟩
  rw [whole]
  refine mem_enterMode_mail _ _ ?_
  rw [State.started, writeMode_mail, runFrames_mail, runFaults_mail]
  exact List.mem_append_left _ (List.mem_append_right _ (startFaults_hands other))

end

/-! ### The end of STARTING -/

/-- The end of STARTING with what the copies hold (R186, R189). -/
theorem leaveStarting_on (s : State) : s.leaveStarting =
    s.startOn (match s.store.restored with | some (c, _) => c.activeSlot | none => 0)
      (match s.store.restored with | some (c, _) => c.items | none => Persistent.empty)
      (match s.store.restored with | some (_, second) => second | none => true) s.store.restored.isNone := by
  rw [leaveStarting_eq]
  have same : s.store.verified.restored = s.store.restored := rfl
  rw [same]
  cases s.store.restored <;> rfl

section
variable {named : Fin 4} {items : Persistent} {second fresh : Bool} {s : State} {image : Image}

/-- A slot is good: it holds an image and its check agrees. -/
def Store.good (t : Store) (n : Fin 4) : Bool := (t.slots.get n).image.isSome && (t.slots.get n).checkAgrees

theorem verified_status (t : Store) (n : Fin 4) : t.verified.status.get n = t.good n := Tab.get_map ..

theorem verified_goodImage (t : Store) (n : Fin 4) : t.verified.goodImage n = if t.good n = true then (t.slots.get n).image else none := by
  rw [Store.goodImage, verified_status]
  rfl

/-- The part with its image in place, before the blocks start: on the slot the copy names, or on slot 0 on fallback. -/
def State.placed (slot : Fin 4) (fallback second : Bool) (image : Image) (s : State) : State :=
  { s with
    image := image, control := { s.control with activeSlot := slot, fallback := fallback }
    store := { s.store.verified with
      secondIsCurrent := second, reportedFallback := s.store.reportedFallback || fallback } }

theorem startOn_named (good : s.store.good named = true) (holds : (s.store.slots.get named).image = some image) :
    s.startOn named items second fresh = (s.placed named false second image).start items fresh := by
  have first : s.store.verified.goodImage named = some image := by rw [verified_goodImage, if_pos good, holds]
  have flag : (s.store.reportedFallback || false) = s.store.reportedFallback := Bool.or_false _
  unfold State.startOn State.placed
  rw [flag]
  simp only [first]
  rfl

theorem startOn_fallback (bad : s.store.good named = false) (good : s.store.good 0 = true)
    (holds : (s.store.slots.get 0).image = some image) : s.startOn named items second fresh =
      ((s.placed 0 true second image).runFaults (takeReport (.raise 0xF001 .profileStore 2))).start items fresh := by
  have first : s.store.verified.goodImage named = none := by rw [verified_goodImage, bad]; rfl
  have zero : s.store.verified.goodImage 0 = some image := by rw [verified_goodImage, if_pos good, holds]
  have flag : (s.store.reportedFallback || true) = true := Bool.or_true _
  unfold State.startOn State.placed
  rw [flag]
  simp only [first, zero]
  rfl

theorem startOn_stays (bad : s.store.good named = false) (zero : s.store.good 0 = false) :
    s.startOn named items second fresh = { s with store := { s.store.verified with secondIsCurrent := second } } := by
  have first : s.store.verified.goodImage named = none := by rw [verified_goodImage, bad]; rfl
  have none : s.store.verified.goodImage 0 = none := by rw [verified_goodImage, zero]; rfl
  unfold State.startOn
  simp only [first, none]

/-- The status flags tell the good slots, whatever STARTING comes to (R186). -/
theorem startOn_status (mode : s.control.mode = .starting) (idle : s.store.operation = none) (alone : s.store.waiting = []) :
    (s.startOn named items second fresh).store.status = s.store.verified.status := by
  have image : ∀ n, s.store.good n = true → ∃ image, (s.store.slots.get n).image = some image := fun n good =>
    Option.isSome_iff_exists.1 (Bool.and_eq_true_iff.1 good).1
  cases ok : s.store.good named with
  | true =>
    obtain ⟨image, holds⟩ := image named ok
    obtain ⟨-, -, -, -, -, -, -, status, -⟩ := start_leaves (s := s.placed named false second image) items fresh mode idle alone
    rw [startOn_named ok holds, status]
    rfl
  | false =>
    cases zero : s.store.good 0 with
    | true =>
      obtain ⟨image, holds⟩ := image 0 zero
      obtain ⟨-, -, -, -, -, -, -, status, -⟩ := start_leaves
        (s := (s.placed 0 true second image).runFaults (takeReport (.raise 0xF001 .profileStore 2))) items fresh mode idle alone
      rw [startOn_fallback ok zero holds, status]
      rfl
    | false => rw [startOn_stays ok zero]

end

/-- Settles O5. -/
theorem startingPutsImageInPlace : Obligations.StartingPutsImageInPlace := by
  intro s mode idles good named items second
  obtain ⟨idle, alone⟩ := idles mode
  have whole : s.leaveStarting = s.startOn named items second s.store.restored.isNone := leaveStarting_on s
  have goodIs : ∀ n, good n = s.store.good n := fun n => rfl
  refine ⟨s.leaveStarting, happening_at _ s (by rw [mode]; rfl), fun n => ?_, fun slot image chosen holdsGood holds => ?_,
    fun bad zero => ?_⟩
  · rw [whole, startOn_status mode idle alone, verified_status]
    rfl
  · cases ok : good named with
    | true =>
      rw [ok] at chosen
      have slotIs : slot = named := chosen
      rw [slotIs] at holds holdsGood ⊢
      rw [whole, startOn_named ok holds]
      obtain ⟨imageIs, running, active, fallback, entered, ports, slots, status, reported, failure, hands⟩ :=
        start_leaves (s := s.placed named false second image) items s.store.restored.isNone mode idle alone
      refine ⟨imageIs, running, active, fallback, entered, ports, slots, reported, failure, fun count reset => hands ?_, _, rfl, ?_,
        fun _ => ⟨rfl, rfl⟩, fun h => nomatch h⟩
      · rw [show (s.placed named false second image).faults = FaultUnit.reset from reset]
        exact count.imp_right fun set => by rw [set]; decide
      · rw [status, reported]
        rfl
    | false =>
      rw [ok] at chosen
      have slotIs : slot = 0 := chosen
      rw [slotIs] at holds holdsGood ⊢
      rw [whole, startOn_fallback ok holdsGood holds]
      obtain ⟨imageIs, running, active, fallback, entered, ports, slots, status, reported, failure, hands⟩ :=
        start_leaves (s := (s.placed 0 true second image).runFaults (takeReport (.raise 0xF001 .profileStore 2))) items
          s.store.restored.isNone mode idle alone
      refine ⟨imageIs, running, active, fallback, entered, ports, slots, reported, failure, fun count reset => hands ?_, _, rfl, ?_,
        fun h => (nomatch h), fun _ unstarted => ?_⟩
      · have held : ((s.placed 0 true second image).runFaults (takeReport (.raise 0xF001 .profileStore 2))).faults.items
            = Persistent.empty := by
          have faults : (s.placed 0 true second image).faults = FaultUnit.reset := reset
          rw [runFaults_faults, faults, takeReport_held _ _ rfl]
          rfl
        rw [held]
        exact count.imp_right fun set => by rw [set]; decide
      · rw [status, reported]
        rfl
      · have silent : takeReport (.raise 0xF001 .profileStore 2) (s.placed 0 true second image) ⟨s.faults, []⟩ = _ :=
          takeReport_held _ _ (a := ⟨s.faults, []⟩) unstarted
        constructor
        · change s.mail ++ (takeReport (.raise 0xF001 .profileStore 2) (s.placed 0 true second image) ⟨s.faults, []⟩).out = _
          rw [silent, List.append_nil]
        · exact congrArg Acc.st silent
  · rw [whole, startOn_stays bad zero]
    rfl

end Sys2Proof.Machine
end

section
/-! PROOFS. LampProofs: the resolution of the lamps, the LAMPS records and the events of the Lamp Unit (R122, R128 to R138). -/

namespace Sys2Proof.Machine

/-! ### LAMPS records -/

/-- Lamp `l` is lit: it is not resolved to OFF. -/
def Lamps.lit (u : Lamps) (l : Fin 24) : Bool := decide ((u.lamps.get l).resolved ≠ none)

theorem isSome_resolved (u : Lamps) (l : Fin 24) : (u.lamps.get l).resolved.isSome = u.lit l := by
  unfold Lamps.lit
  cases (u.lamps.get l).resolved <;> rfl

/-- The LAMPS records tell which lamps are lit, and no more (R138). -/
theorem lampsContent_inj {u v : Lamps} : lampsContent u.lamps = lampsContent v.lamps ↔ ∀ l, u.lit l = v.lit l := by
  constructor
  · intro same l
    obtain ⟨b, at_b, bit_b⟩ := lampsContent_bit u.lamps l
    obtain ⟨c, at_c, bit_c⟩ := lampsContent_bit v.lamps l
    obtain rfl : b = c := Option.some_inj.1 (at_b.symm.trans ((congrArg (·[l.val / 8]?) same).trans at_c))
    rw [← isSome_resolved, ← isSome_resolved, ← bit_b, bit_c]
  · intro same
    refine congrArg (fun n => content12 (leBytes 3 n)) (Nat.eq_of_testBit_eq fun i => ?_)
    rw [litNumber_testBit, litNumber_testBit]
    split
    · rw [isSome_resolved, isSome_resolved, same]
    · rfl

/-- A content of a LAMPS record that shows the lamps of `u`. -/
def Lamps.Shown (content : List Byte) (u : Lamps) : Prop :=
  content.length = 12 ∧ content.drop 3 = List.replicate 9 0
    ∧ ∀ l : Fin 24, ∃ b, content[l.val / 8]? = some b ∧ b.getLsbD (l.val % 8) = u.lit l

theorem lampsContent_shown (u : Lamps) : Lamps.Shown (lampsContent u.lamps) u := by
  refine ⟨(lampsContent_shape u.lamps).1, (lampsContent_shape u.lamps).2, fun l => ?_⟩
  rw [← isSome_resolved]
  exact lampsContent_bit u.lamps l

/-! ### Resolution -/

section
variable {s : State} {a : Acc Lamps} {l : Fin 24}

theorem relight_get (s : State) (a : Acc Lamps) (l : Fin 24) : (relight s a).st.lamps.get l =
    let r := a.st.lamps.get l
    let p := resolvedPattern s.control.mode s.testRuns a.st.bulbTimer.isSome (s.running.lamps.get l) r
    { r with resolved := p, output := litOn s.running a.st.step p } := by
  simp [relight]

/-- What a resolution leaves of the Lamp Unit beside lamps and buzzer. -/
theorem relight_frame (s : State) (a : Acc Lamps) : (relight s a).st = { a.st with
    lamps := (relight s a).st.lamps, buzzer := (relight s a).st.buzzer, buzzerTone := (relight s a).st.buzzerTone } := by
  unfold relight
  simp only [sayIf_st]
  rfl

theorem relight_duties (s : State) (a : Acc Lamps) :
    (relight s a).st.duty0 = a.st.duty0 ∧ (relight s a).st.duty1 = a.st.duty1 := by
  rw [relight_frame]
  exact ⟨rfl, rfl⟩

theorem relight_bulbTimer (s : State) (a : Acc Lamps) : (relight s a).st.bulbTimer = a.st.bulbTimer := by
  rw [relight_frame]

theorem relight_stepTimer (s : State) (a : Acc Lamps) : (relight s a).st.stepTimer = a.st.stepTimer := by
  rw [relight_frame]

/-- A resolution that leaves the lit lamps as they are writes no record (R138). -/
theorem relight_out_unchanged (same : ∀ l, (relight s a).st.lit l = a.st.lit l) : (relight s a).out = a.out := by
  rw [relight_out, if_neg (not_not_intro (lampsContent_inj.2 same)), List.append_nil]

/-- A resolution that changes which lamps are lit writes the LAMPS records (R138). -/
theorem relight_out_changed (other : ∃ l, (relight s a).st.lit l ≠ a.st.lit l) :
    (relight s a).out = a.out ++ [.record .lamps (lampsContent (relight s a).st.lamps)] := by
  obtain ⟨l, other⟩ := other
  rw [relight_out, if_pos fun same => other (lampsContent_inj.1 same l)]

/-- A resolution sends LAMPS records only. -/
theorem mem_relight_out {m : Notice} (member : m ∈ (relight s a).out) :
    m ∈ a.out ∨ ∃ content, m = .record .lamps content := by
  rw [relight_out, List.mem_append] at member
  refine member.imp_right fun member => ?_
  split at member
  · exact ⟨_, List.mem_singleton.1 member⟩
  · nomatch member

theorem relight_says {m : Notice} (member : m ∈ a.out) : m ∈ (relight s a).out := by
  rw [relight_out]
  exact List.mem_append_left _ member

theorem tellRows_silent {n : Nat} {α : Type} {t : Tab n α} {f : Fin n → α → Told α} (silent : ∀ i r, (f i r).2 = []) :
    (tellRows t f).2 = [] :=
  List.eq_nil_iff_forall_not_mem.2 fun m member => by
    obtain ⟨i, sent⟩ := tellRows_mem.1 member
    rw [silent] at sent
    nomatch sent

/-- A change of the lamps that sends nothing, and the resolution that follows. -/
theorem onLamps_changes (s : State) (f : Fin 24 → LampConfig → LampRun → LampRun) (a : Acc Lamps) : ∃ lamps : Tab 24 LampRun,
    Lamps.onLamps s (fun l cfg r => (f l cfg r, [])) a = relight s ⟨{ a.st with lamps := lamps }, a.out⟩
      ∧ ∀ k, lamps.get k = f k (s.running.lamps.get k) (a.st.lamps.get k) := by
  let told := tellRows a.st.lamps fun l r => ((f l (s.running.lamps.get l) r, []) : Told LampRun)
  have quiet : told.2 = [] := tellRows_silent fun _ _ => rfl
  refine ⟨told.1, ?_, fun k => tellRows_get ..⟩
  change relight s ⟨{ a.st with lamps := told.1 }, a.out ++ told.2⟩ = _
  rw [quiet, List.append_nil]

/-- Of ordered requests the one before all others is the head. -/
theorem head_of_first {l : List LampRequest} {q : LampRequest} (order : l.Pairwise LampRequest.before) (member : q ∈ l)
    (first : ∀ o ∈ l, o ≠ q → q.before o) : l.head? = some q := by
  cases l with
  | nil => nomatch member
  | cons head rest =>
    rcases List.mem_cons.1 member with rfl | later
    · rfl
    · by_cases same : head = q
      · rw [same]
        rfl
      · have ahead := (List.pairwise_cons.1 order).1 q later
        have behind := first head List.mem_cons_self same
        unfold LampRequest.before at ahead behind
        omega

/-- Table 7-4 for one lamp. -/
theorem resolvedPattern_cases (m : Mode) (test : Bool) (bulb : Option Nat) (cfg : LampConfig) (r : LampRun) :
    let p := resolvedPattern m test bulb.isSome cfg r
    let lit := test = true ∨ bulb ≠ none
    (r.shortOff = true ∨ cfg.owner = .none ∨ (m ≠ .active ∧ m ≠ .standby) → p = none)
    ∧ (r.shortOff = false → cfg.owner ≠ .none → m = .active → lit → p = some 0)
    ∧ (r.shortOff = false → cfg.owner ≠ .none → m = .active → ¬lit → p = ownerPattern cfg r)
    ∧ (r.shortOff = false → cfg.owner ≠ .none → m = .standby →
        p = (if cfg.standby = true ∨ cfg.owner = .door then ownerPattern cfg r else none)) := by
  intro p lit
  have lights : (test || bulb.isSome) = true ↔ lit := by
    simp only [lit, Bool.or_eq_true, Option.isSome_iff_ne_none]
  refine ⟨?_, ?_, ?_, ?_⟩
  · rintro (off | none | other)
    · exact if_pos off
    · simp only [p, resolvedPattern, none, ↓reduceIte, ite_self]
    · simp only [p, resolvedPattern]
      cases m
      case active => exact absurd rfl other.1
      case standby => exact absurd rfl other.2
      all_goals simp only [ite_self]
  · rintro on owned rfl shown
    simp only [p, resolvedPattern, on, if_neg owned, lights.2 shown, Bool.false_eq_true, ↓reduceIte]
  · rintro on owned rfl dark
    simp only [p, resolvedPattern, on, if_neg owned, mt lights.1 dark, Bool.false_eq_true, ↓reduceIte]
  · rintro on owned rfl
    simp only [p, resolvedPattern, on, if_neg owned, Bool.false_eq_true, ↓reduceIte, Bool.or_eq_true, beq_iff_eq]

theorem buzzerPattern_cases (s : State) :
    (s.control.mode = .active → s.testRuns = true → buzzerPattern s = some 0)
    ∧ (s.control.mode = .active → s.testRuns = false → buzzerPattern s = s.warnings.request)
    ∧ (s.control.mode ≠ .active → buzzerPattern s = none) := by
  refine ⟨fun active test => ?_, fun active test => ?_, fun other => if_neg other⟩
  · rw [buzzerPattern, if_pos active, if_pos test]
  · rw [buzzerPattern, if_pos active, if_neg (by simp [test])]

theorem ownerPattern_cases (cfg : LampConfig) (r : LampRun) :
    (cfg.owner = .none → ownerPattern cfg r = none)
    ∧ (cfg.owner = .warnings → r.requests = [] → ownerPattern cfg r = none)
    ∧ (cfg.owner = .warnings → r.requests.Pairwise LampRequest.before → ∀ q ∈ r.requests,
        (∀ o ∈ r.requests, o ≠ q → q.before o) → ownerPattern cfg r = some q.pattern)
    ∧ (cfg.owner = .signal → ownerPattern cfg r = if r.view.status ≠ .invalid ∧ r.view.value ≠ 0 then cfg.pattern else none)
    ∧ (cfg.owner = .door → ownerPattern cfg r = r.doorRequest) := by
  unfold ownerPattern
  refine ⟨fun owner => ?_, fun owner empty => ?_, fun owner order q member first => ?_, fun owner => ?_, fun owner => ?_⟩
  · rw [owner]
  · rw [owner, empty]
    rfl
  · simp only [owner, head_of_first order member first, Option.map_some]
  · simp only [owner, Effective.asserted, Effective.good, Bool.and_eq_true, bne_iff_ne]
  · rw [owner]

/-- The requests of a lamp when a warning gives it one (R113, R129). -/
def givenTo (q : LampRequest) (requests : List LampRequest) : List LampRequest :=
  addRequest q (requests.filter (·.warning != q.warning))

theorem mem_givenTo (q : LampRequest) (requests : List LampRequest) (o : LampRequest) :
    o ∈ givenTo q requests ↔ o = q ∨ (o ∈ requests ∧ o.warning ≠ q.warning) := by
  simp only [givenTo, addRequest_mem, List.mem_filter, bne_iff_ne]

theorem givenTo_ordered {q : LampRequest} {requests : List LampRequest} (order : requests.Pairwise LampRequest.before) :
    (givenTo q requests).Pairwise LampRequest.before :=
  addRequest_ordered (order.filter _) fun _ member => bne_iff_ne.1 (List.mem_filter.1 member).2

/-- Lamp `k` when lamp `l` is given the request `q`. -/
def LampRun.given (l : Fin 24) (q : LampRequest) (k : Fin 24) (r : LampRun) : LampRun :=
  if k = l then { r with requests := givenTo q r.requests } else r

theorem given_same (l : Fin 24) (q : LampRequest) (r : LampRun) : r.given l q l = { r with requests := givenTo q r.requests } :=
  if_pos rfl

theorem reinitLamps_out (s : State) (a : Acc Lamps) : ∃ sent,
    (reinitLamps s a).out = sent ++ [.record .lamps (lampsContent (reinitLamps s a).st.lamps)] := ⟨_, rfl⟩

theorem lampSignal_duties (i : Fin 256) (e : Effective) (s : State) (a : Acc Lamps) :
    let u := (lampSignal i e s a).st
    let b := if s.running.general.dimmer = i then setDuties e s a else a
    u.duty0 = b.st.duty0 ∧ u.duty1 = b.st.duty1 :=
  relight_duties ..

theorem dutyOf_cases (points : List (Int × Nat)) (e : Effective) :
    (e.status ≠ .invalid → dutyOf points e = interpolate points e.value) ∧ (e.status = .invalid → dutyOf points e = 1000) := by
  refine ⟨fun good => if_pos (bne_iff_ne.2 good), fun bad => if_neg ?_⟩
  simp [Effective.good, bad]

/-- Settles O45. -/
theorem lampsResolved : Obligations.LampsResolved := by
  refine ⟨fun s a l => ?_, fun s a => ?_, fun s a => ?_, fun i e s a => ?_, fun s => rfl, fun p img step => ?_, fun img step => ?_,
    fun img step p other => ?_, ownerPattern_cases, fun s a => ?_, fun s => ⟨fun l q => rfl, fun l w => rfl, fun d p => rfl, rfl⟩,
    fun s a => ?_⟩
  · rw [relight_get]
    obtain ⟨off, shown, owned, standby⟩ := resolvedPattern_cases s.control.mode s.testRuns a.st.bulbTimer
      (s.running.lamps.get l) (a.st.lamps.get l)
    exact ⟨off, shown, owned, standby, rfl, rfl⟩
  · intro u
    obtain ⟨test, active, other⟩ := buzzerPattern_cases s
    have sound : u.buzzer = buzzerPattern s := relight_buzzer s a
    rw [sound]
    exact ⟨test, active, other, relight_buzzerTone s a, relight_duties s a⟩
  · intro u
    have sound : u.buzzer = buzzerPattern s := relight_buzzer ..
    have step : u.step = a.st.step := relight_step ..
    rw [sound, step]
    exact ⟨rfl, rfl, relight_buzzerTone ..⟩
  · intro u g
    obtain ⟨duty0, duty1⟩ := lampSignal_duties i e s a
    refine ⟨fun dimmer good => ?_, fun dimmer bad => ?_, fun other => ?_⟩
    · rw [if_pos dimmer] at duty0 duty1
      exact ⟨duty0.trans ((dutyOf_cases ..).1 good), duty1.trans ((dutyOf_cases ..).1 good)⟩
    · rw [if_pos dimmer] at duty0 duty1
      exact ⟨duty0.trans ((dutyOf_cases ..).2 bad), duty1.trans ((dutyOf_cases ..).2 bad)⟩
    · rw [if_neg other] at duty0 duty1
      exact ⟨duty0, duty1⟩
  · cases p <;> rfl
  · change Pattern.steady.steps.getLsbD (step % 1) = true
    rw [Nat.mod_one]
    rfl
  · rw [patternOn, patternOf, if_neg other]
  · intro changed
    refine ⟨fun l q => ?_, fun l w => ?_, fun d p => ?_⟩
    · refine ⟨LampRun.given l q, onLamps_changes s (fun k _ => LampRun.given l q k) a, fun k other r => if_neg other, fun r => ?_⟩
      rw [given_same]
      exact ⟨rfl, mem_givenTo q r.requests, givenTo_ordered⟩
    · obtain ⟨lamps, whole, each⟩ := onLamps_changes s
        (fun k _ r => if k = l then { r with requests := r.requests.filter (·.warning != w) } else r) a
      refine ⟨lamps, whole, fun k => (each k).trans ?_⟩
      simp only [bne, beq_eq_decide, ← decide_not, ne_eq]
    · exact onLamps_changes s (fun _ cfg r => if cfg.owner = .door ∧ cfg.door = some d then { r with doorRequest := p } else r) a
  · intro lit shows u v
    refine ⟨relight_out_unchanged, fun other => ⟨_, lampsContent_shown _, relight_out_changed other⟩, ?_⟩
    obtain ⟨sent, out⟩ := reinitLamps_out s a
    exact ⟨_, sent, lampsContent_shown _, out⟩

end

end Sys2Proof.Machine
end

section
/-! PROOFS. LampEventProofs: the step timer, the bulb check, the repetition ends and the sensing results (R122, R128 to R137). -/

namespace Sys2Proof.Machine

/-! ### Repetition ends -/

/-- The Warning Engine with one repetition fewer for its top entry. -/
def Warnings.repeated (v : Warnings) (top : StackEntry) (rest : List StackEntry) : Warnings :=
  { v with stack := { top with remaining := top.remaining - 1 } :: rest }

section
variable {s : State} {v : Warnings} {n : Nat} {p : Fin 8} {top : StackEntry} {rest : List StackEntry}

theorem repetitionEnd_idle (s : State) (none : v.stack = [] ∨ v.request = none) (n : Nat) :
    repetitionEnd n s ⟨v, []⟩ = ⟨v, []⟩ := by
  unfold repetitionEnd
  rcases none with none | none
  · simp only [none]
    cases v.request <;> rfl
  · simp only [none]

theorem repetitionEnd_eq (n : Nat) (s : State) (stack : v.stack = top :: rest) (request : v.request = some p) :
    repetitionEnd n s ⟨v, []⟩ = if n = v.requestNumber ∧ top.remaining ≠ 255 then
        if top.remaining - 1 = 0 then showPresent s ((⟨{ v.repeated top rest with request := none }, []⟩ : Acc Warnings).say .buzzer)
        else ⟨v.repeated top rest, []⟩
      else ⟨v, []⟩ := by
  simp only [repetitionEnd, stack, request]
  rfl

theorem repetitionEnd_cases (n : Nat) (s : State) (stack : v.stack = top :: rest) (request : v.request = some p) :
    let a := repetitionEnd n s ⟨v, []⟩
    (n ≠ v.requestNumber ∨ top.remaining = 255 → a = ⟨v, []⟩)
    ∧ (n = v.requestNumber → top.remaining ≠ 255 → 1 < top.remaining → a = ⟨v.repeated top rest, []⟩)
    ∧ (n = v.requestNumber → top.remaining = 1 →
        a.st = { v.repeated top rest with request := none } ∧ .buzzer ∈ a.out) := by
  intro a
  have whole : a = _ := repetitionEnd_eq n s stack request
  rw [whole]
  refine ⟨fun other => ?_, fun number limited more => ?_, fun number last => ?_⟩
  · exact if_neg fun ⟨number, limited⟩ => other.elim (· number) limited
  · rw [if_pos ⟨number, limited⟩, if_neg (by omega)]
  · rw [if_pos ⟨number, by omega⟩, if_pos (by omega)]
    exact ⟨rfl, List.mem_append_left _ (by simp [Acc.say])⟩

end

/-! ### Step timer -/

/-- The Pattern Sequencer at its next step. -/
def stepped (s : State) (a : Acc Lamps) : Acc Lamps :=
  a.upd fun u => { u with step := (u.step + 1) % 65536, stepTimer := some (s.now + s.running.general.stepInterval) }

section
variable {s : State} {a : Acc Lamps}

theorem advanceTo_request (t : Nat) (s : State) : (s.advanceTo t).warnings.request = s.warnings.request
    ∧ (s.advanceTo t).warnings.requestNumber = s.warnings.requestNumber := by
  rw [State.advanceTo, advance_frame]
  exact ⟨rfl, rfl⟩

theorem takeStep_eq (s : State) (a : Acc Lamps) : takeStep s a = match s.control.mode, s.testRuns, s.warnings.request with
    | .active, false, some p => (relight s (stepped s a)).sayIf
        ((relight s (stepped s a)).st.step % (patternOf s.running p).period == 0) (.repetition s.warnings.requestNumber)
    | _, _, _ => relight s (stepped s a) := rfl

theorem takeStep_st (s : State) (a : Acc Lamps) : (takeStep s a).st = (relight s (stepped s a)).st := by
  rw [takeStep_eq]
  split
  · exact sayIf_st ..
  · rfl

theorem takeStep_ends {p : Fin 8} (active : s.control.mode = .active) (test : s.testRuns = false) (request : s.warnings.request = some p)
    (back : (a.st.step + 1) % 65536 % (patternOf s.running p).period = 0) :
    .repetition s.warnings.requestNumber ∈ (takeStep s a).out := by
  rw [takeStep_eq, active, test, request]
  simp only [relight_step]
  rw [show (stepped s a).st.step = (a.st.step + 1) % 65536 from rfl, back]
  exact List.mem_append_right _ (List.mem_singleton.2 rfl)

theorem takeStep_silent {n : Nat} (no : s.control.mode ≠ .active ∨ s.testRuns = true ∨
      ∀ p, s.warnings.request = some p → (a.st.step + 1) % 65536 % (patternOf s.running p).period ≠ 0)
    (sent : .repetition n ∈ (takeStep s a).out) : .repetition n ∈ a.out := by
  have resolved : .repetition n ∈ (relight s (stepped s a)).out → .repetition n ∈ a.out := fun member =>
    (mem_relight_out member).elim id fun ⟨_, record⟩ => nomatch record
  rw [takeStep_eq] at sent
  split at sent
  · next p active test request =>
    have away : (a.st.step + 1) % 65536 % (patternOf s.running p).period ≠ 0 :=
      (no.resolve_left (· active)).resolve_left (by simp [test]) p request
    rw [relight_step, show (stepped s a).st.step = (a.st.step + 1) % 65536 from rfl, beq_eq_false_iff_ne.2 away] at sent
    exact resolved sent
  · exact resolved sent

end

/-! ### Sensing -/

/-- What a lamp's sensing result makes of it (R134). -/
theorem senseLamp_cases (l : Fin 24) (cfg : LampConfig) (q : Sensing) (r : LampRun) :
    let r' := (senseLamp l cfg q r).1
    r'.latch = decide (q ≠ .loadPresent) ∧ (q = .loadPresent → r'.reported = none) ∧ r'.shortOff = (r.shortOff || decide (q = .short)) := by
  cases q with
  | loadPresent => simp [senseLamp, clearFlag_eq]
  | openLoad => simp [senseLamp]
  | short => simp [senseLamp]

/-- A fault of a lamp counts where its latch was clear (R134). -/
theorem senseLamp_wears (l : Fin 24) (cfg : LampConfig) {q : Sensing} (r : LampRun) (fault : q ≠ .loadPresent) :
    .report (.wear .lampFault l.val) ∈ (senseLamp l cfg q r).2 ↔ r.latch = false := by
  have raises : ∀ flag, .report (.wear .lampFault l.val) ∉ (raiseFlag flag cfg.fault (.lamp l)).2 := fun flag member => by
    obtain ⟨_, _, _, other⟩ := raiseFlag_mem.1 member
    nomatch other
  cases q with
  | loadPresent => exact absurd rfl fault
  | openLoad => cases latch : r.latch <;> simp [senseLamp, latch, raises]
  | short => cases latch : r.latch <;> simp [senseLamp, latch, raises]

/-- A fault of a lamp that was neither latched nor reported is raised (R134). -/
theorem senseLamp_raises (l : Fin 24) {cfg : LampConfig} {q : Sensing} {r : LampRun} {f : FaultCode} (code : cfg.fault = some f)
    (clear : r.reported = none) (latch : r.latch = false) (fault : q ≠ .loadPresent) :
    (senseLamp l cfg q r).1.reported = some f.code ∧ .report (.raise f.code (.lamp l) f.severity) ∈ (senseLamp l cfg q r).2 := by
  cases q with
  | loadPresent => exact absurd rfl fault
  | openLoad => simp [senseLamp, code, clear, latch, raiseFlag_clear]
  | short => simp [senseLamp, code, clear, latch, raiseFlag_clear]

theorem takeSensing_get (l : Fin 24) (q : Sensing) (s : State) (a : Acc Lamps) : ((takeSensing l q s a).st.lamps.get l) =
    let r := (senseLamp l (s.running.lamps.get l) q (a.st.lamps.get l)).1
    let p := resolvedPattern s.control.mode s.testRuns a.st.bulbTimer.isSome (s.running.lamps.get l) r
    { r with resolved := p, output := litOn s.running a.st.step p } := by
  simp only [takeSensing, Lamps.onLamps, relight_get, tellRows_get, ↓reduceIte]

/-- Lamp `k` when lamp `l` takes a sensing result. -/
def sensed (l : Fin 24) (q : Sensing) (k : Fin 24) (cfg : LampConfig) (r : LampRun) : Told LampRun :=
  if k = l then senseLamp l cfg q r else (r, [])

/-- The reports of a sensing result are those of its lamp. -/
theorem takeSensing_reports (l : Fin 24) (q : Sensing) (s : State) (a : Acc Lamps) (r : Report) :
    .report r ∈ (takeSensing l q s a).out ↔
      .report r ∈ a.out ∨ .report r ∈ (senseLamp l (s.running.lamps.get l) q (a.st.lamps.get l)).2 := by
  have rows : .report r ∈ (tellRows a.st.lamps fun k run => sensed l q k (s.running.lamps.get k) run).2 ↔
      .report r ∈ (senseLamp l (s.running.lamps.get l) q (a.st.lamps.get l)).2 := by
    rw [tellRows_mem]
    constructor
    · rintro ⟨k, member⟩
      by_cases same : k = l
      · rwa [sensed, if_pos same, same] at member
      · rw [sensed, if_neg same] at member
        nomatch member
    · intro member
      exact ⟨l, by rwa [sensed, if_pos rfl]⟩
  have whole : takeSensing l q s a = relight s ⟨{ a.st with
      lamps := (tellRows a.st.lamps fun k run => sensed l q k (s.running.lamps.get k) run).1 },
      a.out ++ (tellRows a.st.lamps fun k run => sensed l q k (s.running.lamps.get k) run).2⟩ :=
    rfl
  rw [whole]
  rw [← rows, ← List.mem_append]
  exact ⟨fun member => (mem_relight_out member).elim id fun ⟨_, record⟩ => (nomatch record), fun member => relight_says member⟩

/-- Settles O44. -/
theorem lampEventsTaken : Obligations.LampEventsTaken := by
  intro t s
  refine ⟨fun due => ?_, fun n p top rest stack request => repetitionEnd_cases n s stack request, repetitionEnd_idle s, fun n => rfl,
    fun due => ?_, fun l => ?_⟩
  · refine ⟨_, expiry_at _ s due, rfl, ?_⟩
    have mode := advanceTo_mode s t
    obtain ⟨requested, number⟩ := advanceTo_request t s
    rw [runLamps_lamps, takeStep_st, relight_step]
    refine ⟨rfl, relight_stepTimer .., fun l => ?_, fun l => ?_, fun p active test request back => ?_, fun no n sent => ?_⟩
    · rw [relight_get]
      rfl
    · rw [relight_get]
      rfl
    · rw [← number]
      exact List.mem_append_right _ (takeStep_ends (mode.trans active) test (requested.trans request) back)
    · rcases List.mem_append.1 sent with waits | told
      · exact waits
      · exact absurd (takeStep_silent (by rw [mode, requested]; exact no) told) List.not_mem_nil
  · refine ⟨_, expiry_at _ s due, rfl, relight_bulbTimer .., relight_step .., fun l => ?_⟩
    rw [← advanceTo_mode s t]
    exact congrArg LampRun.resolved (relight_get ..)
  · intro r
    refine ⟨fun dark q => happening_impossible _ s ?_, fun on duty q => ?_⟩
    · rcases dark with dark | dark
      · simp [conducts, show (s.lamps.lamps.get l).output = false from dark]
      · simp [conducts, dark]
    · obtain ⟨latch, cleared, short⟩ := senseLamp_cases l (s.running.lamps.get l) q r
      have reports := fun report => takeSensing_reports l q s ⟨s.lamps, []⟩ report
      simp only [List.not_mem_nil, false_or] at reports
      refine ⟨_, happening_at _ s (by simp [conducts, duty]; exact on), rfl, ?_⟩
      rw [runLamps_lamps, takeSensing_get, runLamps_mail]
      refine ⟨latch, cleared, short, fun is => ?_, fun fault => ?_, fun f code clear unlatched fault => ?_⟩
      · have off : (senseLamp l (s.running.lamps.get l) q r).1.shortOff = true := by rw [short, is]; simp
        have dark := (resolvedPattern_cases s.control.mode s.testRuns s.lamps.bulbTimer (s.running.lamps.get l)
          (senseLamp l (s.running.lamps.get l) q r).1).1 (.inl off)
        exact congrArg (litOn s.running s.lamps.step) dark
      · rw [List.mem_append, reports, senseLamp_wears l _ r fault, or_comm]
      · obtain ⟨flag, raised⟩ := senseLamp_raises l code clear unlatched fault
        exact ⟨flag, List.mem_append_right _ ((reports _).2 raised)⟩

end Sys2Proof.Machine
end

section
/-! PROOFS. WarningDelayProofs: the evaluation of a warning and the ends of its delays (R104 to R108, R110 to R113). -/

namespace Sys2Proof.Machine

/-! ### Truths -/

section
variable {cfg : WarningConfig} {views : Tab 256 WarningView}

theorem truth_iff (op : Operator) (threshold hysteresis : Int) (present : Bool) (v : Int) :
    op.truth threshold hysteresis present v = true ↔
      let slack : Int := if present = true then hysteresis else 0
      match op with
      | .above => threshold - slack < v
      | .below => v < threshold + slack
      | .equal => v = threshold
      | .notEqual => v ≠ threshold := by
  cases op <;> cases present <;> simp [Operator.truth]

theorem holds_iff (op : Operator) (a b : Int) : op.holds a b = true ↔ match op with
    | .above => b < a
    | .below => a < b
    | .equal => a = b
    | .notEqual => a ≠ b := by
  cases op <;> simp [Operator.holds]

theorem good_iff (e : Effective) : (!e.good) = true ↔ e.status = .invalid := by
  simp [Effective.good]

theorem primaryTruth_iff (cfg : WarningConfig) (views : Tab 256 WarningView) (present : Bool) :
    let view := views.get cfg.primary
    primaryTruth cfg views present = true ↔
      (cfg.watch = true ∧ view.eff.status = .invalid)
      ∨ (cfg.watch = false ∧ ¬(view.eff.status = .invalid ∧ view.eff.reason = some .neverReceived ∧ view.delivered = false)
        ∧ cfg.op.truth cfg.threshold cfg.hysteresis present view.eff.value = true) := by
  intro view
  unfold primaryTruth
  cases watch : cfg.watch with
  | true => simpa using good_iff (views.get cfg.primary).eff
  | false =>
    simp only [Bool.false_eq_true, ↓reduceIte, false_and, true_and, false_or]
    have unseen : (!(views.get cfg.primary).eff.good && (views.get cfg.primary).eff.reason == some .neverReceived
        && !(views.get cfg.primary).delivered) = true ↔
        (view.eff.status = .invalid ∧ view.eff.reason = some .neverReceived ∧ view.delivered = false) := by
      rw [Bool.and_eq_true, Bool.and_eq_true, good_iff, beq_iff_eq, Bool.not_eq_true', and_assoc]
    split
    · next never => exact ⟨fun h => (nomatch h), fun h => absurd (unseen.1 never) h.1⟩
    · next seen => exact ⟨fun h => ⟨mt unseen.2 seen, h⟩, And.right⟩

theorem qualifierHolds_iff (cfg : WarningConfig) (views : Tab 256 WarningView) : qualifierHolds cfg views = true ↔
    ∀ q, cfg.qualifier = some q →
      let e := (views.get q.signal).eff
      e.status = .invalid ∨ q.op.holds e.value q.threshold = true := by
  unfold qualifierHolds
  cases cfg.qualifier with
  | none => exact ⟨fun _ _ h => (nomatch h), fun _ => rfl⟩
  | some q =>
    simp only [Bool.or_eq_true, good_iff, Option.some.injEq, forall_eq']

end

/-! ### Operations on the lists and what they send -/

section
variable {s : State} {a : Acc Warnings} {w : Fin 64}

/-- `b` comes from `a` by a pass that sends what it sends after what was sent. -/
def Acc.Says (a b : Acc Warnings) : Prop := ∃ sent, b.out = a.out ++ sent

theorem says_mem {a b : Acc Warnings} {m : Notice} (h : a.Says b) (member : m ∈ a.out) : m ∈ b.out := by
  obtain ⟨sent, out⟩ := h
  rw [out]
  exact List.mem_append_left _ member

theorem topChanged_says (s : State) (a : Acc Warnings) : a.Says (topChanged s a) := ⟨_, topChanged_out s a⟩

theorem push_says (w : Fin 64) (s : State) (a : Acc Warnings) : a.Says (push w s a) := ⟨_, topChanged_out ..⟩

theorem arrive_says (w : Fin 64) (s : State) (a : Acc Warnings) : a.Says (arrive w s a) := by
  unfold arrive
  extract_lets b
  split
  · exact push_says w s b
  · exact ⟨_, rfl⟩

theorem promote_says (s : State) (a : Acc Warnings) : a.Says (promote s (topChanged s) a) := by
  unfold promote
  split
  · split
    · exact push_says _ s (a.upd _)
    · exact topChanged_says ..
  · exact topChanged_says ..

theorem withdraw_says (w : Fin 64) (s : State) (a : Acc Warnings) : a.Says (withdraw w s a) := by
  unfold withdraw
  extract_lets b
  split
  · exact ⟨_, rfl⟩
  · split
    · exact promote_says s (b.upd _)
    · exact ⟨_, rfl⟩

theorem arrive_listed (w : Fin 64) (s : State) (a : Acc Warnings) : w ∈ (arrive w s a).st.listed := by
  unfold arrive
  extract_lets b
  split
  · simp [Warnings.listed, push]
  · exact List.mem_append_right _ ((enqueue_perm s b.st.recs w _).mem_iff.2 List.mem_cons_self)

theorem giveStamp_get (w : Fin 64) (v : Warnings) (k : Fin 64) :
    (giveStamp w v).recs.get k = { v.recs.get k with stamp := ((giveStamp w v).recs.get k).stamp } := by
  unfold giveStamp
  dsimp only
  split
  · rw [Tab.get_modify]
    split
    · next same => rw [same]
    · rfl
  · rw [Tab.get_map, Tab.get_modify]
    split
    · next same => rw [same]
    · rfl

theorem giveStamp_stamp (w : Fin 64) (v : Warnings) : ((giveStamp w v).recs.get w).stamp ≠ none := by
  unfold giveStamp
  dsimp only
  split
  · rw [Tab.get_modify, if_pos rfl]
    exact Option.some_ne_none _
  · rw [Tab.get_map, Tab.get_modify, if_pos rfl]
    exact Option.some_ne_none _

theorem arrive_recs (w : Fin 64) (s : State) (a : Acc Warnings) : (arrive w s a).st.recs = (giveStamp w a.st).recs := by
  unfold arrive
  extract_lets b
  split
  · exact push_recs w s b
  · rfl

/-! ### Entries to ON and to OFF -/

/-- The record of a warning that has entered ON (R110 to R112). -/
def WarningRun.entered (cfg : WarningConfig) (w : Fin 64) (r : WarningRun) : WarningRun :=
  { r with
    state := .on, delay := none, acked := if r.state = .off ∨ r.state = .arming then false else r.acked
    reported := (raiseFlag r.reported cfg.fault (.warning w)).1 }

/-- The lamp request that a warning gives (R113). -/
def lampGiven (cfg : WarningConfig) (w : Fin 64) : List Notice :=
  match cfg.lamp with
  | some (l, p) => [.lampGive l ⟨w, cfg.level, p⟩]
  | none => []

/-- The record of a warning that has entered OFF (R110 to R112). -/
def WarningRun.ended (w : Fin 64) (r : WarningRun) : WarningRun :=
  { r with state := .off, delay := none, acked := false, reported := (clearFlag r.reported (.warning w)).1 }

/-- The withdrawal of the lamp request of a warning that was on (R113). -/
def lampWithdrawn (cfg : WarningConfig) (w : Fin 64) (r : WarningRun) : List Notice :=
  if r.state = .off ∨ r.state = .arming then []
  else match cfg.lamp with
    | some (l, _) => [.lampWithdraw l w]
    | none => []

theorem mem_lampWithdrawn {cfg : WarningConfig} {r : WarningRun} {l : Fin 24} {p : Fin 8} (off : r.state ≠ .off)
    (arming : r.state ≠ .arming) (lamp : cfg.lamp = some (l, p)) : .lampWithdraw l w ∈ lampWithdrawn cfg w r := by
  rw [lampWithdrawn, if_neg fun is => is.elim off arming, lamp]
  exact List.mem_singleton.2 rfl

theorem enterOn_fresh (new : (a.st.recs.get w).state = .off ∨ (a.st.recs.get w).state = .arming) :
    let cfg := s.running.warnings.get w
    let r := a.st.recs.get w
    enterOn w s a = arrive w s ⟨{ a.st with recs := a.st.recs.set w (r.entered cfg w) },
      a.out ++ (raiseFlag r.reported cfg.fault (.warning w)).2 ++ lampGiven cfg w⟩ := by
  have is : ((a.st.recs.get w).state == .off || (a.st.recs.get w).state == .arming) = true := by simpa using new
  simp only [enterOn, is, ↓reduceIte, WarningRun.entered, if_pos new, lampGiven]
  cases (s.running.warnings.get w).lamp with
  | none =>
    simp only [List.append_nil]
    rfl
  | some request => rfl

theorem enterOn_again (old : ¬((a.st.recs.get w).state = .off ∨ (a.st.recs.get w).state = .arming)) :
    let cfg := s.running.warnings.get w
    let r := a.st.recs.get w
    enterOn w s a = ⟨{ a.st with recs := a.st.recs.set w (r.entered cfg w) },
      a.out ++ (raiseFlag r.reported cfg.fault (.warning w)).2⟩ := by
  have is : ((a.st.recs.get w).state == .off || (a.st.recs.get w).state == .arming) = false := by simpa using old
  simp only [enterOn, is, Bool.false_eq_true, ↓reduceIte, WarningRun.entered, if_neg old]
  rfl

theorem enterOff_eq (w : Fin 64) (s : State) (a : Acc Warnings) :
    let r := a.st.recs.get w
    let b : Acc Warnings := ⟨{ a.st with recs := a.st.recs.set w (r.ended w) },
      a.out ++ (clearFlag r.reported (.warning w)).2 ++ lampWithdrawn (s.running.warnings.get w) w r⟩
    enterOff w s a = if r.presentable = true then withdraw w s b else b := by
  intro r b
  unfold enterOff
  extract_lets cleared set said lit
  have same : lit = b := by
    have silent : lampWithdrawn (s.running.warnings.get w) w r = [] → said = b := fun none => by
      simp only [b, none, List.append_nil]
      rfl
    simp only [lit]
    split
    · next off => exact silent (if_pos (.inl off))
    · next arming => exact silent (if_pos (.inr arming))
    · next none _ _ => exact silent (by rw [lampWithdrawn, none, ite_self])
    · next l p some off arming =>
      have told : lampWithdrawn (s.running.warnings.get w) w r = [.lampWithdraw l w] := by
        rw [lampWithdrawn, if_neg fun is => is.elim off arming, some]
      simp only [b, told]
      rfl
  rw [same]

/-- Where a warning's entry to ON leaves its record; only the stamp is another's to give (R110 to R112). -/
theorem enterOn_get (w : Fin 64) (s : State) (a : Acc Warnings) : (enterOn w s a).st.recs.get w =
    { (a.st.recs.get w).entered (s.running.warnings.get w) w with stamp := ((enterOn w s a).st.recs.get w).stamp } := by
  by_cases new : (a.st.recs.get w).state = .off ∨ (a.st.recs.get w).state = .arming
  · rw [enterOn_fresh new, arrive_recs, giveStamp_get, Tab.get_set_self]
  · rw [enterOn_again new, Tab.get_set_self]

theorem enterOn_get_other {k : Fin 64} (other : k ≠ w) (s : State) (a : Acc Warnings) :
    ((enterOn w s a).st.recs.get k).state = (a.st.recs.get k).state := by
  by_cases new : (a.st.recs.get w).state = .off ∨ (a.st.recs.get w).state = .arming
  · rw [enterOn_fresh new, arrive_recs, giveStamp_get, Tab.get_set_ne _ _ other]
  · rw [enterOn_again new, Tab.get_set_ne _ _ other]

theorem enterOff_get (w : Fin 64) (s : State) (a : Acc Warnings) : (enterOff w s a).st.recs.get w =
    { (a.st.recs.get w).ended w with stamp := ((enterOff w s a).st.recs.get w).stamp } := by
  rw [enterOff_eq]
  split
  · rw [withdraw_recs, Tab.get_modify, if_pos rfl, Tab.get_set_self]
  · rw [Tab.get_set_self]

theorem enterOff_get_other {k : Fin 64} (other : k ≠ w) (s : State) (a : Acc Warnings) :
    (enterOff w s a).st.recs.get k = a.st.recs.get k := by
  rw [enterOff_eq]
  split
  · rw [withdraw_recs, Tab.get_modify, if_neg other, Tab.get_set_ne _ _ other]
  · rw [Tab.get_set_ne _ _ other]

theorem enterOff_says (w : Fin 64) (s : State) (a : Acc Warnings) {m : Notice}
    (said : m ∈ (clearFlag (a.st.recs.get w).reported (.warning w)).2 ++ lampWithdrawn (s.running.warnings.get w) w (a.st.recs.get w)) :
    m ∈ (enterOff w s a).out := by
  rw [enterOff_eq, List.append_assoc]
  split
  · exact says_mem (withdraw_says w s _) (List.mem_append_right _ said)
  · exact List.mem_append_right _ said

/-- What an entry to ON from OFF or ARMING does (R110 to R113). -/
theorem enterOn_arrives (new : (a.st.recs.get w).state = .off ∨ (a.st.recs.get w).state = .arming) :
    let cfg := s.running.warnings.get w
    let u := enterOn w s a
    (u.st.recs.get w).state = .on ∧ (u.st.recs.get w).delay = none ∧ (u.st.recs.get w).acked = false
    ∧ (u.st.recs.get w).stamp ≠ none ∧ w ∈ u.st.listed
    ∧ (∀ l p, cfg.lamp = some (l, p) → .lampGive l ⟨w, cfg.level, p⟩ ∈ u.out)
    ∧ (∀ f, cfg.fault = some f → (a.st.recs.get w).reported = none →
        (u.st.recs.get w).reported = some f.code ∧ .report (.raise f.code (.warning w) f.severity) ∈ u.out) := by
  intro cfg u
  have record : u.st.recs.get w = _ := enterOn_get w s a
  have whole : u = _ := enterOn_fresh new
  refine ⟨by rw [record]; rfl, by rw [record]; rfl, by rw [record]; exact if_pos new, ?_, ?_, fun l p lamp => ?_, fun f fault clear => ⟨?_, ?_⟩⟩
  · rw [whole, arrive_recs]
    exact giveStamp_stamp w _
  · rw [whole]
    exact arrive_listed ..
  · rw [whole]
    refine says_mem (arrive_says ..) (List.mem_append_right _ ?_)
    rw [lampGiven, lamp]
    exact List.mem_singleton.2 rfl
  · rw [record]
    exact (congrArg Prod.fst (clear ▸ fault ▸ raiseFlag_clear f (.warning w)))
  · rw [whole]
    refine says_mem (arrive_says ..) (List.mem_append_left _ (List.mem_append_right _ ?_))
    exact raiseFlag_mem.2 ⟨clear, f, fault, rfl⟩

/-! ### Evaluations -/

/-- The record of a warning with its truths formed (R104, R105). -/
def WarningRun.judged (cfg : WarningConfig) (views : Tab 256 WarningView) (r : WarningRun) : WarningRun :=
  { r with
    primary := primaryTruth cfg views r.primary
    condition := primaryTruth cfg views r.primary && qualifierHolds cfg views }

/-- The Warning Engine with the truths of `w` formed. -/
def judgedAt (w : Fin 64) (s : State) (a : Acc Warnings) : Acc Warnings :=
  ⟨{ a.st with recs := a.st.recs.set w ((a.st.recs.get w).judged (s.running.warnings.get w) a.st.views) }, a.out⟩

theorem judgedAt_get (w : Fin 64) (s : State) (a : Acc Warnings) :
    (judgedAt w s a).st.recs.get w = (a.st.recs.get w).judged (s.running.warnings.get w) a.st.views := Tab.get_set_self ..

/-- The condition of `w` as an evaluation forms it. -/
def conditionOf (w : Fin 64) (s : State) (a : Acc Warnings) : Bool :=
  ((a.st.recs.get w).judged (s.running.warnings.get w) a.st.views).condition

theorem evaluateWarning_steady (same : conditionOf w s a = (a.st.recs.get w).condition) :
    evaluateWarning w s a = judgedAt w s a := if_pos same

theorem evaluateWarning_rises (was : (a.st.recs.get w).condition = false) (is : conditionOf w s a = true) :
    evaluateWarning w s a = match (a.st.recs.get w).state with
      | .off => if (s.running.warnings.get w).onDelay = 0 then enterOn w s (judgedAt w s a)
        else setWarning w (fun r =>
          { r with state := .arming, delay := some (s.now + (s.running.warnings.get w).onDelay * 100) }) (judgedAt w s a)
      | .releasing | .latched => enterOn w s (judgedAt w s a)
      | _ => judgedAt w s a := by
  have condition : (primaryTruth (s.running.warnings.get w) a.st.views (a.st.recs.get w).primary
    && qualifierHolds (s.running.warnings.get w) a.st.views) = true := is
  simp only [evaluateWarning, condition, was, Bool.true_eq_false, ↓reduceIte]
  have judged : setWarning w (fun r => { r with
      primary := primaryTruth (s.running.warnings.get w) a.st.views (a.st.recs.get w).primary, condition := true }) a = judgedAt w s a := by
    rw [← condition]
    rfl
  rw [judged]
  cases (a.st.recs.get w).state <;> rfl

theorem evaluateWarning_falls (was : (a.st.recs.get w).condition = true) (is : conditionOf w s a = false) :
    evaluateWarning w s a = match (a.st.recs.get w).state with
      | .arming => enterOff w s (judgedAt w s a)
      | .on => if (s.running.warnings.get w).offDelay = 0 then release w s (judgedAt w s a)
        else setWarning w (fun r =>
          { r with state := .releasing, delay := some (s.now + (s.running.warnings.get w).offDelay * 100) }) (judgedAt w s a)
      | _ => judgedAt w s a := by
  have condition : (primaryTruth (s.running.warnings.get w) a.st.views (a.st.recs.get w).primary
    && qualifierHolds (s.running.warnings.get w) a.st.views) = false := is
  simp only [evaluateWarning, condition, was, Bool.false_eq_true, ↓reduceIte]
  have judged : setWarning w (fun r => { r with
      primary := primaryTruth (s.running.warnings.get w) a.st.views (a.st.recs.get w).primary, condition := false }) a = judgedAt w s a := by
    rw [← condition]
    rfl
  rw [judged]
  cases (a.st.recs.get w).state <;> rfl

/-- `b` comes from `a` by a change of state of warning `w` alone, which keeps its truths. -/
structure Moves (w : Fin 64) (a b : Acc Warnings) : Prop where
  others : ∀ k, k ≠ w → (b.st.recs.get k).state = (a.st.recs.get k).state
  primary : (b.st.recs.get w).primary = (a.st.recs.get w).primary
  condition : (b.st.recs.get w).condition = (a.st.recs.get w).condition

theorem moves_refl (w : Fin 64) (a : Acc Warnings) : Moves w a a := ⟨fun _ _ => rfl, rfl, rfl⟩

theorem setWarning_get (w : Fin 64) (f : WarningRun → WarningRun) (a : Acc Warnings) (k : Fin 64) :
    (setWarning w f a).st.recs.get k = if k = w then f (a.st.recs.get w) else a.st.recs.get k := Tab.get_modify ..

theorem setWarning_moves {f : WarningRun → WarningRun} (primary : (f (a.st.recs.get w)).primary = (a.st.recs.get w).primary)
    (condition : (f (a.st.recs.get w)).condition = (a.st.recs.get w).condition) : Moves w a (setWarning w f a) where
  others k other := by rw [setWarning_get, if_neg other]
  primary := by rw [setWarning_get, if_pos rfl, primary]
  condition := by rw [setWarning_get, if_pos rfl, condition]

theorem enterOn_moves (w : Fin 64) (s : State) (a : Acc Warnings) : Moves w a (enterOn w s a) where
  others _ other := enterOn_get_other other s a
  primary := by rw [enterOn_get]; rfl
  condition := by rw [enterOn_get]; rfl

theorem enterOff_moves (w : Fin 64) (s : State) (a : Acc Warnings) : Moves w a (enterOff w s a) where
  others _ other := by rw [enterOff_get_other other s a]
  primary := by rw [enterOff_get]; rfl
  condition := by rw [enterOff_get]; rfl

theorem release_moves (w : Fin 64) (s : State) (a : Acc Warnings) : Moves w a (release w s a) := by
  unfold release
  split
  · exact setWarning_moves rfl rfl
  · exact enterOff_moves w s a

theorem evaluateWarning_moves (w : Fin 64) (s : State) (a : Acc Warnings) : Moves w (judgedAt w s a) (evaluateWarning w s a) := by
  cases is : conditionOf w s a <;> cases was : (a.st.recs.get w).condition
  case false.false | true.true =>
    rw [evaluateWarning_steady (is.trans was.symm)]
    exact moves_refl w _
  case true.false =>
    rw [evaluateWarning_rises was is]
    split
    · split
      · exact enterOn_moves ..
      · exact setWarning_moves rfl rfl
    · exact enterOn_moves ..
    · exact enterOn_moves ..
    · exact moves_refl w _
  case false.true =>
    rw [evaluateWarning_falls was is]
    split
    · exact enterOff_moves ..
    · split
      · exact release_moves ..
      · exact setWarning_moves rfl rfl
    · exact moves_refl w _

theorem judgedAt_others {k : Fin 64} (other : k ≠ w) (s : State) (a : Acc Warnings) :
    (judgedAt w s a).st.recs.get k = a.st.recs.get k := Tab.get_set_ne _ _ other

end

/-- The on-delay's expiry takes an ARMING warning to ON (R107). -/
theorem onDelay_expires {w : Fin 64} {t : Nat} {s : State} (due : (s.warnings.recs.get w).delay = some t)
    (arming : (s.warnings.recs.get w).state = .arming) :
    exec (.onDelayExpiry w) s = .next (finish ((s.advanceTo t).runWarnings (enterOn w))) :=
  expiry_at _ s ((if_pos arming).trans due)

/-- The off-delay's expiry takes a RELEASING warning to LATCHED or OFF (R108). -/
theorem offDelay_expires {w : Fin 64} {t : Nat} {s : State} (due : (s.warnings.recs.get w).delay = some t)
    (releasing : (s.warnings.recs.get w).state = .releasing) :
    exec (.offDelayExpiry w) s = .next (finish ((s.advanceTo t).runWarnings (release w))) :=
  expiry_at _ s ((if_pos releasing).trans due)

theorem release_latches {w : Fin 64} {s : State} {a : Acc Warnings} (latching : (s.running.warnings.get w).latching = true)
    (unacked : (a.st.recs.get w).acked = false) : release w s a =
      ⟨{ a.st with recs := a.st.recs.set w { a.st.recs.get w with state := .latched, delay := none } }, a.out⟩ :=
  if_pos (by rw [latching, unacked]; rfl)

theorem release_ends {w : Fin 64} {s : State} {a : Acc Warnings}
    (ends : (s.running.warnings.get w).latching = false ∨ (a.st.recs.get w).acked = true) : release w s a = enterOff w s a :=
  if_neg (by rcases ends with no | acked <;> simp_all)

/-- A condition that has become true starts the on-delay or an entry to ON (R106 to R108). -/
theorem evaluateWarning_risen {w : Fin 64} {s : State} {a : Acc Warnings} (was : (a.st.recs.get w).condition = false)
    (is : conditionOf w s a = true) :
    let cfg := s.running.warnings.get w
    let r := a.st.recs.get w
    let u := evaluateWarning w s a
    let r' := u.st.recs.get w
    (r.state = .off → cfg.onDelay ≠ 0 → r'.state = .arming ∧ r'.delay = some (s.now + cfg.onDelay * 100))
    ∧ (r.state = .off → cfg.onDelay = 0 → r'.state = .on ∧ r'.acked = false)
    ∧ (r.state = .releasing ∨ r.state = .latched →
        r'.state = .on ∧ r'.delay = none ∧ r'.acked = r.acked ∧ r'.stamp = r.stamp
          ∧ u.st.stack = a.st.stack ∧ u.st.waiting = a.st.waiting) := by
  intro cfg r u r'
  have rises := evaluateWarning_rises was is
  have judged := judgedAt_get w s a
  refine ⟨fun off delay => ?_, fun off delay => ?_, fun stays => ?_⟩
  · have whole : u = setWarning w _ (judgedAt w s a) := rises.trans (by rw [off]; exact if_neg delay)
    simp only [r', whole, setWarning_get, ↓reduceIte]
    exact ⟨trivial, rfl⟩
  · have whole : u = enterOn w s (judgedAt w s a) := rises.trans (by rw [off]; exact if_pos delay)
    have new : ((judgedAt w s a).st.recs.get w).state = .off := by rw [judged]; exact off
    obtain ⟨state, -, acked, -⟩ := enterOn_arrives (s := s) (.inl new)
    rw [← whole] at state acked
    exact ⟨state, acked⟩
  · have whole : u = enterOn w s (judgedAt w s a) := rises.trans (by rcases stays with e | e <;> rw [e])
    have old : ¬(r.state = .off ∨ r.state = .arming) := by rcases stays with e | e <;> rw [e] <;> decide
    have again : u = _ := whole.trans (enterOn_again (by rw [judged]; exact old))
    have record : r' = ((judgedAt w s a).st.recs.get w).entered cfg w := by
      simp only [r', again, Tab.get_set_self]
      rfl
    rw [record, again, judged]
    exact ⟨rfl, rfl, if_neg old, rfl, rfl, rfl⟩

/-- A condition that has become false ends the on-delay or starts the off-delay (R107, R108). -/
theorem evaluateWarning_fallen {w : Fin 64} {s : State} {a : Acc Warnings} (was : (a.st.recs.get w).condition = true)
    (is : conditionOf w s a = false) :
    let cfg := s.running.warnings.get w
    let r := a.st.recs.get w
    let r' := (evaluateWarning w s a).st.recs.get w
    (r.state = .arming → r'.state = .off ∧ r'.delay = none)
    ∧ (r.state = .on → cfg.offDelay ≠ 0 → r'.state = .releasing ∧ r'.delay = some (s.now + cfg.offDelay * 100))
    ∧ (r.state = .on → cfg.offDelay = 0 → r'.state = (if cfg.latching = true ∧ r.acked = false then .latched else .off)) := by
  intro cfg r r'
  have falls := evaluateWarning_falls was is
  have judged := judgedAt_get w s a
  refine ⟨fun arming => ?_, fun on delay => ?_, fun on delay => ?_⟩
  · have whole : evaluateWarning w s a = enterOff w s (judgedAt w s a) := falls.trans (by rw [arming])
    simp only [r', whole]
    rw [enterOff_get]
    exact ⟨rfl, rfl⟩
  · have whole : evaluateWarning w s a = setWarning w _ (judgedAt w s a) := falls.trans (by rw [on]; exact if_neg delay)
    simp only [r', whole, setWarning_get, ↓reduceIte]
    exact ⟨trivial, rfl⟩
  · have whole : evaluateWarning w s a = release w s (judgedAt w s a) := falls.trans (by rw [on]; exact if_pos delay)
    have acked : ((judgedAt w s a).st.recs.get w).acked = r.acked := by rw [judged]; rfl
    simp only [r', whole]
    by_cases latches : cfg.latching = true ∧ r.acked = false
    · rw [if_pos latches, release_latches latches.1 (acked.trans latches.2), Tab.get_set_self]
    · have ends : cfg.latching = false ∨ r.acked = true := by
        simpa only [not_and_or, Bool.not_eq_true, Bool.not_eq_false] using latches
      rw [if_neg latches, release_ends (ends.imp_right acked.trans), enterOff_get]
      rfl

/-- A pass of the Warning Engine that sends nothing changes the Warning Engine alone. -/
theorem runWarnings_silent {s : State} {f : State → Acc Warnings → Acc Warnings} {v : Warnings}
    (h : f s ⟨s.warnings, []⟩ = ⟨v, []⟩) : s.runWarnings f = { s with warnings := v } := by
  simp only [State.runWarnings, h, List.append_nil]

/-- A warning that has entered OFF is no longer presented (R117). -/
theorem enterOff_unlisted {w : Fin 64} {s : State} {a : Acc Warnings} {full : Prop} (h : Presents full s a.st.shows a.st) :
    w ∉ (enterOff w s a).st.listed := fun listed => by
  have shows : (enterOff w s a).st.shows w := ((enterOff_presents w h).listed w).1 listed
  have hidden : ((enterOff w s a).st.recs.get w).presentable = false := by rw [enterOff_get]; rfl
  exact absurd (hidden.symm.trans shows) Bool.false_ne_true

/-- Settles O42. -/
theorem warningDelaysExpire : Obligations.WarningDelaysExpire := by
  refine ⟨fun w t s due => ?_, fun w s a => ?_⟩
  · intro r cfg
    have recs := advanceTo_recs t s
    refine ⟨fun arming => ?_, fun releasing latching unacked => ?_, fun releasing ends sound => ?_⟩
    · have new : ((s.advanceTo t).warnings.recs.get w).state = .arming := by rwa [recs]
      obtain ⟨state, delay, acked, stamp, listed, lamp, fault⟩ := enterOn_arrives (s := s.advanceTo t)
        (a := ⟨(s.advanceTo t).warnings, []⟩) (.inr new)
      refine ⟨_, onDelay_expires due arming, rfl, fun k other => ?_, state, delay, acked, stamp, listed,
        fun l p request => List.mem_append_right _ (lamp l p request), fun f code clear => ?_⟩
      · exact (enterOn_get_other other ..).trans (by rw [recs])
      · obtain ⟨flag, raised⟩ := fault f code (by rw [recs]; exact clear)
        exact ⟨flag, List.mem_append_right _ raised⟩
    · rw [offDelay_expires due releasing]
      have latches := release_latches (s := s.advanceTo t) (a := ⟨(s.advanceTo t).warnings, []⟩) latching (by rw [recs]; exact unacked)
      rw [runWarnings_silent latches, recs]
      dsimp only
      rw [recs]
    · have ended : release w (s.advanceTo t) ⟨(s.advanceTo t).warnings, []⟩ = enterOff w (s.advanceTo t) ⟨(s.advanceTo t).warnings, []⟩ :=
        release_ends (by rw [recs]; exact ends)
      have presents := (presentation_kept.advanceTo t ((stackSound_iff s).1 sound)).2
      have record := enterOff_get w (s.advanceTo t) ⟨(s.advanceTo t).warnings, []⟩
      have on : r.state ≠ .off ∧ r.state ≠ .arming := by rw [releasing]; decide
      refine ⟨_, offDelay_expires due releasing, rfl, ?_⟩
      rw [runWarnings_warnings, runWarnings_mail, ended]
      refine ⟨fun k other => (enterOff_get_other other ..).trans (by rw [recs]), by rw [record]; rfl, by rw [record]; rfl,
        by rw [record]; rfl, ?_, enterOff_unlisted presents, fun l p lamp => ?_, fun code reported => ?_⟩
      · rw [record, WarningRun.ended, clearFlag_eq]
      · refine List.mem_append_right _ (enterOff_says w _ _ (List.mem_append_right _ ?_))
        rw [recs]
        exact mem_lampWithdrawn on.1 on.2 lamp
      · refine List.mem_append_right _ (enterOff_says w _ _ (List.mem_append_left _ ?_))
        rw [recs, show (s.warnings.recs.get w).reported = some code from reported]
        exact List.mem_singleton.2 rfl
  · intro cfg r view v slack compared unseen primary qualified condition u r'
    have primary_iff : ((a.st.recs.get w).judged cfg a.st.views).primary = true ↔ primary :=
      (primaryTruth_iff ..).trans (or_congr_right (and_congr_right fun _ => and_congr_right fun _ => truth_iff ..))
    have condition_iff : conditionOf w s a = true ↔ condition :=
      Bool.and_eq_true_iff.trans (and_congr primary_iff ((qualifierHolds_iff ..).trans
        (forall_congr' fun q => imp_congr_right fun _ => or_congr_right (holds_iff ..))))
    have judged := judgedAt_get w s a
    obtain ⟨others, sameP, sameC⟩ := evaluateWarning_moves w s a
    rw [judged] at sameP sameC
    refine ⟨by rw [← primary_iff, ← sameP], by rw [← condition_iff]; exact Bool.eq_iff_iff.1 sameC, fun k other => ?_, fun steady => ?_,
      fun was is => ?_, fun was is => ?_⟩
    · rw [others k other, judgedAt_others other]
    · have same : u = judgedAt w s a := evaluateWarning_steady (Bool.eq_iff_iff.2 (condition_iff.trans steady.symm))
      have record : r' = r.judged cfg a.st.views := by rw [← judged]; exact congrArg (fun u : Acc Warnings => u.st.recs.get w) same
      rw [record, same]
      exact ⟨rfl, rfl⟩
    · exact evaluateWarning_risen was (condition_iff.2 is)
    · exact evaluateWarning_fallen was (Bool.eq_false_iff.2 (mt condition_iff.1 is))

end Sys2Proof.Machine
end

section
/-! PROOFS. PresentationTimerProofs: the two top timers, the changes of the top entry and the PRESENT records (R116 to R123). -/

namespace Sys2Proof.Machine

/-! ### PRESENT records -/

/-- The content last written to the PRESENT records among what is sent. -/
def lastPresent (out : List Notice) : Option (List Byte) :=
  out.reverse.findSome? fun n => match n with | .record .present c => some c | _ => none

/-- What is sent writes no PRESENT record. -/
def NoPresent (out : List Notice) : Prop := ∀ c, .record .present c ∉ out

/-- The PRESENT records have just been written. -/
def Acc.Written (s : State) (a : Acc Warnings) : Prop := lastPresent a.out = some (presentContent s a.st)

/-- The PRESENT records, which showed `v`, show the presentation. -/
def Acc.Follows (s : State) (v : Warnings) (a : Acc Warnings) : Prop :=
  (lastPresent a.out).getD (presentContent s v) = presentContent s a.st

theorem presentContent_eq (s : State) (v : Warnings) : presentContent s v =
    (match v.stack with
      | [] => [0, 0, 0xFF]
      | top :: _ => leBytes 2 (s.running.warnings.get top.warning).message ++ [byte top.level])
    ++ [byte v.stack.length, byte v.waiting.length, flagByte v.request.isSome] ++ List.replicate 6 0 := by
  unfold presentContent content12
  cases v.stack <;> simp [leBytes]

/-- A change of the top entry that keeps its warning and its level is not shown. -/
theorem presentContent_retop {v v' : Warnings} {top top' : StackEntry} {rest : List StackEntry} (s : State)
    (old : v.stack = top :: rest) (new : v'.stack = top' :: rest) (warning : top'.warning = top.warning)
    (level : top'.level = top.level) (waiting : v'.waiting = v.waiting) (request : v'.request = v.request) :
    presentContent s v' = presentContent s v := by
  rw [presentContent_eq, presentContent_eq, old, new, waiting, request]
  simp only [warning, level, List.length_cons]

theorem lastPresent_append (out : List Notice) {sent : List Notice} (silent : NoPresent sent) :
    lastPresent (out ++ sent) = lastPresent out := by
  have nothing : sent.reverse.findSome? (fun n => match n with | .record .present c => some c | _ => none) = none := by
    refine List.findSome?_eq_none_iff.2 fun n member => ?_
    split
    · exact absurd (List.mem_reverse.1 member) (silent _)
    · rfl
  rw [lastPresent, List.reverse_append, List.findSome?_append, nothing]
  rfl

section
variable {s : State} {v : Warnings} {a b : Acc Warnings} {w : Fin 64}

theorem showPresent_written (s : State) (a : Acc Warnings) : (showPresent s a).Written s := by
  rw [Acc.Written, lastPresent, showPresent, Acc.say, List.reverse_append]
  rfl

theorem topChanged_written (s : State) (a : Acc Warnings) : (topChanged s a).Written s := showPresent_written ..

theorem push_written (w : Fin 64) (s : State) (a : Acc Warnings) : (push w s a).Written s := showPresent_written ..

theorem Acc.Written.follows (h : a.Written s) : a.Follows s v := by
  rw [Acc.Follows, h]
  rfl

theorem follows_start (s : State) (v : Warnings) : Acc.Follows s v ⟨v, []⟩ := rfl

/-- A pass that leaves what the records show, and writes none of them. -/
theorem Acc.Follows.keep (h : a.Follows s v) {sent : List Notice} (out : b.out = a.out ++ sent) (silent : NoPresent sent)
    (same : presentContent s b.st = presentContent s a.st) : b.Follows s v := by
  rw [Acc.Follows, out, lastPresent_append _ silent, same]
  exact h

theorem Acc.Follows.quiet (h : a.Follows s v) (out : b.out = a.out) (same : presentContent s b.st = presentContent s a.st) :
    b.Follows s v := h.keep (sent := []) (by rw [out, List.append_nil]) (fun _ => List.not_mem_nil) same

theorem raiseFlag_noPresent (reported : Option Nat) (fault : Option FaultCode) (source : FaultSource) :
    NoPresent (raiseFlag reported fault source).2 := fun c member => by
  obtain ⟨-, _, -, is⟩ := raiseFlag_mem.1 member
  nomatch is

theorem clearFlag_noPresent (reported : Option Nat) (source : FaultSource) : NoPresent (clearFlag reported source).2 := by
  rw [clearFlag_eq]
  cases reported <;> simp [NoPresent]

theorem lampWithdrawn_noPresent (cfg : WarningConfig) (w : Fin 64) (r : WarningRun) : NoPresent (lampWithdrawn cfg w r) := by
  unfold lampWithdrawn
  split
  · simp [NoPresent]
  · split <;> simp [NoPresent]

theorem setWarning_follows (f : WarningRun → WarningRun) (h : a.Follows s v) : (setWarning w f a).Follows s v := h.quiet rfl rfl

theorem arrive_written (w : Fin 64) (s : State) (a : Acc Warnings) : (arrive w s a).Written s := by
  unfold arrive
  extract_lets b
  split
  · exact push_written ..
  · exact showPresent_written ..

theorem promote_written {otherwise : Acc Warnings → Acc Warnings} (h : (otherwise a).Written s) : (promote s otherwise a).Written s := by
  unfold promote
  split
  · split
    · exact push_written ..
    · exact h
  · exact h

theorem promote_follows (h : a.Follows s v) : (promote s id a).Follows s v := by
  unfold promote
  split
  · split
    · exact (push_written ..).follows
    · exact h
  · exact h

theorem withdraw_written (w : Fin 64) (s : State) (a : Acc Warnings) : (withdraw w s a).Written s := by
  unfold withdraw
  extract_lets b
  split
  · exact showPresent_written ..
  · split
    · exact promote_written (topChanged_written ..)
    · exact showPresent_written ..

theorem enterOn_follows (w : Fin 64) (h : a.Follows s v) : (enterOn w s a).Follows s v := by
  by_cases new : (a.st.recs.get w).state = .off ∨ (a.st.recs.get w).state = .arming
  · rw [enterOn_fresh new]
    exact (arrive_written ..).follows
  · rw [enterOn_again new]
    exact h.keep rfl (raiseFlag_noPresent _ _ _) rfl

theorem enterOff_follows (w : Fin 64) (h : a.Follows s v) : (enterOff w s a).Follows s v := by
  rw [enterOff_eq]
  split
  · exact (withdraw_written ..).follows
  · refine h.keep (List.append_assoc ..) (fun c member => ?_) rfl
    exact (List.mem_append.1 member).elim (clearFlag_noPresent _ _ c) (lampWithdrawn_noPresent _ _ _ c)

theorem release_follows (w : Fin 64) (h : a.Follows s v) : (release w s a).Follows s v := by
  unfold release
  split
  · exact setWarning_follows _ h
  · exact enterOff_follows w h

theorem evaluateWarning_follows (w : Fin 64) (h : a.Follows s v) : (evaluateWarning w s a).Follows s v := by
  have judged : (judgedAt w s a).Follows s v := h.quiet rfl rfl
  cases is : conditionOf w s a <;> cases was : (a.st.recs.get w).condition
  case false.false | true.true =>
    rw [evaluateWarning_steady (is.trans was.symm)]
    exact judged
  case true.false =>
    rw [evaluateWarning_rises was is]
    split
    · split
      · exact enterOn_follows w judged
      · exact setWarning_follows _ judged
    · exact enterOn_follows w judged
    · exact enterOn_follows w judged
    · exact judged
  case false.true =>
    rw [evaluateWarning_falls was is]
    split
    · exact enterOff_follows w judged
    · split
      · exact release_follows w judged
      · exact setWarning_follows _ judged
    · exact judged

theorem acknowledged_follows (w : Fin 64) (h : a.Follows s v) : (acknowledged w s a).Follows s v := by
  unfold acknowledged
  split
  · exact enterOff_follows w h
  · exact (withdraw_written ..).follows

theorem acknowledgeTop_follows (h : a.Follows s v) : (acknowledgeTop s a).Follows s v := by
  unfold acknowledgeTop
  split
  · exact h
  · next top rest stack =>
    split
    · exact h
    · split
      · exact acknowledged_follows _ h
      · exact h.quiet rfl (presentContent_retop s stack (by rfl) (by rfl) (by rfl) (by rfl) (by rfl))

theorem minimumReached_follows (h : a.Follows s v) : (minimumReached s a).Follows s v := by
  unfold minimumReached
  extract_lets b
  have kept : b.Follows s v := h.quiet rfl rfl
  split
  · exact kept
  · exact acknowledged_follows _ kept

theorem autoDismissed_follows (h : a.Follows s v) : (autoDismissed s a).Follows s v :=
  acknowledgeTop_follows (h.quiet rfl rfl)

theorem repetitionEnd_follows (n : Nat) (h : a.Follows s v) : (repetitionEnd n s a).Follows s v := by
  unfold repetitionEnd
  split
  · next top rest _ stack =>
    split
    · dsimp only
      split
      · exact (showPresent_written ..).follows
      · exact h.quiet rfl (presentContent_retop s stack (by rfl) (by rfl) (by rfl) (by rfl) (by rfl))
    · exact h
  · exact h

theorem remask_follows (promoting : Bool) (h : a.Follows s v) : (remask promoting s a).Follows s v := by
  unfold remask
  extract_lets g moving before after b
  have kept : b.Follows s v := h.quiet rfl rfl
  split
  · exact promote_follows kept
  · exact kept

theorem each_follows {n : Nat} {f : Fin n → Acc Warnings → Acc Warnings} (turn : ∀ i b, b.Follows s v → (f i b).Follows s v)
    (h : a.Follows s v) : (a.each n f).Follows s v := by
  unfold Acc.each
  induction List.finRange n generalizing a with
  | nil => exact h
  | cons i l ih => exact ih (turn i a h)

theorem warningUpdate_follows (i : Fin 256) (e : Effective) (h : a.Follows s v) : (warningUpdate i e s a).Follows s v := by
  unfold warningUpdate
  extract_lets g old viewed active edge pressed remasked
  have hv : viewed.Follows s v := h.quiet rfl rfl
  have hp : pressed.Follows s v := by
    simp only [pressed]
    split
    · exact acknowledgeTop_follows hv
    · exact hv
  have hr : remasked.Follows s v := by
    simp only [remasked]
    split
    · exact remask_follows _ hp
    · exact hp
  refine each_follows (fun w b hb => ?_) hr
  dsimp only
  split
  · exact evaluateWarning_follows w hb
  · exact hb

theorem warningMode_entry (old : Mode) (s : State) (a : Acc Warnings) : (warningMode old .active s a).Written s :=
  showPresent_written ..

theorem warningMode_departure {new : Mode} (other : new ≠ .active) (s : State) (a : Acc Warnings) :
    (warningMode .active new s a).Written s := by
  rw [warningMode, if_neg (by simpa using other), if_pos (beq_self_eq_true _)]
  exact showPresent_written ..

theorem warningMode_follows (old new : Mode) (h : a.Follows s v) : (warningMode old new s a).Follows s v := by
  unfold warningMode
  split
  · exact (showPresent_written ..).follows
  · split
    · exact (showPresent_written ..).follows
    · exact h

/-! ### The top of the stack -/

theorem push_eq (w : Fin 64) (s : State) (a : Acc Warnings) :
    let cfg := s.running.warnings.get w
    let entry : StackEntry := ⟨w, cfg.level, 0, false, match cfg.buzzer with | some (_, n) => n | none => 0⟩
    push w s a = topChanged s ⟨{ a.st with stack := entry :: a.st.stack }, a.out⟩ := by
  simp only [push]
  cases (s.running.warnings.get w).buzzer <;> rfl

/-- The first unmasked waiting warning, all before it hidden. -/
theorem bestUnmasked_first {before after : List (Fin 64)} {x : Fin 64} (waiting : v.waiting = before ++ x :: after)
    (hidden : ∀ y ∈ before, masked s v (levelOf s y) = true) (shown : ¬masked s v (levelOf s x) = true) : bestUnmasked s v = some x := by
  rw [bestUnmasked, waiting, List.find?_append, List.find?_eq_none.2 fun y member => by simp [hidden y member],
    List.find?_cons_of_pos (by simpa using shown)]
  rfl

/-- The removal of the top's entry, before the promotion check (R117). -/
def uncovered (top : StackEntry) (rest : List StackEntry) (waiting : List (Fin 64)) (a : Acc Warnings) : Acc Warnings :=
  ⟨{ a.st with
    stack := rest, waiting := waiting
    recs := a.st.recs.set top.warning { a.st.recs.get top.warning with stamp := none } }, a.out⟩

theorem withdraw_top {top : StackEntry} {rest : List StackEntry} (stack : a.st.stack = top :: rest) :
    withdraw top.warning s a = promote s (topChanged s) (uncovered top rest a.st.waiting a) := by
  have there : (setWarning top.warning (fun r => { r with stamp := none }) a).st.stack = top :: rest := stack
  simp only [withdraw, there, ↓reduceIte]
  rfl

/-- The best waiting warning of a lower level number than the entry below is pushed in the top's place (R117). -/
theorem withdraw_promotes {top : StackEntry} {rest : List StackEntry} (stack : a.st.stack = top :: rest)
    {before after : List (Fin 64)} {x : Fin 64} (waiting : a.st.waiting = before ++ x :: after)
    (hidden : ∀ y ∈ before, masked s a.st (levelOf s y) = true) (shown : ¬masked s a.st (levelOf s x) = true)
    (low : ∀ e, rest.head? = some e → levelOf s x < e.level) :
    withdraw top.warning s a = push x s (uncovered top rest (before ++ after) a) := by
  have best : bestUnmasked s (uncovered top rest a.st.waiting a).st = some x := bestUnmasked_first waiting hidden shown
  have fits : above (levelOf s x) rest = true := by
    cases rest with
    | nil => rfl
    | cons e _ => exact decide_eq_true (low e rfl)
  have erased : a.st.waiting.erase x = before ++ after := by
    rw [waiting, List.erase_append_right _ fun member => shown (hidden x member), List.erase_cons_head]
  rw [withdraw_top stack, promote, best]
  refine (if_pos fits).trans ?_
  rw [← erased]
  rfl

/-- With none to push the entry below becomes the top (R117). -/
theorem withdraw_uncovers {top : StackEntry} {rest : List StackEntry} (stack : a.st.stack = top :: rest)
    (none : ∀ x ∈ a.st.waiting, ¬masked s a.st (levelOf s x) = true → ∃ e, rest.head? = some e ∧ e.level ≤ levelOf s x) :
    withdraw top.warning s a = topChanged s (uncovered top rest a.st.waiting a) := by
  rw [withdraw_top stack, promote]
  split
  · next x best =>
    have found : (!masked s a.st (levelOf s x)) = true :=
      List.find?_some (p := fun w => !masked s a.st (levelOf s w)) best
    obtain ⟨e, head, high⟩ := none x (List.mem_of_find?_eq_some best) (by simpa using found)
    refine if_neg fun fits => ?_
    cases rest with
    | nil => nomatch head
    | cons e' _ =>
      rw [List.head?_cons, Option.some_inj] at head
      exact absurd (of_decide_eq_true fits) (Nat.not_lt.2 (head ▸ high))
  · rfl

/-! ### Timers -/

theorem advanceTo_top {t : Nat} {s : State} {top : StackEntry} {rest : List StackEntry} (stack : s.warnings.stack = top :: rest) :
    (s.advanceTo t).warnings = { s.warnings with stack := { top with shown := top.shown + (t - s.now) } :: rest } := by
  rw [State.advanceTo, advance_frame]
  simp only [stack]

theorem acknowledgeTop_pending {top : StackEntry} {rest : List StackEntry} (stack : a.st.stack = top :: rest)
    (pending : top.ackPending = true) : acknowledgeTop s a = a := by
  simp only [acknowledgeTop, stack, pending, ↓reduceIte]

theorem acknowledgeTop_reached {top : StackEntry} {rest : List StackEntry} (stack : a.st.stack = top :: rest)
    (free : top.ackPending = false) (reached : minimumMs s top.warning ≤ top.shown) :
    acknowledgeTop s a = acknowledged top.warning s a := by
  simp only [acknowledgeTop, stack, free, reached, Bool.false_eq_true, ↓reduceIte]

theorem acknowledgeTop_early {top : StackEntry} {rest : List StackEntry} (stack : a.st.stack = top :: rest)
    (free : top.ackPending = false) (early : top.shown < minimumMs s top.warning) :
    acknowledgeTop s a = ⟨{ a.st with
      stack := { top with ackPending := true } :: rest
      minTimer := some (s.now + (minimumMs s top.warning - top.shown)) }, a.out⟩ := by
  simp only [acknowledgeTop, stack, free, Nat.not_le.2 early, Bool.false_eq_true, ↓reduceIte]
  rfl

theorem minimumReached_eq {top : StackEntry} {rest : List StackEntry} (stack : a.st.stack = top :: rest) :
    minimumReached s a = acknowledged top.warning s (a.upd fun v => { v with minTimer := none }) := by
  simp only [minimumReached, upd_st, stack]

end

/-- An acknowledgement at a later time is one of the warnings as they stood (R109). -/
theorem acknowledged_later {t : Nat} {s : State} (sound : s.StackSound) {v : Warnings} (w : Fin 64)
    (stack : v.stack = (s.advanceTo t).warnings.stack) (waiting : v.waiting = (s.advanceTo t).warnings.waiting)
    (moving : v.moving = (s.advanceTo t).warnings.moving) (recs : v.recs = (s.advanceTo t).warnings.recs) :
    Acknowledged w s.warnings (acknowledged w (s.advanceTo t) ⟨v, []⟩).st := by
  have presents := (presentation_kept.advanceTo t ((stackSound_iff s).1 sound)).2
  have kept : Presents False (s.advanceTo t) v.shows v := presents.congr stack waiting moving fun x => by
    rw [Warnings.shows, Warnings.shows, recs]
  have done := acknowledged_acknowledges (a := ⟨v, []⟩) (w := w) kept
  rw [advanceTo_recs] at recs
  unfold Acknowledged at done ⊢
  rwa [← recs]

/-- Settles O43. -/
theorem presentationTimersExpire : Obligations.PresentationTimersExpire := by
  refine ⟨fun t top rest s stack sound => ?_, fun s a => ?_, fun s => ?_⟩
  · intro v shown needed
    have now := advanceTo_top (t := t) stack
    have stands : v.warnings.stack = { top with shown := shown } :: rest := congrArg Warnings.stack now
    refine ⟨fun due => ⟨_, expiry_at _ s due, rfl, ?_⟩, fun due => ⟨fun free reached => ⟨_, expiry_at _ s due, rfl, ?_⟩,
      fun free early => (expiry_at _ s due).trans ?_, fun pending => (expiry_at _ s due).trans ?_⟩⟩
    · rw [runWarnings_warnings, minimumReached_eq stands]
      exact acknowledged_later sound _ rfl rfl rfl rfl
    · have acts : autoDismissed v ⟨v.warnings, []⟩ = _ := acknowledgeTop_reached (a := Acc.upd _ _) stands free reached
      rw [runWarnings_warnings, acts]
      exact acknowledged_later sound _ rfl rfl rfl rfl
    · have acts : autoDismissed v ⟨v.warnings, []⟩ = _ := acknowledgeTop_early (a := Acc.upd _ _) stands free early
      exact congrArg (fun u => Host.Outcome.next (finish u)) (runWarnings_silent acts)
    · have acts : autoDismissed v ⟨v.warnings, []⟩ = _ := acknowledgeTop_pending (a := Acc.upd _ _) stands pending
      exact congrArg (fun u => Host.Outcome.next (finish u)) (runWarnings_silent acts)
  · intro u
    refine ⟨fun empty => ?_, fun top rest stack => ?_, topChanged_stack s a, topChanged_waiting s a, topChanged_recs s a, ?_,
      fun w => push_eq w s a, fun top rest stack => ?_⟩
    · have whole : u = _ := topChanged_nil s empty
      rw [whole]
      exact ⟨rfl, rfl, rfl, rfl⟩
    · intro needed auto
      obtain ⟨-, -, -, minimum, dismiss⟩ := topChanged_cons s stack
      obtain ⟨request, none⟩ := topChanged_request s stack
      refine ⟨fun pending early => minimum.trans (if_pos ⟨pending, early⟩), fun no => minimum.trans (if_neg fun h => ?_),
        fun set early => dismiss.trans (if_pos ⟨set, early⟩), fun no => dismiss.trans (if_neg fun h => ?_), request, none⟩
      · exact no.elim (fun free => by simp [free] at h) h.2.not_ge
      · exact no.elim h.1 h.2.not_ge
    · rw [topChanged_out]
      simp
    · intro left hidden
      exact ⟨fun before x after waiting hide shown low => withdraw_promotes stack waiting hide shown low,
        withdraw_uncovers stack⟩
  · intro content written follows writes
    have shows : ∀ v, presentContent s v = content v := presentContent_eq s
    have to_follows : ∀ f : State → Acc Warnings → Acc Warnings, (∀ v, (f s ⟨v, []⟩).Follows s v) → follows f := fun f h v => by
      have := h v
      rw [Acc.Follows, shows, shows] at this
      exact this
    have to_writes : ∀ f : State → Acc Warnings → Acc Warnings, (∀ v, (f s ⟨v, []⟩).Written s) → writes f := fun f h v => by
      have := h v
      rw [Acc.Written, shows] at this
      exact this
    exact ⟨fun i e => to_follows _ fun v => warningUpdate_follows i e (follows_start s v),
      fun w => ⟨to_follows _ fun v => enterOn_follows w (follows_start s v), to_follows _ fun v => release_follows w (follows_start s v)⟩,
      to_follows _ fun v => minimumReached_follows (follows_start s v), to_follows _ fun v => autoDismissed_follows (follows_start s v),
      to_follows _ fun v => acknowledgeTop_follows (follows_start s v), fun n => to_follows _ fun v => repetitionEnd_follows n (follows_start s v),
      fun m m' => to_follows _ fun v => warningMode_follows m m' (follows_start s v), to_writes _ fun v => topChanged_written s _,
      to_writes _ fun v => showPresent_written s _, fun m => to_writes _ fun v => warningMode_entry m s _,
      fun m other => to_writes _ fun v => warningMode_departure other s _⟩

end Sys2Proof.Machine
end

section
/-! PROOFS. GaugeEventProofs: the updates of the gauges and the events that they take (R84 to R101). -/

namespace Sys2Proof.Machine

/-! ### States of a gauge -/

section
variable {cfg : GaugeConfig} {r : GaugeRun}

theorem trackOrFallback_eq (r : GaugeRun) : trackOrFallback r = r.showing := by
  unfold trackOrFallback GaugeRun.showing GaugeRun.enter Effective.good
  cases r.view.status <;> rfl

theorem beginSweep_eq (r : GaugeRun) : beginSweep r = r.sweeping := rfl

/-- What an update does in each state (R85 to R97). -/
theorem updateGauge_cases (cfg : GaugeConfig) (r : GaugeRun) :
    let u := updateGauge cfg r
    let reached := fun d : Nat =>
      if r.position ≤ d then min d (r.position + cfg.slew) else max d (r.position - cfg.slew)
    let moved := fun d : Nat => { r with target := d, demand := d, position := reached d }
    (r.state = .tracking →
      let t := interpolate cfg.points r.view.value
      let f := damp cfg.damping t r.filter
      let d := min cfg.fs ((f + 8) / 16)
      u = { r with target := t, filter := f, demand := d, position := reached d })
    ∧ (r.state = .fallback →
      (cfg.fallback = .hold → u = { r with position := reached r.demand })
      ∧ (cfg.fallback = .rest → u = moved cfg.rest)
      ∧ ∀ v, cfg.fallback = .position v → u = moved v)
    ∧ (r.state = .settling →
      (reached cfg.rest ≠ cfg.rest → u = moved cfg.rest)
      ∧ (reached cfg.rest = cfg.rest → u = if r.sweepPending then (moved cfg.rest).sweeping else (moved cfg.rest).showing))
    ∧ (r.state = .sweep → r.phase = .up →
      u = if reached cfg.fs = cfg.fs then { moved cfg.fs with phase := .down } else moved cfg.fs)
    ∧ (r.state = .sweep → r.phase = .down →
      u = if reached cfg.rest = cfg.rest then (moved cfg.rest).showing else moved cfg.rest)
    ∧ (r.state = .parking →
      u = if reached cfg.rest = cfg.rest then { moved cfg.rest with state := .parked, coils := false } else moved cfg.rest)
    ∧ (r.state = .unhomed ∨ r.state = .homing ∨ r.state = .parked → u = r) := by
  intro u reached moved
  refine ⟨fun is => ?_, fun is => ⟨fun kind => ?_, fun kind => ?_, fun v kind => ?_⟩, fun is => ?_, fun is phase => ?_, fun is phase => ?_,
    fun is => ?_, fun is => ?_⟩
  · simp only [u, updateGauge, is]
    rfl
  · simp only [u, updateGauge, is, kind]
    rfl
  · simp only [u, updateGauge, is, kind]
    rfl
  · simp only [u, updateGauge, is, kind]
    rfl
  · have whole : u = if reached cfg.rest = cfg.rest then
        (if r.sweepPending then beginSweep (moved cfg.rest) else trackOrFallback (moved cfg.rest)) else moved cfg.rest := by
      simp only [u, updateGauge, is]
      rfl
    rw [whole, trackOrFallback_eq]
    exact ⟨fun away => if_neg away, fun there => if_pos there⟩
  · simp only [u, updateGauge, is, phase]
    rfl
  · have whole : u = if reached cfg.rest = cfg.rest then trackOrFallback (moved cfg.rest) else moved cfg.rest := by
      simp only [u, updateGauge, is, phase]
      rfl
    rw [whole, trackOrFallback_eq]
  · simp only [u, updateGauge, is]
    rfl
  · rcases is with is | is | is <;> simp only [u, updateGauge, is]

end

/-! ### Passes over the gauges -/

theorem gaugeContent_eq (g : Fin 6) (r : GaugeRun) : gaugeContent g r =
    leBytes 2 r.position ++ leBytes 2 r.demand ++ [byte r.state.code, byte g.val] ++ List.replicate 6 0 := by
  simp [gaugeContent, content12]

section
variable {s v : State} {a : Acc Gauges} {g : Fin 6} {f : Fin 6 → GaugeConfig → GaugeRun → Told GaugeRun}

/-- A pass shows each change of position, demand or state (R101). -/
theorem onInUse_shows (s : State) (f : Fin 6 → GaugeConfig → GaugeRun → Told GaugeRun) (a : Acc Gauges) (g : Fin 6) :
    let r := a.st.gauges.get g
    let r' := (Gauges.onInUse s f a).st.gauges.get g
    r'.position ≠ r.position ∨ r'.demand ≠ r.demand ∨ r'.state ≠ r.state →
      .record (.gauge g) (gaugeContent g r') ∈ (Gauges.onInUse s f a).out := by
  intro r r' changed
  refine List.mem_append_right _ (tellRows_mem.2 ⟨g, ?_⟩)
  have shown : r' = _ := onGauges_get _ a g
  rw [shown] at changed ⊢
  rw [showGauge, if_neg (by simpa only [not_and_or] using changed)]
  exact List.mem_append_right _ (List.mem_singleton.2 rfl)

/-- A pass sends what each gauge in use sends, and GAUGE records. -/
theorem onInUse_reports (s : State) (f : Fin 6 → GaugeConfig → GaugeRun → Told GaugeRun) (a : Acc Gauges) (x : Report) :
    .report x ∈ (Gauges.onInUse s f a).out ↔ .report x ∈ a.out ∨ ∃ g, (s.running.gauges.get g).inUse = true
      ∧ .report x ∈ (f g (s.running.gauges.get g) (a.st.gauges.get g)).2 := by
  refine List.mem_append.trans (or_congr_right (tellRows_mem.trans (exists_congr fun g => ?_)))
  have bare : ∀ t : GaugeRun → Told GaugeRun, .report x ∈ (showGauge g t (a.st.gauges.get g)).2 ↔ .report x ∈ (t (a.st.gauges.get g)).2 := by
    intro t
    unfold showGauge
    dsimp only
    split
    · rfl
    · simp
  rw [bare]
  dsimp only
  split
  · next inUse => exact ⟨fun member => ⟨inUse, member⟩, And.right⟩
  · next unused => exact ⟨fun member => (nomatch member), fun member => absurd member.1 unused⟩

theorem onInUse_updateTimer (s : State) (f : Fin 6 → GaugeConfig → GaugeRun → Told GaugeRun) (a : Acc Gauges) :
    (Gauges.onInUse s f a).st.updateTimer = a.st.updateTimer := rfl

/-- A gauge in use takes the event. -/
theorem onInUse_used (inUse : (s.running.gauges.get g).inUse = true) :
    (Gauges.onInUse s f a).st.gauges.get g = (f g (s.running.gauges.get g) (a.st.gauges.get g)).1 := by
  rw [onInUse_get, if_pos inUse]

/-- A gauge not in use stays as it is. -/
theorem onInUse_unused (unused : (s.running.gauges.get g).inUse = false) :
    (Gauges.onInUse s f a).st.gauges.get g = a.st.gauges.get g := by
  rw [onInUse_get, if_neg (by simp [unused])]

theorem gaugeMode_updateTimer (old new : Mode) (s : State) (a : Acc Gauges) :
    (gaugeMode old new s a).st.updateTimer = if new = .sleep then none else a.st.updateTimer := by
  cases new <;> rfl

theorem gaugeMode_unused (unused : (s.running.gauges.get g).inUse = false) (old new : Mode) (a : Acc Gauges) :
    (gaugeMode old new s a).st.gauges.get g = a.st.gauges.get g := by
  unfold gaugeMode
  split
  · exact onInUse_unused unused
  · rfl
  · exact onInUse_unused (f := fun _ _ r => (gaugeRest .sleep r, [])) unused
  · exact onInUse_unused unused

theorem gaugeMode_shows (old new : Mode) (s : State) (a : Acc Gauges) (g : Fin 6) :
    let r := a.st.gauges.get g
    let r' := (gaugeMode old new s a).st.gauges.get g
    r'.position ≠ r.position ∨ r'.demand ≠ r.demand ∨ r'.state ≠ r.state →
      .record (.gauge g) (gaugeContent g r') ∈ (gaugeMode old new s a).out := by
  unfold gaugeMode
  split
  · exact onInUse_shows s _ a g
  · intro r r' changed
    simp only [r', r, ne_eq, not_true_eq_false, or_self] at changed
  · exact onInUse_shows s (fun _ _ r => (gaugeRest .sleep r, [])) a g
  · exact onInUse_shows s _ a g

theorem gaugeMode_rests {new : Mode} (rests : new = .standby ∨ new = .configuring ∨ new = .sleep)
    (inUse : (s.running.gauges.get g).inUse = true) (old : Mode) (a : Acc Gauges) :
    (gaugeMode old new s a).st.gauges.get g = gaugeRest new (a.st.gauges.get g) := by
  rcases rests with rfl | rfl | rfl
  · exact onInUse_used inUse
  · exact onInUse_used inUse
  · exact onInUse_used (f := fun _ _ r => (gaugeRest .sleep r, [])) inUse

/-- A change of mode looks at the running configuration and the clock alone. -/
theorem gaugeMode_congr (running : v.running = s.running) (now : v.now = s.now) (old new : Mode) (a : Acc Gauges) :
    gaugeMode old new v a = gaugeMode old new s a := by
  unfold gaugeMode Gauges.onInUse
  rw [running, now]

/-- A re-initialization looks at the running configuration, the signals and the clock alone. -/
theorem reinitGauges_congr (running : v.running = s.running) (signals : v.signals = s.signals) (now : v.now = s.now) (old : Image)
    (a : Acc Gauges) : reinitGauges old v a = reinitGauges old s a := by
  unfold reinitGauges State.eff
  rw [running, signals, now]

end

/-! ### Modes and re-initializations -/

/-- The part as the gauges come to take an entry to `m`. -/
def State.enteringGauges (m : Mode) (s : State) : State :=
  ((s.setMode m).beginCycle m).runFrames (frameMode s.control.mode m) |>.runInputs (inputMode m) |>.runDoors (doorMode m)

/-- The part as the gauges come to take a re-initialization. -/
def State.renewingGauges (starting : Bool) (s : State) : State :=
  { s with running := s.image }
    |>.runDisplay (takeKinds s.running)
    |>.runSignals (reinitSignals starting)
    |>.runFrames reinitFrames
    |>.runInputs reinitInputs
    |>.runDoors reinitDoors

section
variable (s : State) (m : Mode) (starting : Bool)

theorem enteringGauges_mail : ∃ before, (s.enteringGauges m).mail = s.mail ++ before := by
  have begun : ∃ before, ((s.setMode m).beginCycle m).mail = s.mail ++ before := by
    rw [← setMode_mail s m]
    unfold State.beginCycle
    split
    · simp only [runFaults_mail, List.append_assoc]
      exact ⟨_, rfl⟩
    · exact ⟨[], (List.append_nil _).symm⟩
  obtain ⟨before, mail⟩ := begun
  simp only [State.enteringGauges, runDoors_mail, runInputs_mail, runFrames_mail, mail, List.append_assoc]
  exact ⟨_, rfl⟩

/-- A save that begins and the MODE records leave the mail as the blocks left it. -/
theorem enterMode_mail_told : (s.enterMode m).mail = (s.told m).mail := by
  have silent : (s.enterMode m).mail = ((s.told m).savePoint m).mail ++ [] :=
    congrArg (((s.told m).savePoint m).mail ++ ·) (mapRecords_out (a := ⟨((s.told m).savePoint m).display, []⟩))
  rw [silent, List.append_nil, savePoint_frame]

theorem enterMode_gauges_take : let a := gaugeMode s.control.mode m s ⟨s.gauges, []⟩
    (s.enterMode m).gauges = a.st ∧ ∃ before after, (s.enterMode m).mail = s.mail ++ before ++ a.out ++ after := by
  intro a
  have same : (s.enteringGauges m).gauges = s.gauges := by
    simp only [State.enteringGauges, runDoors_gauges, runInputs_gauges, runFrames_gauges]
    rw [beginCycle_frame]
    exact setMode_gauges s m
  obtain ⟨now, -, running, -, -⟩ : s.SeesEntry m (s.enteringGauges m) := begun_sees s m
  have taken : a = gaugeMode s.control.mode m (s.enteringGauges m) ⟨(s.enteringGauges m).gauges, []⟩ := by
    rw [same]
    exact (gaugeMode_congr running now ..).symm
  obtain ⟨before, mail⟩ := enteringGauges_mail s m
  have told : ∃ after, (s.told m).mail = (s.enteringGauges m).mail ++ a.out ++ after := by
    simp only [State.told, State.tellMode, runDisplay_mail, runOutbound_mail, runLamps_mail, runService_mail, runWarnings_mail,
      runGauges_mail, List.append_assoc, taken]
    exact ⟨_, rfl⟩
  obtain ⟨after, told⟩ := told
  refine ⟨?_, before, ?_⟩
  · rw [taken, enterMode_frame]
    rfl
  · rw [enterMode_mail_told, told, mail]
    exact ⟨after, rfl⟩

theorem reinit_gauges_take : let v := s.reinit starting
    let a := reinitGauges s.running v ⟨s.gauges, []⟩
    v.gauges = a.st ∧ ∃ before after, v.mail = s.mail ++ before ++ a.out ++ after := by
  intro v a
  have taken : a = reinitGauges s.running (s.renewingGauges starting) ⟨(s.renewingGauges starting).gauges, []⟩ :=
    (reinitGauges_congr (s := v) (v := s.renewingGauges starting) rfl rfl rfl ..).symm
  rw [taken]
  refine ⟨rfl, ?_⟩
  have before : ∃ before, (s.renewingGauges starting).mail = s.mail ++ before := by
    simp only [State.renewingGauges, runDoors_mail, runInputs_mail, runFrames_mail, runSignals_mail, runDisplay_mail, List.append_assoc]
    exact ⟨_, rfl⟩
  obtain ⟨before, mail⟩ := before
  refine ⟨before, ?_⟩
  rw [← mail]
  simp only [v, State.reinit, runService_mail, runOutbound_mail, runLamps_mail, runWarnings_mail, runGauges_mail,
    List.append_assoc]
  exact ⟨_, rfl⟩

end

/-- One gauge when the homing timer of gauge `g` expires in `mode` (R93). -/
def homedRun (mode : Mode) (g h : Fin 6) (r : GaugeRun) : GaugeRun :=
  if h = g then
    let r := { r with position := 0, filter := 0, demand := 0, target := 0, homing := none }
    match mode with
    | .active => if r.sweepPending then beginSweep r else r.enter .settling
    | _ => r.enter .parking
  else r

theorem homed_eq (g : Fin 6) (s : State) (a : Acc Gauges) :
    homed g s a = Gauges.onInUse s (fun h _ r => (homedRun s.control.mode g h r, [])) a := by
  unfold homed homedRun
  congr 1
  funext h _ r
  split
  · cases s.control.mode <;> rfl
  · rfl

theorem homedRun_other {g h : Fin 6} (other : h ≠ g) (mode : Mode) (r : GaugeRun) : homedRun mode g h r = r := if_neg other

/-- The gauge that is homed stands at 0 (R93). -/
theorem homedRun_same (mode : Mode) (g : Fin 6) (r : GaugeRun) :
    let r' := homedRun mode g g r
    r'.position = 0 ∧ r'.filter = 0 ∧ r'.demand = 0 ∧ r'.target = 0 ∧ r'.homing = none ∧ r'.view = r.view
    ∧ r'.state = (if mode = .active then (if r.sweepPending then .sweep else .settling) else .parking)
    ∧ (mode = .active → r'.sweepPending = false ∧ (r.sweepPending = true → r'.phase = .up)) := by
  rw [homedRun, if_pos rfl]
  by_cases active : mode = .active
  · subst active
    cases pending : r.sweepPending
    · simp [GaugeRun.enter]
    · simp [beginSweep, GaugeRun.enter]
  · cases mode
    case active => exact absurd rfl active
    all_goals simp [GaugeRun.enter]

section
variable {s : State} {a : Acc Gauges} {g : Fin 6} (inUse : (s.running.gauges.get g).inUse = true)
include inUse

/-- An update event at a gauge in use (R86). -/
theorem gaugeSignal_takes (i : Fin 256) (e : Effective) :
    let cfg := s.running.gauges.get g
    let r := a.st.gauges.get g
    let x := { r with view := e }
    let r' := (gaugeSignal i e s a).st.gauges.get g
    (cfg.source ≠ i → r' = r)
    ∧ (cfg.source = i → r.state = .tracking → r' = if e.status = .invalid then { x with state := .fallback, coils := true } else x)
    ∧ (cfg.source = i → r.state = .fallback → r' = if e.status = .invalid then x else x.showing)
    ∧ (cfg.source = i → r.state ≠ .tracking → r.state ≠ .fallback → r' = x) := by
  intro cfg r x r'
  have taken : r' = _ := onInUse_used inUse
  rw [taken]
  refine ⟨fun other => ?_, fun own is => ?_, fun own is => ?_, fun own tracking fallback => ?_⟩
  · rw [if_neg other]
  · rw [if_pos own]
    simp only [show (a.st.gauges.get g).state = .tracking from is, Effective.good, bne_iff_ne, ne_eq, ite_not]
    rw [← is]
    rfl
  · rw [if_pos own]
    simp only [show (a.st.gauges.get g).state = .fallback from is, Effective.good, bne_iff_ne, ne_eq, ite_not, trackOrFallback_eq]
    rw [← is]
  · rw [if_pos own]
    dsimp only
    split
    · next is => exact absurd is tracking
    · next is => exact absurd is fallback
    · rfl

/-- A gauge in use at an entry to ACTIVE (R92, R95, R98). -/
theorem gaugeMode_active (old : Mode) :
    let cfg := s.running.gauges.get g
    let r := a.st.gauges.get g
    let due := cfg.sweep && old != .configuring
    let u := gaugeMode old .active s a
    let r' := u.st.gauges.get g
    (r.state = .unhomed → .report (.wear .gaugeHoming g.val) ∈ u.out ∧ r' =
      { r with state := .homing, coils := true, homing := some (s.now + cfg.fs + cfg.overrun)
               sweepPending := r.sweepPending || due })
    ∧ (r.state ≠ .unhomed → .report (.wear .gaugeHoming g.val) ∈ u.out → .report (.wear .gaugeHoming g.val) ∈ a.out)
    ∧ (r.state = .homing → r' = { r with sweepPending := r.sweepPending || due })
    ∧ (r.state = .parking ∨ r.state = .parked → r' = if due then r.sweeping else r.showing) := by
  intro cfg r due u r'
  have taken : r' = (gaugeActive g cfg old s.now r).1 := onInUse_used inUse
  have told := onInUse_reports s (fun g cfg r => gaugeActive g cfg old s.now r) a (.wear .gaugeHoming g.val)
  rw [taken]
  refine ⟨fun is => ⟨told.2 (.inr ⟨g, inUse, ?_⟩), ?_⟩, fun other sent => (told.1 sent).resolve_right ?_, fun is => ?_, fun is => ?_⟩
  · simp [gaugeActive, show (a.st.gauges.get g).state = .unhomed from is]
  · simp only [gaugeActive, is]
    rfl
  · rintro ⟨k, -, wear⟩
    unfold gaugeActive at wear
    split at wear
    · next is =>
      simp only [List.mem_singleton, Notice.report.injEq, Report.wear.injEq, true_and] at wear
      exact other ((congrArg (fun g => (a.st.gauges.get g).state) (Fin.ext wear)).trans is)
    all_goals nomatch wear
  · simp only [gaugeActive, is]
    rfl
  · rcases is with is | is
    · simp only [gaugeActive, is, trackOrFallback_eq]
      rfl
    · simp only [gaugeActive, is, trackOrFallback_eq]
      rfl

omit inUse in
/-- A gauge at an entry to STANDBY, CONFIGURING or SLEEP (R95, R97, R99). -/
theorem gaugeRest_cases (new : Mode) (r : GaugeRun) :
    let x := { r with sweepPending := false }
    let r' := gaugeRest new r
    (r.state = .tracking ∨ r.state = .fallback ∨ r.state = .settling ∨ r.state = .sweep → new ≠ .sleep →
      r' = { x with state := .parking, coils := true })
    ∧ (r.state = .homing → r' = if new = .standby then x else { x with state := .unhomed, coils := false, homing := none })
    ∧ (r.state = .parking → new ≠ .configuring → r' = if new = .sleep then { x with state := .unhomed, coils := false } else x)
    ∧ (r.state = .unhomed ∨ r.state = .parked → new ≠ .configuring → r' = x) := by
  refine ⟨fun is awake => ?_, fun is => ?_, fun is _ => ?_, fun is _ => ?_⟩
  · rcases is with is | is | is | is <;> simp only [gaugeRest, is] <;> exact if_neg awake
  · simp only [gaugeRest, is]
    rfl
  · simp only [gaugeRest, is]
    rfl
  · rcases is with is | is <;> simp only [gaugeRest, is]

/-- A gauge in use at the start of an output test (R96). -/
theorem gaugeTestStart_takes :
    let r := a.st.gauges.get g
    let r' := (gaugeTestStart s a).st.gauges.get g
    (r.state = .tracking ∨ r.state = .fallback ∨ r.state = .sweep → r' = { r.sweeping with testSweep := true })
    ∧ (r.state = .settling ∨ r.state = .homing → r' = { r with sweepPending := true, testSweep := true }) := by
  intro r r'
  have taken : r' = _ := onInUse_used inUse
  rw [taken]
  refine ⟨fun is => ?_, fun is => ?_⟩
  · rcases is with is | is | is <;> simp only [show (a.st.gauges.get g).state = _ from is] <;> rfl
  · rcases is with is | is <;> simp only [show (a.st.gauges.get g).state = _ from is] <;> rw [← is]

/-- A gauge in use at the end of an output test (R96). -/
theorem gaugeTestEnd_takes :
    let r := a.st.gauges.get g
    let r' := (gaugeTestEnd s a).st.gauges.get g
    (r.testSweep = false → r' = r)
    ∧ (r.testSweep = true → let x := { r with testSweep := false, sweepPending := false }
        r' = if r.state = .sweep then x.showing else x) := by
  intro r r'
  have taken : r' = _ := onInUse_used inUse
  rw [taken]
  refine ⟨fun no => ?_, fun tests => ?_⟩
  · rw [if_neg (by rw [show (a.st.gauges.get g).testSweep = false from no]; decide)]
  · rw [if_pos tests]
    simp only [trackOrFallback_eq]
    rfl

end

/-- What a re-initialization makes of a gauge (R100). -/
theorem reinitGauges_cases (old : Image) (s : State) (a : Acc Gauges) (g : Fin 6) :
    let cfg := s.running.gauges.get g
    let r := a.st.gauges.get g
    let u := reinitGauges old s a
    let r' := u.st.gauges.get g
    let view := if cfg.inUse then s.eff cfg.source else r.view
    (old.gauges.get g = cfg → r' = { r with view := view })
    ∧ (old.gauges.get g ≠ cfg → ∃ phase, r' = ⟨.unhomed, view, 0, 0, 0, 0, phase, false, false, none, false⟩)
    ∧ u.st.updateTimer = some (s.now + 20) ∧ .record (.gauge g) (gaugeContent g r') ∈ u.out := by
  intro cfg r u r' view
  have taken : r' = _ := tellRows_get ..
  refine ⟨fun same => ?_, fun other => ⟨r.phase, ?_⟩, rfl, ?_⟩
  · rw [taken]
    simp only [show old.gauges.get g = s.running.gauges.get g from same, ↓reduceIte, view]
    split <;> rfl
  · rw [taken]
    simp only [show ¬old.gauges.get g = s.running.gauges.get g from other, ↓reduceIte, view]
    split <;> rfl
  · rw [taken]
    exact List.mem_append_right _ (tellRows_mem.2 ⟨g, List.mem_singleton.2 rfl⟩)

/-- Settles O38. -/
theorem gaugeTimersExpire : Obligations.GaugeTimersExpire := by
  refine ⟨fun t s => ?_, updateGauge_cases, fun s => ?_, fun s a g => ?_⟩
  · intro v
    refine ⟨fun due => ⟨_, expiry_at _ s due, rfl, rfl, fun g => ?_⟩, fun g due inUse => ⟨_, expiry_at _ s due, rfl, ?_⟩⟩
    · exact onInUse_get (s.advanceTo t) (fun _ cfg r => (updateGauge cfg r, [])) ⟨s.gauges, []⟩ g
    · rw [runGauges_gauges, homed_eq]
      refine ⟨fun k other => ?_, rfl, ?_⟩
      · rw [onInUse_get]
        split
        · exact homedRun_other other _ _
        · rfl
      · intro r r'
        have record : r' = homedRun s.control.mode g g r := by
          rw [← advanceTo_mode s t]
          exact onInUse_used inUse
        rw [record]
        exact homedRun_same ..
  · intro tested
    exact ⟨rfl, rfl, enterMode_gauges_take s, reinit_gauges_take s⟩
  · intro cfg r at' record shows
    have shown : ∀ u : Acc Gauges, ((at' u).position ≠ r.position ∨ (at' u).demand ≠ r.demand ∨ (at' u).state ≠ r.state →
        .record (.gauge g) (gaugeContent g (at' u)) ∈ u.out) → shows u := fun u h changed => by
      simp only [record, ← gaugeContent_eq]
      exact h changed
    refine ⟨fun unused => ⟨fun i e => onInUse_unused unused, fun m m' => gaugeMode_unused unused m m' a, onInUse_unused unused,
        onInUse_unused unused⟩, shown _ (onInUse_shows s (fun _ cfg r => (updateGauge cfg r, [])) a g), shown _ (onInUse_shows s _ a g),
      shown _ (onInUse_shows s _ a g), shown _ (onInUse_shows s _ a g), fun i e => shown _ (onInUse_shows s _ a g),
      fun m m' => shown _ (gaugeMode_shows m m' s a g), fun inUse => ⟨gaugeSignal_takes inUse, gaugeMode_active inUse,
        fun old new rests => ?_, (gaugeTestStart_takes inUse).1, (gaugeTestStart_takes inUse).2, (gaugeTestEnd_takes inUse).1,
        (gaugeTestEnd_takes inUse).2⟩, fun old => ?_⟩
    · intro u x
      obtain ⟨moves, homing, parking, rest⟩ := gaugeRest_cases new r
      rw [show at' u = gaugeRest new r from gaugeMode_rests rests inUse old a]
      exact ⟨moves, homing, parking, rest, gaugeMode_updateTimer ..⟩
    · intro u view
      obtain ⟨same, other, timer, told⟩ := reinitGauges_cases old s a g
      rw [gaugeContent_eq] at told
      exact ⟨same, other, timer, told⟩

end Sys2Proof.Machine
end

section
/-! PROOFS. RefusalProofs: how a reader refuses a content (R183). A rule for each reader says which check it adds to those of what
follows it; the list of checks of a loader is put together from these rules, in the order in which it reads. -/

namespace Sys2Proof.Machine

namespace Reader
variable {α β γ : Type}

/-- From byte `o` of the content on, the reader refuses as the checks say. -/
def RefusedBy (c : List Byte) (o : Nat) (r : Reader α) (checks : List (Prop × Result)) : Prop :=
  ∀ result, r.on (c.drop o) = .error result ↔ Refused checks result

section
variable {c : List Byte} {o : Nat} {checks : List (Prop × Result)} {P Q : Prop} {res : Result}

theorem RefusedBy.pure (a : α) : RefusedBy c o (Pure.pure a : Reader α) [] := fun _ =>
  ⟨fun h => (nomatch h), False.elim⟩

/-- Two checks of one result in a row are one. -/
theorem RefusedBy.group {r : Reader α} (h : RefusedBy c o r ((P, res) :: (Q, res) :: checks)) :
    RefusedBy c o r ((P ∧ Q, res) :: checks) := fun result => by
  rw [h result]
  simp only [refused_cons]
  tauto

/-- Three checks that a reader makes in one, before others of their result. -/
theorem RefusedBy.group_three {P₁ P₂ P₃ : Prop} {r : Reader α} (h : RefusedBy c o r ((P₁ ∧ P₂ ∧ P₃, res) :: (Q, res) :: checks)) :
    RefusedBy c o r ((P₁ ∧ P₂ ∧ P₃ ∧ Q, res) :: checks) := fun result => by
  rw [h result]
  simp only [refused_cons]
  tauto

theorem RefusedBy.group_four {P₁ P₂ P₃ P₄ : Prop} {r : Reader α}
    (h : RefusedBy c o r ((P₁ ∧ P₂ ∧ P₃ ∧ P₄, res) :: (Q, res) :: checks)) :
    RefusedBy c o r ((P₁ ∧ P₂ ∧ P₃ ∧ P₄ ∧ Q, res) :: checks) := fun result => by
  rw [h result]
  simp only [refused_cons]
  tauto

theorem RefusedBy.iff {r : Reader α} (same : P ↔ Q) (h : RefusedBy c o r ((P, res) :: checks)) : RefusedBy c o r ((Q, res) :: checks) := by
  rwa [← propext same]

/-- A check that always holds is none. -/
theorem RefusedBy.always {r : Reader α} (holds : P) (h : RefusedBy c o r ((P, res) :: checks)) : RefusedBy c o r checks := fun result => by
  rw [h result, refused_cons]
  simp [holds]

theorem RefusedBy.nat {n : Nat} {k : Nat → Reader β} (h : RefusedBy c (o + n) (k (fieldAt c o n)) checks) :
    RefusedBy c o (nat n >>= k) checks := fun result => by
  rw [on_nat, List.drop_drop]
  exact h result

theorem RefusedBy.int {n : Nat} {k : Int → Reader β} (h : RefusedBy c (o + n) (k (toSigned (8 * n) (fieldAt c o n))) checks) :
    RefusedBy c o (int n >>= k) checks := fun result => by
  rw [on_int, List.drop_drop]
  exact h result

/-- An optional field. -/
def optAt (c : List Byte) (o n : Nat) : Option Nat := if fieldAt c o n == 256 ^ n - 1 then none else some (fieldAt c o n)

theorem RefusedBy.opt {n : Nat} {k : Option Nat → Reader β} (h : RefusedBy c (o + n) (k (optAt c o n)) checks) :
    RefusedBy c o (opt n >>= k) checks := fun result => by
  rw [on_opt, List.drop_drop]
  exact h result

/-- A fault field. -/
def faultAt (c : List Byte) (o : Nat) : Option FaultCode :=
  if fieldAt c (o + 2) 1 == 0xFF then none else some ⟨fieldAt c o 2, fieldAt c (o + 2) 1⟩

theorem RefusedBy.fault {k : Option FaultCode → Reader β} (h : RefusedBy c (o + 3) (k (faultAt c o)) checks) :
    RefusedBy c o (Reader.fault >>= k) checks := fun result => by
  rw [on_fault, List.drop_drop, List.drop_drop]
  exact h result

theorem RefusedBy.check {b : Bool} {k : Unit → Reader β} (holds : b = true ↔ P) (h : P → RefusedBy c o (k ()) checks) :
    RefusedBy c o (check b res >>= k) ((P, res) :: checks) := fun result => by
  rw [on_check, refused_cons]
  by_cases is : P
  · rw [if_pos (holds.2 is), h is result]
    simp [is]
  · rw [if_neg (mt holds.1 is)]
    simp [is, eq_comm]

theorem RefusedBy.flag_of {k : Bool → Reader β} (h : fieldAt c o 1 ≤ 1 → RefusedBy c (o + 1) (k (fieldAt c o 1 == 1)) checks) :
    RefusedBy c o (Reader.flag >>= k) ((fieldAt c o 1 ≤ 1, .badValue) :: checks) := fun result => by
  rw [on_flag, refused_cons, List.drop_drop]
  by_cases is : fieldAt c o 1 ≤ 1
  · rw [if_pos (by exact is)]
    simp only [is, not_true_eq_false, false_and, true_and, false_or]
    exact h is result
  · rw [if_neg (by exact is)]
    simp [is, eq_comm]

theorem RefusedBy.flag {k : Bool → Reader β} (h : RefusedBy c (o + 1) (k (fieldAt c o 1 == 1)) checks) :
    RefusedBy c o (Reader.flag >>= k) ((fieldAt c o 1 ≤ 1, .badValue) :: checks) := .flag_of fun _ => h

theorem RefusedBy.enum {l : List α} {k : α → Reader β} (h : ∀ a, l[fieldAt c o 1]? = some a → RefusedBy c (o + 1) (k a) checks) :
    RefusedBy c o (enum l >>= k) ((fieldAt c o 1 < l.length, .badValue) :: checks) := fun result => by
  rw [on_enum, refused_cons, List.drop_drop]
  change (match l[fieldAt c o 1]? with | some a => _ | none => _) = _ ↔ _
  by_cases is : fieldAt c o 1 < l.length
  · have known := List.getElem?_eq_getElem is
    rw [known]
    simp only [is, not_true_eq_false, false_and, true_and, false_or]
    exact h _ known result
  · rw [List.getElem?_eq_none (Nat.le_of_not_lt is)]
    simp [is, eq_comm]

theorem RefusedBy.row {n i : Nat} {k : Fin n → Reader β} (h : ∀ j : Fin n, i = j.val → RefusedBy c o (k j) checks) :
    RefusedBy c o (row n i res >>= k) ((i < n, res) :: checks) := fun result => by
  rw [on_row, refused_cons]
  by_cases is : i < n
  · rw [dif_pos is]
    simp only [is, not_true_eq_false, false_and, true_and, false_or]
    exact h ⟨i, is⟩ rfl result
  · rw [dif_neg is]
    simp [is, eq_comm]

theorem RefusedBy.optRow {n : Nat} {i : Option Nat} {k : Option (Fin n) → Reader β}
    (h : ∀ j : Option (Fin n), i = j.map (·.val) → RefusedBy c o (k j) checks) :
    RefusedBy c o (optRow n i res >>= k) ((∀ x, i = some x → x < n, res) :: checks) := fun result => by
  rw [refused_cons]
  cases i with
  | none =>
    rw [on_optRow_none, h none rfl result]
    simp
  | some x =>
    rw [on_optRow_some]
    by_cases is : x < n
    · rw [dif_pos is, h (some ⟨x, is⟩) rfl result]
      simp [is]
    · rw [dif_neg is]
      simp [is, eq_comm]

end

end Reader

open Reader

section
variable {c : List Byte} {o : Nat}

/-! ### Checks on fields -/

theorem leNat_lt (l : List Byte) : leNat l < 256 ^ l.length := by
  induction l with
  | nil => decide
  | cons b l ih =>
    have := b.isLt
    rw [leNat, List.length_cons, Nat.pow_succ]
    omega

theorem fieldAt_lt (c : List Byte) (o n : Nat) : fieldAt c o n < 256 ^ n :=
  lt_of_lt_of_le (leNat_lt _) (Nat.pow_le_pow_right (by decide) (by simp [List.length_take]))

/-- The optional fields of two bytes name a signal. -/
theorem optAt_signal (c : List Byte) (o : Nat) : (∀ x, optAt c o 2 = some x → x < 256) ↔ (fieldAt c o 2 = 0xFFFF ∨ fieldAt c o 2 < 256) := by
  unfold optAt
  by_cases absent : fieldAt c o 2 = 0xFFFF
  · simp [absent]
  · simp [absent]

theorem optAt_byte (c : List Byte) (o n : Nat) : (∀ x, optAt c o 1 = some x → x < n) ↔ (fieldAt c o 1 = 0xFF ∨ fieldAt c o 1 < n) := by
  unfold optAt
  by_cases absent : fieldAt c o 1 = 0xFF
  · simp [absent]
  · simp [absent]

theorem severityOk_iff (c : List Byte) (o : Nat) :
    severityOk (faultAt c o) = true ↔ (fieldAt c (o + 2) 1 = 0xFF ∨ fieldAt c (o + 2) 1 ≤ 3) := by
  unfold faultAt
  by_cases absent : fieldAt c (o + 2) 1 = 0xFF
  · simp [absent, severityOk]
  · simp [absent, severityOk]

/-- The kind of an identifier by its code, and the identifiers that it leaves. -/
theorem identFits_iff {kind : IdKind} {n : Nat} (code : idKinds[n]? = some kind) (v : Nat) :
    identFits kind v = true ↔ v < if n = 0 then 2048 else 536870912 := by
  match n, code with
  | 0, code => cases code; simp [identFits]
  | 1, code => cases code; simp [identFits]

theorem identFits_opt {kind : IdKind} {n : Nat} (code : idKinds[n]? = some kind) (c : List Byte) (o : Nat) :
    (optAt c o 4).all (identFits kind) = true ↔
      (fieldAt c o 4 = 0xFFFFFFFF ∨ fieldAt c o 4 < if n = 0 then 2048 else 536870912) := by
  unfold optAt
  by_cases absent : fieldAt c o 4 = 0xFFFFFFFF
  · simp [absent]
  · simp [absent, identFits_iff code]

theorem idKind_eq {kind : IdKind} {n : Nat} (code : idKinds[n]? = some kind) : kind = if n = 0 then .standard else .extended := by
  match n, code with
  | 0, code => cases code; rfl
  | 1, code => cases code; rfl

theorem byteOrder_eq {order : ByteOrder} {n : Nat} (code : byteOrders[n]? = some order) : order = if n = 0 then .little else .big := by
  match n, code with
  | 0, code => cases code; rfl
  | 1, code => cases code; rfl

/-- The source check on an optional target (R22). -/
theorem free_iff {img : Image} {target : Option (Fin 256)} {w : Source} (read : optAt c o 2 = target.map (·.val)) :
    img.free target w = true ↔ ∀ i : Fin 256, fieldAt c o 2 = i.val →
      (img.signals.get i).source = .none ∨ (img.signals.get i).source = w := by
  unfold optAt at read
  cases target with
  | none =>
    have absent : fieldAt c o 2 = 0xFFFF := by
      by_contra other
      simp [other] at read
    simp only [Image.free, true_iff, absent]
    intro i is
    omega
  | some t =>
    have value : fieldAt c o 2 = t.val := by
      split at read
      · nomatch read
      · exact Option.some_inj.1 read
    simp only [Image.free, Bool.or_eq_true, beq_iff_eq, value]
    exact ⟨fun free i is => Fin.ext is ▸ free, fun free => free t rfl⟩

end

/-- A loader refuses a content as its checks say. -/
theorem loadEntry_refused {s : State} {table index : Nat} {content : List Byte} {checks : List (Prop × Result)} (signal : table ≠ 3)
    (substitution : table ≠ 4) (h : RefusedBy content 0 (tableLoader table index s.image) checks) (r : Result) :
    s.loadEntry table index content = .error r ↔ Refused checks r := by
  rw [← h r, List.drop_zero]
  unfold State.loadEntry
  split
  · exact absurd rfl signal
  · exact absurd rfl substitution
  · cases (tableLoader table index s.image).on content <;> simp

section
variable (s : State) (index : Nat) (content : List Byte)

theorem tab_all {n : Nat} {α : Type} (t : Tab n α) (p : α → Bool) : t.list.all p = true ↔ ∀ i, p (t.get i) = true := by
  rw [List.all_eq_true]
  constructor
  · exact fun h i => h _ (List.getElem_mem _)
  · intro h x member
    obtain ⟨i, inside, rfl⟩ := List.getElem_of_mem member
    exact h ⟨i, t.ok ▸ inside⟩

theorem frame_refused (r : Result) :
    let img := s.image
    let f := fieldAt content
    let yesNo := fun o => f o 1 ≤ 1
    let severity := fun o => f o 1 = 0xFF ∨ f o 1 ≤ 3
    let width := fun o => if f o 1 = 0 then 2048 else 536870912
    let kind := if f 2 1 = 0 then IdKind.standard else IdKind.extended
    s.loadEntry 1 index content = .error r ↔ Refused [
          (yesNo 0 ∧ f 2 1 < 2 ∧ yesNo 18, .badValue),
          (index < 128, .badIndex),
          (f 1 1 < 3 ∧ f 11 1 ≤ 8 ∧ f 3 4 < width 2 ∧ f 7 4 < width 2 ∧ (f 14 4 = 0xFFFFFFFF ∨ f 14 4 < width 2)
            ∧ f 13 1 < 8 ∧ (f 13 1).testBit (f 1 1) = false, .badValue),
          (f 19 1 = 0xFF ∨ f 19 1 < 64, .badIndex),
          (severity 22, .badValue),
          (∀ (e : Fin 128) (k : Fin 8), index = e.val → ((img.extract.get e).get k).target ≠ none →
            let d := (img.extract.get e).get k
            fits d.order d.start d.length (f 11 1) = true, .badValue),
          (f 0 1 = 1 → ∀ k : Fin 128, index ≠ k.val → ¬((img.frames.get k).enabled = true
            ∧ (img.frames.get k).port.val = f 1 1 ∧ (img.frames.get k).kind = kind
            ∧ (img.frames.get k).mask.toNat = f 7 4
            ∧ (img.frames.get k).ident &&& (img.frames.get k).mask = BitVec.ofNat 29 (f 3 4) &&& (img.frames.get k).mask),
            .conflict)] r := by
  intro img f yesNo severity width kind
  refine loadEntry_refused (by decide) (by decide) ?_ r
  change RefusedBy content 0 (loadFrame index s.image) _
  unfold loadFrame
  refine .group <| .flag <| .nat <| .group <| .enum fun kind' code => .nat <| .nat <| .nat <| .nat <| .nat <| .opt <| .flag <|
    .opt <| .fault <| .row fun e at_e => .group <| .row fun p at_p => .group <| .check (P := f 11 1 ≤ 8) ?_ fun _ =>
    .group_three <| .check ?_ fun widths => .check ?_ fun _ => .iff (optAt_byte ..) <| .optRow fun mirror _ =>
    .check (severityOk_iff ..) fun _ => .check ?_ fun _ => .check ?_ fun _ => .pure _
  · exact decide_eq_true_iff
  · rw [Bool.and_eq_true, Bool.and_eq_true, identFits_iff code, identFits_iff code, identFits_opt code, and_assoc]
  · rw [Bool.and_eq_true, decide_eq_true_iff, Bool.not_eq_true']
  · simp only [tab_all, Bool.or_eq_true, Option.isNone_iff_eq_none, at_e]
    constructor
    · intro fit e' k same used
      obtain rfl : e = e' := Fin.ext same
      exact (fit k).resolve_left used
    · intro fit k
      exact or_iff_not_imp_left.2 (fit e k rfl)
  · have masked : ∀ b : BitVec 29, b = BitVec.ofNat 29 (f 7 4) ↔ b.toNat = f 7 4 := fun b => by
      have low : f 7 4 < 2 ^ 29 := lt_of_lt_of_le widths.2.1 (by simp only [width]; split <;> norm_num)
      rw [← BitVec.toNat_inj, BitVec.toNat_ofNat, Nat.mod_eq_of_lt low]
    have named : ∀ q : Fin 3, q = p ↔ q.val = f 1 1 := fun q => Fin.ext_iff.trans (by rw [← at_p])
    have kinds : kind' = kind := idKind_eq code
    simp only [Bool.or_eq_true, Bool.not_eq_true', ← imp_iff_not_or, List.all_eq_true, List.mem_finRange,
      true_implies, beq_iff_eq, ← Bool.not_eq_true, Bool.and_eq_true, and_assoc]
    refine imp_congr_right fun _ => forall_congr' fun k => ?_
    rw [or_iff_not_imp_left, ← named, ← masked, ← kinds, at_e, Fin.ext_iff, eq_comm]
    refine imp_congr_right fun _ => not_congr (and_congr_right fun _ => and_congr_right fun _ => and_congr_right fun _ =>
      and_congr_right fun mask => ?_)
    rw [mask]

theorem extract_refused (r : Result) :
    let img := s.image
    let f := fieldAt content
    let yesNo := fun o => f o 1 ≤ 1
    let signal := fun o => f o 2 = 0xFFFF ∨ f o 2 < 256
    let order := fun o => if f o 1 = 0 then ByteOrder.little else ByteOrder.big
    s.loadEntry 2 index content = .error r ↔ Refused [
          (f 4 1 < 2 ∧ yesNo 5 ∧ yesNo 6, .badValue),
          (index < 1024 ∧ signal 0, .badIndex),
          (f 2 1 ≤ 63 ∧ 1 ≤ f 3 1 ∧ f 3 1 ≤ 32 ∧ f 9 1 ≤ 15 ∧ (f 6 1 = 1 → f 5 1 = 0 ∧ 2 ≤ f 3 1)
            ∧ ∀ e : Fin 128, index / 8 = e.val → fits (order 4) (f 2 1) (f 3 1) (img.frames.get e).minLen = true, .badValue),
          (∀ (i : Fin 256) (e : Fin 128) (k : Fin 8), f 0 2 = i.val → index = 8 * e.val + k.val →
            (img.signals.get i).source = .none ∨ (img.signals.get i).source = .frame e k, .conflict)] r := by
  intro img f yesNo signal order
  refine loadEntry_refused (by decide) (by decide) ?_ r
  change RefusedBy content 0 (loadExtract index s.image) _
  unfold loadExtract
  refine .opt <| .nat <| .nat <| .group <| .enum fun order' code => .group <| .flag_of fun unsigned => .flag <| .int <| .nat <|
    .int <| .group <| .iff ?_ <| .row fun e at_e => .always ?_ <| .row fun slot at_slot => .iff (optAt_signal ..) <| .optRow fun target read =>
    .group_four <| .check ?_ fun _ => .group <| .check ?_ fun _ => .check ?_ fun _ => .check ?_ fun _ => .pure _
  · omega
  · omega
  · simp only [Bool.and_eq_true, decide_eq_true_iff, and_assoc]
    exact Iff.rfl
  · have signed : ¬f 5 1 = 1 ↔ f 5 1 = 0 := by
      have : f 5 1 ≤ 1 := unsigned
      omega
    simp only [Bool.or_eq_true, Bool.and_eq_true, Bool.not_eq_true', beq_eq_false_iff_ne, decide_eq_true_iff, ne_eq, ← imp_iff_not_or]
    exact imp_congr_right fun _ => and_congr_left fun _ => signed
  · rw [byteOrder_eq code]
    constructor
    · rintro fit e' same
      obtain rfl : e = e' := Fin.ext (at_e.symm.trans same)
      exact fit
    · exact fun fit => fit e at_e
  · rw [free_iff read]
    constructor
    · rintro free i e' k is at_k
      obtain rfl : e = e' := Fin.ext (by omega)
      obtain rfl : slot = k := Fin.ext (by omega)
      exact free i is
    · exact fun free i is => free i e slot is (by omega)

theorem display_refused (r : Result) : let f := fieldAt content
    s.loadEntry 13 index content = .error r ↔
      Refused [(f 0 1 < 8, .badValue), (index < 64 ∧ (f 0 1 = 1 → f 1 1 < 6), .badIndex)] r := by
  intro f
  refine loadEntry_refused (by decide) (by decide) ?_ r
  change RefusedBy content 0 (loadDisplay index s.image) _
  unfold loadDisplay
  refine .enum fun kind code => .nat <| .group <| .row fun i at_i => ?_
  have known : kind = f 0 1 := by
    have inside := (List.getElem?_eq_some_iff.1 code).1
    have eight : ∀ n < 8, ([0, 1, 2, 3, 4, 5, 6, 7] : List Nat)[n]? = some n := by decide
    exact Option.some_inj.1 (code.symm.trans (eight _ inside))
  refine .iff ?_ <| .optRow fun gauge at_gauge => .always ?_ <| .optRow fun signal at_signal => .pure _
  · rw [known]
    by_cases gauge : f 0 1 = 1
    · simp only [gauge, ↓reduceIte, Option.some.injEq, forall_eq', true_imp_iff]
      exact Iff.rfl
    · simp [gauge]
  · intro x is
    have small : f 1 1 < 256 := fieldAt_lt content 1 1
    split at is
    · exact (Option.some_inj.1 is) ▸ small
    · nomatch is

end

end Sys2Proof.Machine
end

section
/-! PROOFS. ListRefusalProofs: refusals of readers that repeat another one, and of the tables with lists (R145, R156, R183). -/

namespace Sys2Proof.Machine

namespace Reader
variable {α β γ : Type}

/-- From byte `o` of the content on, the reader answers `a` and stands at byte `o'`, or with BAD_VALUE where `ok` fails. -/
structure Reads (c : List Byte) (o : Nat) (r : Reader α) (o' : Nat) (ok : Prop) (a : α) : Prop where
  accepts : ok → r (c.drop o) = .ok (a, c.drop o')
  refuses : ¬ok → r (c.drop o) = .error .badValue

section
variable {c : List Byte} {o o' o'' m w : Nat} {checks : List (Prop × Result)} {P Q : Prop} {res : Result}

theorem Reads.pure (a : α) : Reads c o (Pure.pure a : Reader α) o True a := ⟨fun _ => rfl, fun no => absurd trivial no⟩

theorem Reads.bind {p : Reader α} {k : α → Reader β} {a : α} {b : β} (first : Reads c o p o' P a) (rest : P → Reads c o' (k a) o'' Q b) :
    Reads c o (p >>= k) o'' (P ∧ Q) b := by
  have run : (p >>= k) (c.drop o) = p (c.drop o) >>= fun x => (k x.1) x.2 := rfl
  constructor
  · rintro ⟨hp, hq⟩
    rw [run, first.accepts hp]
    exact (rest hp).accepts hq
  · intro no
    rw [run]
    by_cases hp : P
    · rw [first.accepts hp]
      exact (rest hp).refuses fun hq => no ⟨hp, hq⟩
    · rw [first.refuses hp]
      rfl

theorem Reads.iff {r : Reader α} {a : α} (same : P ↔ Q) (h : Reads c o r o' P a) : Reads c o r o' Q a := by
  rwa [← propext same]

theorem Reads.nat (n : Nat) : Reads c o (nat n) (o + n) True (fieldAt c o n) :=
  ⟨fun _ => congrArg (fun l => Except.ok (_, l)) List.drop_drop, fun no => absurd trivial no⟩

theorem Reads.int (n : Nat) : Reads c o (int n) (o + n) True (toSigned (8 * n) (fieldAt c o n)) :=
  ⟨fun _ => congrArg (fun l => Except.ok (_, l)) List.drop_drop, fun no => absurd trivial no⟩

theorem Reads.opt (n : Nat) : Reads c o (opt n) (o + n) True (optAt c o n) :=
  ⟨fun _ => congrArg (fun l => Except.ok (_, l)) List.drop_drop, fun no => absurd trivial no⟩

theorem Reads.fault : Reads c o Reader.fault (o + 3) True (faultAt c o) := by
  refine ⟨fun _ => ?_, fun no => absurd trivial no⟩
  change Except.ok (if leNat (((c.drop o).drop 2).take 1) == 0xFF then none else some (⟨leNat ((c.drop o).take 2), _⟩ : FaultCode),
    ((c.drop o).drop 2).drop 1) = _
  rw [List.drop_drop, List.drop_drop]
  rfl

theorem Reads.check (b : Bool) : Reads c o (check b .badValue) o (b = true) () := by
  cases b
  · exact ⟨fun h => (nomatch h), fun _ => rfl⟩
  · exact ⟨fun _ => rfl, fun no => absurd rfl no⟩

theorem Reads.flag : Reads c o flag (o + 1) (fieldAt c o 1 ≤ 1) (fieldAt c o 1 == 1) :=
  .iff (by simp) <| .bind (.nat 1) fun _ => .bind (.check _) fun _ => .pure _

theorem Reads.enum {l : List α} {a : α} (known : fieldAt c o 1 < l.length → l[fieldAt c o 1]? = some a) :
    Reads c o (enum l) (o + 1) (fieldAt c o 1 < l.length) a := by
  refine .iff (P := True ∧ fieldAt c o 1 < l.length) (by simp) <| .bind (.nat 1) fun _ => ?_
  constructor
  · intro inside
    rw [known inside]
    rfl
  · intro outside
    rw [List.getElem?_eq_none (Nat.le_of_not_lt outside)]
    rfl

/-- A reader repeated. -/
theorem Reads.times {r : Reader α} {ok : Nat → Prop} {value : Nat → α}
    (each : ∀ j, Reads c (o + w * j) r (o + w * (j + 1)) (ok j) (value j)) :
    Reads c o (times m r) (o + w * m) (∀ j < m, ok j) ((List.range m).map value) := by
  suffices ∀ n, Reads c (o + w * n) (Reader.times m r) (o + w * (n + m)) (∀ j < m, ok (n + j)) ((List.range m).map fun j => value (n + j)) by
    simpa using this 0
  induction m with
  | zero => exact fun n => .iff (by simp) (.pure [])
  | succ m ih =>
    intro n
    have first : Reads c (o + w * n) (r >>= fun a => Reader.times m r >>= fun l => Pure.pure (a :: l)) (o + w * (n + 1 + m))
        (ok n ∧ (∀ j < m, ok (n + 1 + j)) ∧ True) (value n :: (List.range m).map fun j => value (n + 1 + j)) :=
      .bind (each n) fun _ => .bind (ih (n + 1)) fun _ => .pure _
    have length : n + 1 + m = n + (m + 1) := by omega
    have shift : ∀ j, n + 1 + j = n + (j + 1) := fun j => by omega
    rw [length] at first
    simp only [shift] at first
    rw [List.range_succ_eq_map, List.map_cons, List.map_map]
    refine .iff ?_ first
    rw [and_true]
    constructor
    · rintro ⟨head, tail⟩ j inside
      cases j with
      | zero => exact head
      | succ j => exact tail j (by omega)
    · exact fun all => ⟨all 0 (by omega), fun j inside => all (j + 1) (by omega)⟩

theorem RefusedBy.reads {p : Reader α} {k : α → Reader β} {a : α} (first : Reads c o p o' P a) (h : P → RefusedBy c o' (k a) checks) :
    RefusedBy c o (p >>= k) ((P, .badValue) :: checks) := fun result => by
  rw [on_bind, refused_cons]
  by_cases is : P
  · rw [first.accepts is]
    simp only [is, not_true_eq_false, false_and, true_and, false_or]
    exact h is result
  · rw [first.refuses is]
    simp [is, eq_comm]

/-- A check at every item of a list. -/
theorem RefusedBy.mapM {g : α → Reader β} {ok : α → Prop} {rel : α → β → Prop}
    (each : ∀ (x : α) (k : β → Reader γ) (rest : List (Prop × Result)), (∀ b, rel x b → RefusedBy c o (k b) rest) →
      RefusedBy c o (g x >>= k) ((ok x, res) :: rest))
    {l : List α} {k : List β → Reader γ} (h : ∀ bs, List.Forall₂ rel l bs → RefusedBy c o (k bs) checks) :
    RefusedBy c o (l.mapM g >>= k) ((∀ x ∈ l, ok x, res) :: checks) := by
  induction l generalizing k with
  | nil =>
    rw [List.mapM_nil, pure_bind]
    intro result
    rw [h [] .nil result, refused_cons]
    simp
  | cons x l ih =>
    rw [List.mapM_cons, bind_assoc]
    refine .iff (P := ok x ∧ ∀ y ∈ l, ok y) (by simp) (.group (each x _ _ fun b hb => ?_))
    rw [bind_assoc]
    refine ih fun bs hbs => ?_
    rw [pure_bind]
    exact h _ (.cons hb hbs)

/-- A row for every number of a list. -/
theorem RefusedBy.rows {n : Nat} {l : List Nat} {k : List (Fin n) → Reader γ}
    (h : ∀ js : List (Fin n), l = js.map (·.val) → RefusedBy c o (k js) checks) :
    RefusedBy c o (l.mapM (fun i => Reader.row n i res) >>= k) ((∀ i ∈ l, i < n, res) :: checks) :=
  .mapM (rel := fun i (j : Fin n) => i = j.val) (fun _ _ _ h => .row h) fun js same =>
    h js (List.forall₂_eq_eq_eq ▸ List.forall₂_map_right_iff.2 same)

end

end Reader

open Reader

theorem nodup_range_map {α : Type} {n m : Nat} (short : n ≤ m) (g : Nat → α) :
    ((List.range n).map g).Nodup ↔ ∀ j k : Fin m, j < k → k.val < n → g j.val ≠ g k.val := by
  rw [List.nodup_map_iff_inj_on List.nodup_range]
  simp only [List.mem_range]
  constructor
  · intro apart j k less inside same
    exact absurd (Fin.ext (apart j.val (by omega) k.val inside same)) (Fin.ne_of_lt less)
  · intro apart j hj k hk same
    rcases Nat.lt_trichotomy j k with less | same' | less
    · exact absurd same (apart ⟨j, by omega⟩ ⟨k, by omega⟩ less hk)
    · exact same'
    · exact absurd same.symm (apart ⟨k, by omega⟩ ⟨j, by omega⟩ less hj)

section
variable (s : State) (index : Nat) (content : List Byte)

theorem snapshotList_refused (r : Result) :
    let f := fieldAt content
    s.loadEntry 15 index content = .error r ↔ Refused [
          (index = 0, .badIndex),
          (f 0 1 ≤ 16 ∧ ∀ j k : Fin 16, j < k → k.val < f 0 1 → f (1 + j.val) 1 ≠ f (1 + k.val) 1, .badValue)] r := by
  intro f
  refine loadEntry_refused (by decide) (by decide) ?_ r
  change RefusedBy content 0 (loadSnapshotList index s.image) _
  unfold loadSnapshotList
  refine .nat <| .always (fun _ _ => trivial) <| .reads (.times (w := 1) fun j => .nat 1) fun _ => .check beq_iff_eq fun _ => .always ?_ <|
    .rows fun signals same => .check ?_ fun _ => .pure _
  · intro i member
    obtain ⟨j, -, rfl⟩ := List.mem_map.1 (List.mem_of_mem_take member)
    exact fieldAt_lt content _ 1
  · rw [Bool.and_eq_true, decide_eq_true_iff, decide_eq_true_iff]
    refine and_congr_right fun short => ?_
    have numbers : signals.map (·.val) = (List.range (f 0 1)).map fun j => f (1 + j) 1 := by
      rw [← same, ← List.map_take, List.take_range, min_eq_left short]
      exact List.map_congr_left fun j _ => by rw [Nat.zero_add, Nat.one_mul]
    rw [← List.nodup_map_iff Fin.val_injective, numbers]
    exact nodup_range_map short fun j => f (1 + j) 1

end

/-! ### Packing slots -/

/-- The byte order that a code names. -/
def orderAt (c : List Byte) (o : Nat) : ByteOrder := if fieldAt c o 1 = 0 then .little else .big

/-- The packing slot at byte `o`, before its signal is looked at. -/
def slotAt (c : List Byte) (o : Nat) : Option Nat × PackSlot :=
  (optAt c o 2, ⟨0, fieldAt c (o + 2) 1, fieldAt c (o + 3) 1, orderAt c (o + 4), fieldAt c (o + 5) 1, toSigned 32 (fieldAt c (o + 6) 4),
    fieldAt c (o + 10) 1 == 1⟩)

theorem readSlot_reads (c : List Byte) (o : Nat) :
    Reads c o readSlot (o + 11) (fieldAt c (o + 4) 1 < 2 ∧ fieldAt c (o + 10) 1 ≤ 1) (slotAt c o) := by
  refine .iff ?_ <| .bind (.opt 2) fun _ => .bind (.nat 1) fun _ => .bind (.nat 1) fun _ =>
    .bind (.enum (a := orderAt c (o + 4)) fun inside => ?_) fun _ => .bind (.nat 1) fun _ => .bind (.int 4) fun _ =>
    .bind .flag fun _ => .pure _
  · simp only [true_and, and_true]
    exact Iff.rfl
  · have two : ∀ n < 2, byteOrders[n]? = some (if n = 0 then ByteOrder.little else .big) := by decide
    exact two _ inside

/-- A slot with its signal, when it names one. -/
def placed (r : Option Nat × PackSlot) : Option PackSlot := r.1.map fun i => { r.2 with signal := Fin.ofNat 256 i }

/-- The signals of the slots are looked up. -/
theorem refusedBy_slots {c : List Byte} {o : Nat} {checks : List (Prop × Result)} {γ : Type} {raw : List (Option Nat × PackSlot)}
    {k : List (Option PackSlot) → Reader γ} (h : RefusedBy c o (k (raw.map placed)) checks) :
    RefusedBy c o (raw.mapM (fun r => do
      let i ← optRow 256 r.1 .badIndex
      return i.map fun i => { r.2 with signal := i }) >>= k) ((∀ r ∈ raw, ∀ x, r.1 = some x → x < 256, .badIndex) :: checks) := by
  refine .mapM (rel := fun r t => placed r = t) (fun r k' rest hk => ?_) fun slots same => ?_
  · rw [bind_assoc]
    refine .optRow fun i at_i => ?_
    rw [pure_bind]
    refine hk _ ?_
    rw [placed, at_i, Option.map_map]
    congr 1
    funext j
    simp
  · have whole : raw.map placed = slots := List.forall₂_eq_eq_eq ▸ List.forall₂_map_left_iff.2 same
    rwa [← whole]

section
variable {c : List Byte} {o : Nat}

theorem placed_absent (absent : fieldAt c o 2 = 0xFFFF) : placed (slotAt c o) = none := by
  simp [placed, slotAt, optAt, absent]

theorem placed_used (used : fieldAt c o 2 ≠ 0xFFFF) :
    placed (slotAt c o) = some { (slotAt c o).2 with signal := Fin.ofNat 256 (fieldAt c o 2) } := by
  simp [placed, slotAt, optAt, used]

/-- A property of the used slots that does not look at their signals. -/
theorem usedSlots_all {p : PackSlot → Bool} (blind : ∀ d i, p { d with signal := i } = p d) {m : Nat} :
    ((((List.range m).map fun j => slotAt c (o + 11 * j)).map placed).filterMap id).all p = true ↔
      ∀ k : Fin m, fieldAt c (o + 11 * k.val) 2 ≠ 0xFFFF → p (slotAt c (o + 11 * k.val)).2 = true := by
  simp only [List.all_eq_true, List.mem_filterMap, List.mem_map, List.mem_range, id]
  constructor
  · intro all k used
    rw [← blind _ (Fin.ofNat 256 (fieldAt c (o + 11 * k.val) 2))]
    exact all _ ⟨_, ⟨_, ⟨k.val, k.isLt, rfl⟩, rfl⟩, placed_used used⟩
  · rintro all d ⟨_, ⟨_, ⟨j, inside, rfl⟩, rfl⟩, is⟩
    by_cases used : fieldAt c (o + 11 * j) 2 = 0xFFFF
    · rw [placed_absent used] at is
      nomatch is
    · rw [placed_used used, Option.some_inj] at is
      rw [← is, blind]
      exact all ⟨j, inside⟩ used

/-- What the used slots take, one after the other. -/
theorem usedSlots_flatMap {α : Type} {h : PackSlot → List α} (blind : ∀ d i, h { d with signal := i } = h d) (l : List Nat) :
    (((l.map fun j => slotAt c (o + 11 * j)).map placed).filterMap id).flatMap h =
      l.flatMap fun j => if fieldAt c (o + 11 * j) 2 = 0xFFFF then [] else h (slotAt c (o + 11 * j)).2 := by
  induction l with
  | nil => rfl
  | cons j l ih =>
    simp only [List.map_cons, List.flatMap_cons]
    by_cases used : fieldAt c (o + 11 * j) 2 = 0xFFFF
    · rw [placed_absent used, List.filterMap_cons_none rfl, ih, if_pos used, List.nil_append]
    · rw [placed_used used, List.filterMap_cons_some (f := id) rfl, List.flatMap_cons, ih, if_neg used, blind]

end

/-- Lists in a row hold nothing twice where none of them does and no two share an item. -/
theorem nodup_flatMap_range {α : Type} {m : Nat} {h : Nat → List α} (each : ∀ j < m, (h j).Nodup) :
    ((List.range m).flatMap h).Nodup ↔ ∀ j k : Fin m, j ≠ k → ∀ x ∈ h j.val, x ∉ h k.val := by
  rw [List.nodup_flatMap, List.pairwise_iff_getElem]
  simp only [List.mem_range, List.length_range, List.getElem_range]
  constructor
  · rintro ⟨-, apart⟩ j k other x hj hk
    rcases Nat.lt_or_gt_of_ne (Fin.val_ne_of_ne other) with less | less
    · exact apart _ _ j.isLt k.isLt less hj hk
    · exact apart _ _ k.isLt j.isLt less hk hj
  · exact fun apart => ⟨each, fun j k hj hk less x xj xk => apart ⟨j, hj⟩ ⟨k, hk⟩ (Fin.ne_of_lt less) x xj xk⟩

/-- The bits that a field takes differ. -/
theorem bitsOf_nodup {order : ByteOrder} {s ℓ : Nat} (inside : s + ℓ ≤ 64) : (bitsOf order s ℓ).Nodup := by
  have bits : bitsOf order s ℓ = (List.range ℓ).map fun k => bitPos order (s + k) := by cases order <;> rfl
  rw [bits]
  refine List.Nodup.map_on (fun j hj k hk same => ?_) List.nodup_range
  rw [List.mem_range] at hj hk
  have := bitPos_bitPos (order := order) (show s + j < 64 by omega)
  rw [same, bitPos_bitPos (by omega)] at this
  omega

section
variable (s : State) (index : Nat) (content : List Byte)

theorem transmit_refused (r : Result) :
    let f := fieldAt content
    let yesNo := fun o => f o 1 ≤ 1
    let signal := fun o => f o 2 = 0xFFFF ∨ f o 2 < 256
    let width := fun o => if f o 1 = 0 then 2048 else 536870912
    let order := fun o => if f o 1 = 0 then ByteOrder.little else ByteOrder.big
    let slot := fun k : Fin 8 => 10 + 11 * k.val
    let used := fun k => f (slot k) 2 ≠ 0xFFFF
    s.loadEntry 12 index content = .error r ↔ Refused [
          (yesNo 0 ∧ f 2 1 < 2 ∧ yesNo 9 ∧ ∀ k, f (slot k + 4) 1 < 2 ∧ yesNo (slot k + 10), .badValue),
          (index < 16 ∧ ∀ k, signal (slot k), .badIndex),
          (f 1 1 < 3 ∧ f 3 4 < width 2 ∧ f 7 1 ≤ 8 ∧ 1 ≤ f 8 1
            ∧ (∀ k, used k → f (slot k + 2) 1 ≤ 63 ∧ 1 ≤ f (slot k + 3) 1 ∧ f (slot k + 3) 1 ≤ 32 ∧ f (slot k + 5) 1 ≤ 15
              ∧ (f (slot k + 10) 1 = 1 → 2 ≤ f (slot k + 3) 1)
              ∧ fits (order (slot k + 4)) (f (slot k + 2) 1) (f (slot k + 3) 1) (f 7 1) = true)
            ∧ ∀ j k, used j → used k → j ≠ k →
              ∀ n ∈ bitsOf (order (slot j + 4)) (f (slot j + 2) 1) (f (slot j + 3) 1),
                n ∉ bitsOf (order (slot k + 4)) (f (slot k + 2) 1) (f (slot k + 3) 1), .badValue)] r := by
  intro f yesNo signal width order slot used
  refine loadEntry_refused (by decide) (by decide) ?_ r
  change RefusedBy content 0 (loadTransmit index s.image) _
  unfold loadTransmit
  refine .group <| .flag <| .nat <| .group <| .enum fun kind code => .nat <| .nat <| .nat <| .group <| .flag <|
    .iff ?_ <| .reads (.times (w := 11) fun j => readSlot_reads content _) fun _ => .group <| .row fun e at_e =>
    .iff ?_ <| refusedBy_slots <| .group <| .row fun p at_p => .group_three <| .check ?_ fun _ => .group <| .check ?_ fun fit =>
    .check ?_ fun _ => .pure _
  · exact (Fin.forall_iff (p := fun k => f (slot k + 4) 1 < 2 ∧ yesNo (slot k + 10))).symm
  · rw [List.forall_mem_map]
    simp only [List.mem_range]
    exact (forall₂_congr fun j _ => optAt_signal content _).trans (Fin.forall_iff (p := fun k => signal (slot k))).symm
  · rw [Bool.and_eq_true, Bool.and_eq_true, identFits_iff code, decide_eq_true_iff, bne_iff_ne, ← Nat.one_le_iff_ne_zero, and_assoc]
  · rw [usedSlots_all fun _ _ => rfl]
    refine forall_congr' fun k => imp_congr_right fun _ => ?_
    have coded : ∀ n : Nat, (n == 1) = false ↔ ¬n = 1 := fun n => beq_eq_false_iff_ne
    simp only [Bool.and_eq_true, decide_eq_true_eq, Bool.or_eq_true, Bool.not_eq_true', and_assoc]
    simp only [slotAt, coded, ← imp_iff_not_or]
    exact Iff.rfl
  · rw [decide_eq_true_iff, usedSlots_flatMap (fun _ _ => rfl), nodup_flatMap_range fun j inside => ?_]
    · refine forall₂_congr fun j k => ?_
      by_cases usedJ : used j
      · by_cases usedK : used k
        · rw [if_neg (by exact usedJ), if_neg (by exact usedK)]
          exact ⟨fun apart _ _ => apart, fun apart => apart usedJ usedK⟩
        · have absent : fieldAt content (0 + 1 + 1 + 1 + 4 + 1 + 1 + 1 + 11 * k.val) 2 = 0xFFFF := not_not.1 usedK
          rw [if_pos absent]
          exact ⟨fun _ _ use => absurd use usedK, fun _ _ _ _ => List.not_mem_nil⟩
      · have absent : fieldAt content (0 + 1 + 1 + 1 + 4 + 1 + 1 + 1 + 11 * j.val) 2 = 0xFFFF := not_not.1 usedJ
        rw [if_pos absent]
        exact ⟨fun _ use => absurd use usedJ, fun _ _ _ none => (nomatch none)⟩
    · split
      · exact List.nodup_nil
      · next named =>
        have within := (fit ⟨j, inside⟩ named).2.2.2.2.2
        exact bitsOf_nodup (of_decide_eq_true (Bool.and_eq_true_iff.1 within).1)

end

end Sys2Proof.Machine
end

section
/-! PROOFS. GeneralRefusalProofs: when a GENERAL content is refused (R37, R45, R61, R127, R183). -/

namespace Sys2Proof.Machine

/-- Two checks of one result in a row are one check of both. -/
theorem Reader.RefusedBy.merge {c : List Byte} {o : Nat} {γ : Type} {checks : List (Prop × Result)} {res : Result} {b₁ b₂ : Bool}
    {k : Unit → Reader γ} (h : RefusedBy c o (Reader.check (b₁ && b₂) res >>= k) checks) :
    RefusedBy c o (Reader.check b₁ res >>= fun _ => Reader.check b₂ res >>= k) checks := by
  cases b₁
  · exact h
  · exact h

open Reader

section
variable {c : List Byte} {o : Nat}

/-! ### Breakpoints -/

/-- The breakpoint at byte `o`. -/
def pointAt (c : List Byte) (o : Nat) : Int × Nat := (toSigned 32 (fieldAt c o 4), fieldAt c (o + 4) 2)

theorem breakpoints_reads (c : List Byte) (o m : Nat) :
    Reads c o (breakpoints m) (o + 6 * m) True ((List.range m).map fun j => pointAt c (o + 6 * j)) :=
  .iff (by simp) <| .times (w := 6) fun j => .iff (P := True ∧ True ∧ True) Iff.rfl <| .bind (.int 4) fun _ => .bind (.nat 2) fun _ => .pure _

theorem readBacklight_reads (c : List Byte) (o : Nat) : Reads c o readBacklight (o + 25) True
    (fieldAt c o 1, (List.range 4).map fun j => pointAt c (o + 1 + 6 * j)) :=
  .iff (P := True ∧ True ∧ True) (by simp) <| .bind (.nat 1) fun _ => .bind (breakpoints_reads c _ 4) fun _ => .pure _

theorem increasing_iff_steps (l : List (Int × Nat)) :
    increasing l = true ↔ ∀ j (h : j + 1 < l.length), (l[j]).1 < (l[j + 1]).1 := by
  induction l with
  | nil => simp [increasing]
  | cons x l ih =>
    cases l with
    | nil => simp [increasing]
    | cons y l =>
      rw [increasing, Bool.and_eq_true, decide_eq_true_iff, ih]
      constructor
      · rintro ⟨first, rest⟩ j inside
        cases j with
        | zero => exact first
        | succ j => exact rest j (by simpa using inside)
      · exact fun all => ⟨all 0 (by simp), fun j inside => all (j + 1) (by simpa using inside)⟩

/-- The breakpoints that count rise, and stay within `top`. -/
theorem points_iff {m n : Nat} (few : n ≤ m) (top : Nat) :
    let points := ((List.range m).map fun j => pointAt c (o + 6 * j)).take n
    (increasing points = true ↔ ∀ j < m - 1, j + 1 < n → toSigned 32 (fieldAt c (o + 6 * j) 4) < toSigned 32 (fieldAt c (o + 6 * (j + 1)) 4))
    ∧ (points.all (·.2 ≤ top) = true ↔ ∀ j < m, j < n → fieldAt c (o + 4 + 6 * j) 2 ≤ top) := by
  intro points
  have whole : points = (List.range n).map fun j => pointAt c (o + 6 * j) := by
    simp only [points]
    rw [← List.map_take, List.take_range, min_eq_left few]
  rw [whole]
  constructor
  · rw [increasing_iff_steps]
    simp only [List.length_map, List.length_range, List.getElem_map, List.getElem_range]
    exact ⟨fun all j _ inside => all j inside, fun all j inside => all j (by omega) inside⟩
  · simp only [List.all_eq_true, List.forall_mem_map, List.mem_range, decide_eq_true_eq]
    have there : ∀ j, o + 6 * j + 4 = o + 4 + 6 * j := fun j => by omega
    simp only [pointAt, there]
    exact ⟨fun all j _ inside => all j inside, fun all j inside => all j (by omega) inside⟩

theorem backlightOk_iff (c : List Byte) (o : Nat) :
    backlightOk (fieldAt c o 1, (List.range 4).map fun j => pointAt c (o + 1 + 6 * j)) = true ↔
      let breakpoint := fun j => toSigned 32 (fieldAt c (o + 1 + 6 * j) 4)
      2 ≤ fieldAt c o 1 ∧ fieldAt c o 1 ≤ 4 ∧ (∀ j < 3, j + 1 < fieldAt c o 1 → breakpoint j < breakpoint (j + 1))
        ∧ ∀ j < 4, j < fieldAt c o 1 → fieldAt c (o + 5 + 6 * j) 2 ≤ 1000 := by
  simp only [backlightOk, Bool.and_eq_true, decide_eq_true_eq, and_assoc]
  refine and_congr_right fun _ => and_congr_right fun few => ?_
  obtain ⟨rise, stay⟩ := points_iff (c := c) (o := o + 1) few 1000
  exact and_congr rise stay

/-! ### Ports -/

/-- The bit rate that a code names. -/
def bitRateAt (c : List Byte) (o : Nat) : BitRate :=
  if fieldAt c o 1 = 0 then .k125 else if fieldAt c o 1 = 1 then .k250 else .k500

/-- The kind of identifier that a code names. -/
def idKindAt (c : List Byte) (o : Nat) : IdKind := if fieldAt c o 1 = 0 then .standard else .extended

/-- The port settings at byte `o`, with the identifiers' numbers. -/
def portAt (c : List Byte) (o : Nat) : PortConfig × Nat × Nat :=
  (⟨fieldAt c o 1 == 1, bitRateAt c (o + 1), fieldAt c (o + 2) 1, faultAt c (o + 3), fieldAt c (o + 6) 1 == 1, idKindAt c (o + 7),
    BitVec.ofNat 29 (fieldAt c (o + 8) 4), BitVec.ofNat 29 (fieldAt c (o + 12) 4)⟩, fieldAt c (o + 8) 4, fieldAt c (o + 12) 4)

theorem readPort_reads (c : List Byte) (o : Nat) : Reads c o readPort (o + 16)
    (fieldAt c o 1 ≤ 1 ∧ fieldAt c (o + 1) 1 < 3 ∧ fieldAt c (o + 6) 1 ≤ 1 ∧ fieldAt c (o + 7) 1 < 2) (portAt c o) := by
  have rates : ∀ n < 3, [BitRate.k125, .k250, .k500][n]? = some (if n = 0 then BitRate.k125 else if n = 1 then .k250 else .k500) := by
    decide
  have kinds : ∀ n < 2, idKinds[n]? = some (if n = 0 then IdKind.standard else .extended) := by decide
  refine .iff ?_ <| .bind .flag fun _ => .bind (.enum (a := bitRateAt c (o + 1)) (rates _)) fun _ => .bind (.nat 1) fun _ =>
    .bind .fault fun _ => .bind .flag fun _ => .bind (.enum (a := idKindAt c (o + 7)) (kinds _)) fun _ => .bind (.nat 4) fun _ =>
    .bind (.nat 4) fun _ => .pure _
  simp only [true_and, and_true]
  exact Iff.rfl

/-! ### Targets -/

theorem optAt_eq_none (read : optAt c o 2 = none) : fieldAt c o 2 = 0xFFFF := by
  by_contra other
  simp [optAt, other] at read

theorem optAt_eq_some {v : Nat} (read : optAt c o 2 = some v) : fieldAt c o 2 = v ∧ fieldAt c o 2 ≠ 0xFFFF := by
  unfold optAt at read
  split at read
  · nomatch read
  · next other => exact ⟨Option.some_inj.1 read, by simpa using other⟩

/-- Two optional targets differ, or one is absent. -/
theorem targets_differ {x y : Option (Fin 256)} {o o' : Nat} (atX : optAt c o 2 = x.map (·.val)) (atY : optAt c o' 2 = y.map (·.val)) :
    (∀ i, x = some i → ∀ j, y = some j → i ≠ j) ↔ (fieldAt c o 2 = fieldAt c o' 2 → fieldAt c o 2 = 0xFFFF) := by
  cases x with
  | none => simp [optAt_eq_none atX]
  | some i =>
    obtain ⟨is_i, present⟩ := optAt_eq_some atX
    cases y with
    | none => simp [optAt_eq_none atY, present]
    | some j =>
      obtain ⟨is_j, -⟩ := optAt_eq_some atY
      have same : i = j ↔ fieldAt c o 2 = fieldAt c o' 2 := by rw [Fin.ext_iff, is_i, is_j]
      simp only [Option.some_inj, forall_eq', ne_eq, same]
      exact ⟨fun other same => absurd same other, fun absent same => present (absent same)⟩

/-- The checks of the settings of the ports. -/
theorem portsOk_iff {m : Nat} (known : ∀ j < m, fieldAt c (o + 16 * j + 7) 1 < 2) :
    (((List.range m).map fun j => portAt c (o + 16 * j)).all fun p =>
      10 ≤ p.1.recovery && identFits p.1.serviceKind p.2.1 && identFits p.1.serviceKind p.2.2 && severityOk p.1.fault) = true ↔
      ∀ q : Fin m, let at_q := o + 16 * q.val
        let width := if fieldAt c (at_q + 7) 1 = 0 then 2048 else 536870912
        10 ≤ fieldAt c (at_q + 2) 1 ∧ (fieldAt c (at_q + 5) 1 = 0xFF ∨ fieldAt c (at_q + 5) 1 ≤ 3) ∧ fieldAt c (at_q + 8) 4 < width
          ∧ fieldAt c (at_q + 12) 4 < width := by
  have kinds : ∀ n < 2, idKinds[n]? = some (if n = 0 then IdKind.standard else .extended) := by decide
  simp only [List.all_eq_true, List.forall_mem_map, List.mem_range, Bool.and_eq_true, decide_eq_true_eq, and_assoc]
  rw [Fin.forall_iff]
  refine forall₂_congr fun j inside => and_congr_right fun _ => ?_
  have code : idKinds[fieldAt c (o + 16 * j + 7) 1]? = some (portAt c (o + 16 * j)).1.serviceKind := kinds _ (known j inside)
  rw [identFits_iff code, identFits_iff code, ← and_assoc, and_comm]
  exact and_congr_left fun _ => severityOk_iff c _

end

theorem general_refused (s : State) (index : Nat) (content : List Byte) (r : Result) :
    let img := s.image
    let f := fieldAt content
    let yesNo := fun o => f o 1 ≤ 1
    let signal := fun o => f o 2 = 0xFFFF ∨ f o 2 < 256
    let severity := fun o => f o 1 = 0xFF ∨ f o 1 ≤ 3
    let width := fun o => if f o 1 = 0 then 2048 else 536870912
    let breakpoint := fun o j => toSigned 32 (f (o + 1 + 6 * j) 4)
    let port := fun q : Port => 76 + 16 * q.val
    s.loadEntry 16 index content = .error r ↔ Refused [
          (∀ q, yesNo (port q) ∧ f (port q + 1) 1 < 3 ∧ yesNo (port q + 6) ∧ f (port q + 7) 1 < 2, .badValue),
          (index = 0 ∧ signal 12 ∧ signal 14 ∧ signal 16, .badIndex),
          (2 ≤ f 18 1 ∧ f 18 1 ≤ 20 ∧ 50 ≤ f 19 1 ∧ f 19 1 ≤ 250 ∧ f 20 2 ≤ 5000 ∧ 20 ≤ f 22 1 ∧ f 22 1 ≤ 40
            ∧ 1 ≤ f 23 1 ∧ 10 ≤ f 24 2 ∧ f 24 2 ≤ 600
            ∧ (∀ o ∈ [26, 51], 2 ≤ f o 1 ∧ f o 1 ≤ 4
              ∧ (∀ j < 3, j + 1 < f o 1 → breakpoint o j < breakpoint o (j + 1)) ∧ ∀ j < 4, j < f o 1 → f (o + 5 + 6 * j) 2 ≤ 1000)
            ∧ ∀ q, 10 ≤ f (port q + 2) 1 ∧ severity (port q + 5) ∧ f (port q + 8) 4 < width (port q + 7)
              ∧ f (port q + 12) 4 < width (port q + 7), .badValue),
          (∀ i : Fin 256, let w := (img.signals.get i).source
            (f 12 2 = i.val → w = .none ∨ w = .derived .allClosed) ∧ (f 14 2 = i.val → w = .none ∨ w = .derived .openMoving)
            ∧ (f 16 2 = i.val → w = .none ∨ w = .derived .displayFault), .conflict),
          (∀ o ∈ [12, 14, 16], ∀ o' ∈ [12, 14, 16], o < o' → f o 2 = f o' 2 → f o 2 = 0xFFFF, .conflict)] r := by
  intro img f yesNo signal severity width breakpoint port
  refine loadEntry_refused (by decide) (by decide) ?_ r
  change RefusedBy content 0 (loadGeneral index s.image) _
  unfold loadGeneral
  refine .always (fun _ _ => trivial) <| .reads (.times (w := 1) fun j => .nat 1) fun _ => .int <| .nat <| .nat <| .opt <| .opt <| .opt <|
    .nat <| .nat <| .nat <| .nat <| .nat <| .nat <| .always trivial <| .reads (readBacklight_reads content _) fun _ =>
    .always trivial <| .reads (readBacklight_reads content _) fun _ => .iff ?_ <|
    .reads (.times (w := 16) fun j => readPort_reads content _) fun coded => .group <| .check beq_iff_eq fun _ => .always ?_ <|
    .rows fun designated _ => .group <| .iff (optAt_signal ..) <| .optRow fun allClosed at_allClosed => .group <|
    .iff (optAt_signal ..) <| .optRow fun openMoving at_openMoving => .iff (optAt_signal ..) <| .optRow fun displayFault at_displayFault =>
    .merge <| .merge <| .check ?_ fun _ => .check ?_ fun _ => .check ?_ fun _ => .pure _
  · exact (Fin.forall_iff (p := fun q : Port =>
      yesNo (port q) ∧ f (port q + 1) 1 < 3 ∧ yesNo (port q + 6) ∧ f (port q + 7) 1 < 2)).symm
  · rw [List.forall_mem_map]
    exact fun j _ => fieldAt_lt content _ 1
  · rw [Bool.and_eq_true, portsOk_iff fun j inside => (coded j inside).2.2.2]
    simp only [Bool.and_eq_true, decide_eq_true_eq, backlightOk_iff, bne_iff_ne, ← Nat.one_le_iff_ne_zero, List.forall_mem_cons,
      List.not_mem_nil, false_imp_iff, forall_const, and_true, and_assoc]
    constructor
    · rintro ⟨a₁, a₂, a₃, a₄, a₅, a₆, a₇, b₁, b₂, b₃, b₄, c₁, c₂, c₃, c₄, heal, d₁, d₂, ports⟩
      exact ⟨a₁, a₂, a₃, a₄, a₅, a₆, a₇, heal, d₁, d₂, b₁, b₂, b₃, b₄, c₁, c₂, c₃, c₄, ports⟩
    · rintro ⟨a₁, a₂, a₃, a₄, a₅, a₆, a₇, heal, d₁, d₂, b₁, b₂, b₃, b₄, c₁, c₂, c₃, c₄, ports⟩
      exact ⟨a₁, a₂, a₃, a₄, a₅, a₆, a₇, b₁, b₂, b₃, b₄, c₁, c₂, c₃, c₄, heal, d₁, d₂, ports⟩
  · rw [Bool.and_eq_true, Bool.and_eq_true, free_iff at_allClosed, free_iff at_openMoving, free_iff at_displayFault]
    exact ⟨fun ⟨⟨closed, moving⟩, fault⟩ i => ⟨closed i, moving i, fault i⟩,
      fun all => ⟨⟨fun i => (all i).1, fun i => (all i).2.1⟩, fun i => (all i).2.2⟩⟩
  · rw [decide_eq_true_iff, List.Nodup, List.pairwise_filterMap]
    simp only [id, List.pairwise_cons, List.forall_mem_cons, targets_differ at_allClosed at_openMoving,
      targets_differ at_allClosed at_displayFault, targets_differ at_openMoving at_displayFault]
    simp [f, and_assoc]

end Sys2Proof.Machine
end

section
/-! PROOFS. AcceptProofs: how a reader accepts a content that an entry was written to (R183): each field comes back as it was, a row
number names its row, a check that holds lets the reader go on. -/

namespace Sys2Proof.Machine

namespace Reader
variable {α β : Type}

/-- The reader takes these bytes as `a`, whatever follows them. -/
def Takes (r : Reader α) (bytes : List Byte) (a : α) : Prop := ∀ l, r (bytes ++ l) = .ok (a, l)

/-- The reader answers `a` on a content. -/
def Accepts (r : Reader α) (content : List Byte) (a : α) : Prop := r.on content = .ok a

theorem Takes.pure (a : α) : Takes (Pure.pure a : Reader α) [] a := fun _ => rfl

theorem Takes.bind {p : Reader α} {k : α → Reader β} {a : α} {b : β} {bytes more : List Byte} (first : Takes p bytes a)
    (rest : Takes (k a) more b) : Takes (p >>= k) (bytes ++ more) b := fun l => by
  have run : (p >>= k) (bytes ++ more ++ l) = p (bytes ++ more ++ l) >>= fun x => (k x.1) x.2 := rfl
  rw [run, List.append_assoc, first]
  exact rest l

theorem Takes.map {p : Reader α} {g : α → β} {a : α} {bytes : List Byte} (first : Takes p bytes a) :
    Takes (p >>= fun x => Pure.pure (g x)) bytes (g a) := fun l => by
  change (p (bytes ++ l) >>= fun x => Except.ok (g x.1, x.2)) = _
  rw [first]
  rfl

theorem Takes.eq {p : Reader α} {a b : α} {bytes : List Byte} (same : a = b) (h : Takes p bytes a) : Takes p bytes b := same ▸ h

theorem Takes.nat {n v : Nat} (small : v < 256 ^ n) : Takes (nat n) (leBytes n v) v := fun l => by
  change Except.ok (leNat ((leBytes n v ++ l).take n), (leBytes n v ++ l).drop n) = _
  rw [List.take_left' (leBytes_length ..), List.drop_left' (leBytes_length ..), leNat_leBytes, Nat.mod_eq_of_lt small]

theorem Takes.signed {n : Nat} {c : Int} (low : -(2 ^ (8 * n - 1) : Nat) ≤ c) (high : c < (2 ^ (8 * n - 1) : Nat)) (some : 0 < n) :
    Takes (int n) (leSigned n c) c := fun l => by
  have length : (leSigned n c).length = n := leBytes_length ..
  have width : 256 ^ n = 2 * 2 ^ (8 * n - 1) := by
    rw [← Nat.pow_succ', show (256 : Nat) = 2 ^ 8 from rfl, ← Nat.pow_mul]
    congr 1
    omega
  have positive : 0 < 2 ^ (8 * n - 1) := Nat.two_pow_pos _
  have number : leNat (leSigned n c) = (c % (256 ^ n : Nat)).toNat := by
    rw [leSigned, leNat_leBytes, Nat.cast_pow]
    refine Nat.mod_eq_of_lt ?_
    have below := Int.emod_lt_of_pos c (b := (256 : Int) ^ n) (by positivity)
    have above := Int.emod_nonneg c (b := (256 : Int) ^ n) (by positivity)
    zify
    rw [Int.toNat_of_nonneg above]
    exact below
  have whole : (2 : Int) ^ (8 * n) = (256 ^ n : Nat) := by
    push_cast
    rw [show (256 : Int) = 2 ^ 8 from rfl, ← pow_mul]
  have value : toSigned (8 * n) (leNat (leSigned n c)) = c := by
    rw [number, toSigned_eq, whole, width]
    rcases lt_or_ge c 0 with negative | positive
    · have : c % ((2 * 2 ^ (8 * n - 1) : Nat) : Int) = c + (2 * 2 ^ (8 * n - 1) : Nat) := by
        rw [← Int.add_emod_right, Int.emod_eq_of_lt (by omega) (by omega)]
      rw [this]
      split <;> omega
    · rw [Int.emod_eq_of_lt positive (by omega)]
      split <;> omega
  change Except.ok (toSigned (8 * n) (leNat ((leSigned n c ++ l).take n)), (leSigned n c ++ l).drop n) = _
  rw [List.take_left' length, List.drop_left' length, value]

theorem Takes.int {c : Int} (h : int32 c) : Takes (int 4) (leSigned 4 c) c :=
  .signed h.1 (lt_of_le_of_lt h.2 (by norm_num)) (by decide)

theorem Takes.gain {c : Int} (low : -32768 ≤ c) (high : c ≤ 32767) : Takes (Reader.int 2) (leSigned 2 c) c :=
  .signed low (lt_of_le_of_lt high (by norm_num)) (by decide)

theorem Takes.opt {n : Nat} {v : Option Nat} (small : ∀ x, v = some x → x < 256 ^ n - 1) : Takes (opt n) (optField n v) v := by
  have positive : 0 < 256 ^ n := Nat.pow_pos (by decide)
  refine .eq ?_ (.map (.nat (v := v.getD (256 ^ n - 1)) ?_))
  · cases v with
    | none => simp
    | some x => simp [(small x rfl).ne]
  · cases v with
    | none => exact Nat.sub_lt positive (by decide)
    | some x => exact (small x rfl).trans (Nat.sub_lt positive (by decide))

/-- A field with an optional row number. -/
theorem Takes.optFin {n m : Nat} (i : Option (Fin m)) (room : m ≤ 256 ^ n - 1) :
    Takes (Reader.opt n) (optField n (i.map (·.val))) (i.map (·.val)) :=
  .opt fun x is => by
    obtain ⟨j, -, rfl⟩ := Option.map_eq_some_iff.1 is
    exact lt_of_lt_of_le j.isLt room

theorem Takes.fault {f : Option FaultCode} (ok : faultOk f) : Takes Reader.fault (faultField f) f := by
  cases f with
  | none => exact fun l => rfl
  | some c =>
    obtain ⟨code, severity⟩ := ok c rfl
    have present : (c.severity == 0xFF) = false := beq_eq_false_iff_ne.2 (by omega)
    refine .eq ?_ (.bind (.nat code) (.map (.nat (show c.severity < 256 ^ 1 by omega))))
    rw [present]
    rfl

theorem Takes.flag (b : Bool) : Takes flag [flagByte b] b := fun _ => by cases b <;> rfl

theorem Takes.byte (b : Byte) : Takes (Reader.nat 1) [b] b.toNat := fun l =>
  congrArg (fun v => Except.ok (v, l)) (show b.toNat + 256 * 0 = b.toNat by omega)

theorem Takes.idKind (kind : IdKind) : Takes (enum idKinds) (idKindField kind) kind := fun _ => by cases kind <;> rfl

theorem Takes.byteOrder (order : ByteOrder) : Takes (enum byteOrders) (byteOrderField order) order := fun _ => by cases order <;> rfl

/-- A reader repeated on what a list was written to. -/
theorem Takes.times {r : Reader β} {field : α → List Byte} {value : α → β} {l : List α} (each : ∀ a ∈ l, Takes r (field a) (value a)) :
    Takes (times l.length r) (l.flatMap field) (l.map value) := by
  induction l with
  | nil => exact .pure []
  | cons a l ih =>
    have rest := ih fun b member => each b (List.mem_cons_of_mem a member)
    exact .bind (each a List.mem_cons_self) (.map rest)

section
variable {k : α → Reader β} {a : α} {b : β} {l bytes : List Byte} {r : Result}

theorem Accepts.pure {b' : β} (same : b' = b) : Accepts (Pure.pure b') l b := same ▸ rfl

theorem Accepts.take {p : Reader α} (first : Takes p bytes a) (rest : Accepts (k a) l b) : Accepts (p >>= k) (bytes ++ l) b := by
  rw [Accepts, on_bind, first]
  exact rest

theorem Accepts.last {p : Reader α} (first : Takes p bytes a) (rest : Accepts (k a) [] b) : Accepts (p >>= k) bytes b :=
  List.append_nil bytes ▸ .take first rest

theorem Accepts.row {n i : Nat} {j : Fin n} {k : Fin n → Reader β} (at_j : i = j.val) (h : Accepts (k j) l b) :
    Accepts (row n i r >>= k) l b := by
  subst at_j
  exact (on_row_fin j r k).trans h

theorem Accepts.optRow {n : Nat} (j : Option (Fin n)) {k : Option (Fin n) → Reader β} (h : Accepts (k j) l b) :
    Accepts (optRow n (j.map (·.val)) r >>= k) l b := by
  cases j with
  | none => exact h
  | some j => exact (on_optRow_some ..).trans ((dif_pos j.isLt).trans h)

theorem Accepts.optRow_at {n : Nat} {i : Option Nat} {j : Option (Fin n)} {k : Option (Fin n) → Reader β} (at_j : i = j.map (·.val))
    (h : Accepts (k j) l b) : Accepts (Reader.optRow n i r >>= k) l b := at_j ▸ .optRow j h

theorem Accepts.rows {n : Nat} {js : List (Fin n)} {k : List (Fin n) → Reader β} (h : Accepts (k js) l b) :
    Accepts ((js.map (·.val)).mapM (fun i => Reader.row n i r) >>= k) l b := by
  induction js generalizing k with
  | nil =>
    rw [List.map_nil, List.mapM_nil, pure_bind]
    exact h
  | cons j js ih =>
    rw [List.map_cons, List.mapM_cons, bind_assoc]
    refine .row rfl ?_
    rw [bind_assoc]
    exact ih (by rw [pure_bind]; exact h)

theorem Accepts.check {c : Bool} {k : Unit → Reader β} (holds : c = true) (h : Accepts (k ()) l b) : Accepts (check c r >>= k) l b :=
  (on_check_true holds r k).trans h

end

end Reader

open Reader

theorem severityOk_of_faultOk {f : Option FaultCode} (ok : faultOk f) : severityOk f = true := by
  cases f with
  | none => rfl
  | some c => exact decide_eq_true (ok c rfl).2

/-- A loader writes a content that it accepts. -/
theorem loadEntry_accepts {s : State} {table index : Nat} {content : List Byte} {img : Image} (signal : table ≠ 3) (substitution : table ≠ 4)
    (h : Accepts (tableLoader table index s.image) content img) : s.loadEntry table index content = .ok { s with image := img } := by
  unfold State.loadEntry
  split
  · exact absurd rfl signal
  · exact absurd rfl substitution
  · rw [show (tableLoader table index s.image).on content = .ok img from h]

section
variable {s : State} {p : Port} {k : Fin 16} {index : Nat} {content : List Byte}

/-- A LOAD ENTRY of one part whose content the loader takes is answered DONE. -/
theorem load_one_part {v : State} (mode : s.control.mode = .configuring) (access : accessNow s = true) (free : storeCommandRuns s = false)
    (short : content.length ≤ 51) (small : index < 65536) (length : contentLength (k.val + 1) = some content.length)
    (taken : (s.heard.setStaging p none).loadEntry (k.val + 1) index content = .ok v) :
    exec (loadCommand k p (BitVec.ofNat 16 index) 0x01 content) s
      = .next (finish (v.answer p 0x22 .done (byte (k.val + 1) :: leBytes 2 index ++ [1]))) := by
  have number : (BitVec.ofNat 16 index).toNat = index := Nat.mod_eq_of_lt small
  have run := (loadPartsCompleted k p (BitVec.ofNat 16 index) 0x01 content [] s mode access free short (by decide) rfl rfl length).1
  rw [number] at run
  exact run v taken

/-- The same at a table whose loader writes the working image alone. -/
theorem load_done {img : Image} (mode : s.control.mode = .configuring) (access : accessNow s = true) (free : storeCommandRuns s = false)
    (short : content.length ≤ 51) (small : index < 65536) (length : contentLength (k.val + 1) = some content.length)
    (signal : k ≠ 2) (substitution : k ≠ 3) (h : Accepts (tableLoader (k.val + 1) index s.image) content img) :
    exec (loadCommand k p (BitVec.ofNat 16 index) 0x01 content) s
      = .next (finish ((s.heard.loaded p img).answer p 0x22 .done (byte (k.val + 1) :: leBytes 2 index ++ [1]))) :=
  load_one_part mode access free short small length
    (loadEntry_accepts (s := s.heard.setStaging p none) (fun h => signal (Fin.ext (by omega))) (fun h => substitution (Fin.ext (by omega))) h)

end

end Sys2Proof.Machine
end

section
/-! PROOFS. TableAcceptProofs: the contents of FRAME, EXTRACT, TRANSMIT, DISPLAY, SNAPSHOT LIST and GENERAL that meet the checks of
their rules (R9, R11, R145, R156, R165, R183). -/

namespace Sys2Proof.Machine

open Reader

section
variable {img : Image}

theorem fin_le_bytes {m : Nat} (i : Fin m) (n : Nat) (room : m ≤ 256 ^ n) : i.val < 256 ^ n := lt_of_lt_of_le i.isLt room

theorem word_lt {w : Nat} (v : BitVec w) (n : Nat) (room : w ≤ 8 * n) : v.toNat < 256 ^ n := by
  rw [show (256 : Nat) = 2 ^ 8 from rfl, ← Nat.pow_mul]
  exact lt_of_lt_of_le v.isLt (Nat.pow_le_pow_right (by decide) room)

theorem loadFrame_accepts {n : Fin 128} {e : FrameEntry} (minLen : e.minLen ≤ 8) (timeout : e.timeout < 256)
    (ident : identFits e.kind e.ident.toNat = true) (mask : identFits e.kind e.mask.toNat = true)
    (replacement : ∀ r, e.replacement = some r → identFits e.kind r.toNat = true) (forward : e.forward.getLsbD e.port.val = false)
    (fault : faultOk e.fault)
    (extracts : ∀ slot, ((img.extract.get n).get slot).target ≠ none →
      fits ((img.extract.get n).get slot).order ((img.extract.get n).get slot).start ((img.extract.get n).get slot).length e.minLen = true)
    (apart : e.enabled = true → ∀ k, k ≠ n → (img.frames.get k).enabled = true → (img.frames.get k).port = e.port →
      (img.frames.get k).kind = e.kind → (img.frames.get k).mask = e.mask → (img.frames.get k).ident &&& e.mask ≠ e.ident &&& e.mask) :
    Accepts (loadFrame n.val img) (frameContent e) { img with frames := img.frames.set n e } := by
  simp only [frameContent, List.append_assoc]
  unfold loadFrame
  have entry : (⟨e.enabled, e.port, e.kind, BitVec.ofNat 29 e.ident.toNat, BitVec.ofNat 29 e.mask.toNat, e.minLen, e.timeout,
      BitVec.ofNat 3 e.forward.toNat, (e.replacement.map (·.toNat)).map (BitVec.ofNat 29), e.urgent, e.mirror, e.fault⟩ : FrameEntry) = e := by
    simp [Option.map_map, Function.comp_def]
  refine .take (.flag _) <| .take (.nat (fin_le_bytes _ 1 (by decide))) <| .take (.idKind _) <| .take (.nat (word_lt _ 4 (by decide))) <|
    .take (.nat (word_lt _ 4 (by decide))) <| .take (.nat (by omega)) <| .take (.nat timeout) <| .take (.nat (word_lt _ 1 (by decide))) <|
    .take (.opt ?_) <| .take (.flag _) <| .take (.optFin _ (by decide)) <| .last (.fault fault) <| .row rfl <| .row rfl <|
    .check (decide_eq_true minLen) <| .check ?_ <| .check ?_ <| .optRow _ <| .check (severityOk_of_faultOk fault) <| .check ?_ <| ?_
  · intro x is
    obtain ⟨r, -, rfl⟩ := Option.map_eq_some_iff.1 is
    exact lt_trans r.isLt (by decide)
  · rw [ident, mask]
    cases given : e.replacement with
    | none => rfl
    | some r => simpa using replacement r given
  · have small : e.forward.toNat < 8 := e.forward.isLt
    rw [decide_eq_true small, show e.forward.toNat.testBit e.port.val = false from forward]
    rfl
  · rw [tab_all]
    intro slot
    cases target : ((img.extract.get n).get slot).target with
    | none => simp
    | some i => simpa using extracts slot (by simp [target])
  · rw [entry]
    refine .check ?_ <| .pure rfl
    cases enabled : e.enabled with
    | false => rfl
    | true =>
      simp only [Bool.not_true, Bool.false_or, List.all_eq_true, Bool.or_eq_true, beq_iff_eq, Bool.not_eq_true', ← Bool.not_eq_true,
        Bool.and_eq_true, and_assoc, not_and]
      intro k _
      rw [or_iff_not_imp_left]
      exact fun other on port kind mask => apart enabled k other on port kind mask

theorem loadExtract_accepts {n : Fin 128} {slot : Fin 8} {d : Descriptor} (start : d.start ≤ 63) (some : 1 ≤ d.length)
    (most : d.length ≤ 32) (shift : d.shift ≤ 15) (gain_low : -32768 ≤ d.gain) (gain_high : d.gain ≤ 32767) (offset : int32 d.offset)
    (invalid : d.invalidCodes = true → d.signed = false ∧ 2 ≤ d.length)
    (fit : fits d.order d.start d.length (img.frames.get n).minLen = true) (free : img.free d.target (.frame n slot) = true) :
    Accepts (loadExtract (8 * n.val + slot.val) img) (descriptorContent d)
      (({ img with extract := img.extract.set n ((img.extract.get n).set slot d) } : Image).retarget
        ((img.extract.get n).get slot).target d.target (.frame n slot)) := by
  have flags : [flagByte d.signed, flagByte d.invalidCodes] = [flagByte d.signed] ++ [flagByte d.invalidCodes] := rfl
  simp only [descriptorContent, flags, List.append_assoc]
  unfold loadExtract
  refine .take (.optFin _ (by decide)) <| .take (.nat (by omega)) <| .take (.nat (by omega)) <| .take (.byteOrder _) <| .take (.flag _) <|
    .take (.flag _) <| .take (.gain gain_low gain_high) <| .take (.nat (by omega)) <| .last (.int offset) <| .row (j := n) (by omega) <|
    .row (j := slot) (by omega) <| .optRow _ <| .check ?_ <| .check ?_ <| .check fit <| .check free <| .pure rfl
  · simp only [Bool.and_eq_true, decide_eq_true_eq]
    exact ⟨⟨⟨start, some⟩, most⟩, shift⟩
  · cases codes : d.invalidCodes with
    | false => rfl
    | true => simp [invalid codes]

/-- A DISPLAY content of a kind and a parameter. -/
theorem displayed_accepts {n : Fin 64} {kind parameter : Nat} (gauge : Option (Fin 6)) (signal : Option (Fin 256)) {k : RecordKind}
    (known : kind < 8) (small : parameter < 256) (at_gauge : (if kind = 1 then some parameter else none) = gauge.map (·.val))
    (at_signal : (if kind = 2 then some parameter else none) = signal.map (·.val))
    (meant : (match gauge, signal with
      | some g, _ => .gauge g
      | _, some s => .value s
      | _, _ => ([RecordKind.none, .none, .none, .present, .doors, .lamps, .raw, .mode][kind]?).getD .none) = k) :
    Accepts (loadDisplay n.val img) (leBytes 1 kind ++ leBytes 1 parameter) { img with display := img.display.set n k } := by
  have code : Takes (enum [0, 1, 2, 3, 4, 5, 6, 7]) (leBytes 1 kind) kind := fun l => by
    have every : ∀ m < 8, (enum [0, 1, 2, 3, 4, 5, 6, 7] (leBytes 1 m ++ l)) = .ok (m, l) := fun m inside => by
      interval_cases m <;> rfl
    exact every kind known
  subst meant
  unfold loadDisplay
  exact .take code <| .last (.nat small) <| .row rfl <| .optRow_at at_gauge <| .optRow_at at_signal <| .pure rfl

theorem loadDisplay_accepts (n : Fin 64) (k : RecordKind) :
    Accepts (loadDisplay n.val img) (displayLoad k) { img with display := img.display.set n k } := by
  cases k with
  | none => exact displayed_accepts (kind := 0) (parameter := 0) none none (by decide) (by decide) rfl rfl rfl
  | gauge g => exact displayed_accepts (kind := 1) (parameter := g.val) (some g) none (by decide) (by omega) rfl rfl rfl
  | value i => exact displayed_accepts (kind := 2) (parameter := i.val) none (some i) (by decide) (by omega) rfl rfl rfl
  | present => exact displayed_accepts (kind := 3) (parameter := 0) none none (by decide) (by decide) rfl rfl rfl
  | doors => exact displayed_accepts (kind := 4) (parameter := 0) none none (by decide) (by decide) rfl rfl rfl
  | lamps => exact displayed_accepts (kind := 5) (parameter := 0) none none (by decide) (by decide) rfl rfl rfl
  | raw => exact displayed_accepts (kind := 6) (parameter := 0) none none (by decide) (by decide) rfl rfl rfl
  | mode => exact displayed_accepts (kind := 7) (parameter := 0) none none (by decide) (by decide) rfl rfl rfl

theorem loadSnapshotList_accepts {l : List (Fin 256)} (short : l.length ≤ 16) (apart : l.Nodup) :
    Accepts (loadSnapshotList 0 img) (snapshotListLoad l) { img with snapshotList := l } := by
  let numbers := l.map (·.val) ++ List.replicate (16 - l.length) 0
  have sixteen : numbers.length = 16 := by simp [numbers, short]
  have small : ∀ v ∈ numbers, v < 256 ^ 1 := fun v member => by
    rcases List.mem_append.1 member with named | padded
    · obtain ⟨i, -, rfl⟩ := List.mem_map.1 named
      exact i.isLt
    · rw [List.eq_of_mem_replicate padded]
      decide
  have all : Takes (times 16 (nat 1)) (numbers.flatMap (leBytes 1)) numbers := by
    have read := Takes.times (r := nat 1) (value := id) fun v member => Takes.nat (small v member)
    rwa [sixteen, List.map_id] at read
  have written : l.map (fun i => byte i.val) ++ List.replicate (16 - l.length) 0 = numbers.flatMap (leBytes 1) := by
    have each : ∀ v : List Nat, v.flatMap (leBytes 1) = v.map byte := fun v => by
      induction v with
      | nil => rfl
      | cons x v ih => exact congrArg (byte x :: ·) ih
    rw [each, List.map_append, List.map_map, List.map_replicate]
    rfl
  have first : numbers.take l.length = l.map (·.val) := List.take_left' (by simp)
  rw [snapshotListLoad, List.append_assoc, written]
  unfold loadSnapshotList
  refine .take (.nat (by omega)) <| .last all <| .check rfl ?_
  rw [first]
  refine .rows <| .check ?_ <| .pure rfl
  rw [decide_eq_true short, decide_eq_true apart]
  rfl

/-! ### TRANSMIT -/

/-- A packing slot as it is read back. -/
def slotRead : Option PackSlot → Option Nat × PackSlot
  | none => (none, ⟨0, 0, 1, .little, 0, 0, false⟩)
  | some d => (some d.signal.val, { d with signal := 0 })

theorem Reader.Takes.slot (slot : Option PackSlot)
    (ok : ∀ d, slot = some d → d.start ≤ 63 ∧ d.length ≤ 32 ∧ d.shift ≤ 15 ∧ int32 d.offset) :
    Takes readSlot (slotField slot) (slotRead slot) := by
  cases slot with
  | none => exact fun l => rfl
  | some d =>
    obtain ⟨start, length, shift, offset⟩ := ok d rfl
    simp only [slotField, List.append_assoc]
    unfold readSlot
    exact .bind (.optFin (n := 2) (some d.signal) (by decide)) <| .bind (.nat (by omega)) <| .bind (.nat (by omega)) <| .bind (.byteOrder _) <|
      .bind (.nat (by omega)) <| .bind (.int offset) <| .map (.flag _)

/-- The signals of slots that were read back are looked up. -/
theorem Reader.Accepts.slots {β : Type} {slots : List (Option PackSlot)} {k : List (Option PackSlot) → Reader β} {l : List Byte} {b : β}
    (h : Accepts (k slots) l b) :
    Accepts ((slots.map slotRead).mapM (fun r => do
      let i ← Reader.optRow 256 r.1 .badIndex
      return i.map fun i => { r.2 with signal := i }) >>= k) l b := by
  induction slots generalizing k with
  | nil =>
    rw [List.map_nil, List.mapM_nil, pure_bind]
    exact h
  | cons slot slots ih =>
    rw [List.map_cons, List.mapM_cons, bind_assoc, bind_assoc]
    refine .optRow_at (j := slot.map (·.signal)) (by cases slot <;> rfl) ?_
    rw [pure_bind, bind_assoc]
    refine ih ?_
    rw [pure_bind]
    have same : ((slot.map (·.signal)).map fun i => { (slotRead slot).2 with signal := i }) = slot := by cases slot <;> rfl
    rwa [same]

theorem fillTab_list {n : Nat} {α : Type} (a : α) (t : Tab n α) : fillTab n a t.list = t := by
  refine Tab.ext_get fun i => ?_
  have inside : i.val < t.list.length := t.ok.symm ▸ i.isLt
  rw [fillTab, Tab.get_mapIdx, List.getElem?_eq_getElem inside]
  rfl

theorem loadTransmit_accepts {n : Fin 16} {e : TransmitEntry} (ident : identFits e.kind e.ident.toNat = true) (length : e.length ≤ 8)
    (least : 1 ≤ e.period) (most : e.period < 256)
    (fine : ∀ d ∈ e.slots.list.filterMap id, d.start ≤ 63 ∧ 1 ≤ d.length ∧ d.length ≤ 32 ∧ d.shift ≤ 15 ∧ int32 d.offset
      ∧ (d.invalidCodes = true → 2 ≤ d.length) ∧ fits d.order d.start d.length e.length = true)
    (apart : ((e.slots.list.filterMap id).flatMap fun d => bitsOf d.order d.start d.length).Nodup) :
    Accepts (loadTransmit n.val img) (transmitLoad e) { img with transmit := img.transmit.set n e } := by
  have slots : Takes (times 8 readSlot) (e.slots.list.flatMap slotField) (e.slots.list.map slotRead) := by
    have read := Takes.times (r := readSlot) (l := e.slots.list) fun slot member => Takes.slot slot fun d is => by
      obtain ⟨start, -, length, shift, offset, -⟩ := fine d (List.mem_filterMap.2 ⟨slot, member, is⟩)
      exact ⟨start, length, shift, offset⟩
    rwa [e.slots.ok] at read
  simp only [transmitLoad, List.append_assoc]
  unfold loadTransmit
  refine .take (.flag _) <| .take (.nat (fin_le_bytes _ 1 (by decide))) <| .take (.idKind _) <| .take (.nat (word_lt _ 4 (by decide))) <|
    .take (.nat (by omega)) <| .take (.nat (by omega)) <| .take (.flag _) <| .last slots <| .row rfl <| .slots <| .row rfl <| .check ?_ <|
    .check ?_ <| .check (decide_eq_true apart) <| .pure ?_
  · rw [ident, decide_eq_true length]
    simp [Nat.ne_of_gt least]
  · rw [List.all_eq_true]
    intro d member
    obtain ⟨start, some, most, shift, -, codes, fit⟩ := fine d member
    simp only [Bool.and_eq_true, decide_eq_true_eq, Bool.or_eq_true, Bool.not_eq_true', ← Bool.not_eq_true, ← imp_iff_not_or]
    exact ⟨⟨⟨⟨⟨start, some⟩, most⟩, shift⟩, codes⟩, fit⟩
  · simp [fillTab_list]

/-! ### GENERAL -/

/-- Breakpoints read back, with zeros behind them. -/
theorem Reader.Takes.breakpoints {m : Nat} {points : List (Int × Nat)} (room : points.length ≤ m)
    (widths : ∀ x ∈ points, int32 x.1 ∧ x.2 < 65536) :
    Takes (Sys2Proof.Machine.breakpoints m)
      (points.flatMap (fun x => leSigned 4 x.1 ++ leBytes 2 x.2) ++ List.replicate (6 * (m - points.length)) 0)
      (points ++ List.replicate (m - points.length) (0, 0)) := by
  let field := fun x : Int × Nat => leSigned 4 x.1 ++ leBytes 2 x.2
  have padding : ∀ n, (List.replicate n ((0 : Int), (0 : Nat))).flatMap field = List.replicate (6 * n) 0 := fun n => by
    induction n with
    | zero => rfl
    | succ n ih =>
      rw [List.replicate_succ, List.flatMap_cons, ih, show 6 * (n + 1) = 6 + 6 * n by omega, ← List.replicate_append_replicate]
      rfl
  have length : (points ++ List.replicate (m - points.length) ((0 : Int), (0 : Nat))).length = m := by
    rw [List.length_append, List.length_replicate]
    omega
  rw [← padding, ← List.flatMap_append]
  have read := Takes.times (r := do
    let x ← Reader.int 4
    let p ← Reader.nat 2
    Pure.pure (x, p)) (field := field) (value := id) (l := points ++ List.replicate (m - points.length) (0, 0)) fun x member => by
      rcases List.mem_append.1 member with named | padded
      · obtain ⟨abscissa, ordinate⟩ := widths x named
        exact .bind (.int abscissa) (.map (.nat ordinate))
      · rw [List.eq_of_mem_replicate padded]
        exact fun l => rfl
  rwa [length, List.map_id] at read

/-- A characteristic read back. -/
theorem Reader.Takes.backlight {points : List (Int × Nat)} (most : points.length ≤ 4) (ok : pointsOk 1000 points) :
    Takes readBacklight (pointsField 4 points) (points.length, points ++ List.replicate (4 - points.length) (0, 0)) := by
  rw [pointsField, List.append_assoc]
  exact .bind (.nat (by omega)) (.map (.breakpoints most fun x member => ⟨(ok.2 x member).1, by have := (ok.2 x member).2; omega⟩))

theorem backlightOk_of_pointsOk {points more : List (Int × Nat)} (least : 2 ≤ points.length) (most : points.length ≤ 4)
    (ok : pointsOk 1000 points) : backlightOk (points.length, points ++ more) = true := by
  have within : points.all (·.2 ≤ 1000) = true := List.all_eq_true.2 fun x member => decide_eq_true (ok.2 x member).2
  simp only [backlightOk, List.take_left, least, most, ok.1, within, decide_true, Bool.and_self]

theorem Reader.Takes.port {c : PortConfig} (recovery : c.recovery < 256) (fault : faultOk c.fault) :
    Takes readPort (portField c) (c, c.request.toNat, c.response.toNat) := by
  have rate : Takes (enum [BitRate.k125, .k250, .k500]) (bitRateField c.bitRate) c.bitRate := fun l => by cases c.bitRate <;> rfl
  simp only [portField, List.append_assoc]
  unfold readPort
  refine .bind (.flag _) <| .bind rate <| .bind (.nat recovery) <| .bind (.fault fault) <| .bind (.flag _) <| .bind (.idKind _) <|
    .bind (.nat (word_lt _ 4 (by decide))) <| .eq ?_ <| .map (.nat (word_lt _ 4 (by decide)))
  simp

theorem loadGeneral_accepts {g : General} (threshold : int32 g.movingThreshold)
    (scan : 2 ≤ g.scanPeriod ∧ g.scanPeriod ≤ 20) (step : 50 ≤ g.stepInterval ∧ g.stepInterval ≤ 250) (bulb : g.bulbCheck ≤ 5000)
    (tone : 20 ≤ g.tone ∧ g.tone ≤ 40) (heal : 1 ≤ g.healLimit ∧ g.healLimit < 256) (sleep : 10 ≤ g.sleepDelay ∧ g.sleepDelay ≤ 600)
    (bl0 : (2 ≤ g.bl0.length ∧ g.bl0.length ≤ 4) ∧ pointsOk 1000 g.bl0) (bl1 : (2 ≤ g.bl1.length ∧ g.bl1.length ≤ 4) ∧ pointsOk 1000 g.bl1)
    (ports : ∀ q, 10 ≤ (g.ports.get q).recovery ∧ (g.ports.get q).recovery < 256 ∧ faultOk (g.ports.get q).fault
      ∧ identFits (g.ports.get q).serviceKind (g.ports.get q).request.toNat = true
      ∧ identFits (g.ports.get q).serviceKind (g.ports.get q).response.toNat = true)
    (allClosed : img.free g.allClosed (.derived .allClosed) = true) (openMoving : img.free g.openMoving (.derived .openMoving) = true)
    (displayFault : img.free g.displayFault (.derived .displayFault) = true)
    (apart : ([g.allClosed, g.openMoving, g.displayFault].filterMap id).Nodup) :
    Accepts (loadGeneral 0 img) (generalLoad g)
      (((({ img with general := g } : Image).retarget img.general.allClosed g.allClosed (.derived .allClosed)).retarget
        img.general.openMoving g.openMoving (.derived .openMoving)).retarget
        img.general.displayFault g.displayFault (.derived .displayFault)) := by
  let designated := [g.ignition, g.speed, g.brake, g.serviceEnable, g.ackKey, g.dimmer]
  have named : Takes (times 6 (nat 1)) (designated.flatMap fun i => leBytes 1 i.val) (designated.map (·.val)) :=
    .times (l := designated) fun i _ => .nat i.isLt
  have each : ∀ c ∈ g.ports.list, 10 ≤ c.recovery ∧ c.recovery < 256 ∧ faultOk c.fault
      ∧ identFits c.serviceKind c.request.toNat = true ∧ identFits c.serviceKind c.response.toNat = true := fun c member => by
    obtain ⟨q, inside, rfl⟩ := List.getElem_of_mem member
    exact ports ⟨q, g.ports.ok ▸ inside⟩
  have settings : Takes (times 3 readPort) (g.ports.list.flatMap portField)
      (g.ports.list.map fun c => (c, c.request.toNat, c.response.toNat)) := by
    have read := Takes.times (r := readPort) (l := g.ports.list) fun c member => Takes.port (each c member).2.1 (each c member).2.2.1
    rwa [g.ports.ok] at read
  have content : generalLoad g = (designated.flatMap fun i => leBytes 1 i.val) ++ (leSigned 4 g.movingThreshold ++ ([g.stationaryMask] ++
      ([g.movingMask] ++ (optField 2 (g.allClosed.map (·.val)) ++ (optField 2 (g.openMoving.map (·.val)) ++
      (optField 2 (g.displayFault.map (·.val)) ++ (leBytes 1 g.scanPeriod ++ (leBytes 1 g.stepInterval ++ (leBytes 2 g.bulbCheck ++
      (leBytes 1 g.tone ++ (leBytes 1 g.healLimit ++ (leBytes 2 g.sleepDelay ++ (pointsField 4 g.bl0 ++ (pointsField 4 g.bl1 ++
      g.ports.list.flatMap portField)))))))))))))) := by
    unfold generalLoad
    simp only [designated, List.flatMap_cons, List.flatMap_nil, List.append_assoc, List.cons_append, List.nil_append]
  rw [content]
  unfold loadGeneral
  refine .take named <| .take (.int threshold) <| .take (.byte _) <| .take (.byte _) <| .take (.optFin _ (by decide)) <|
    .take (.optFin _ (by decide)) <| .take (.optFin _ (by decide)) <| .take (.nat (by omega)) <| .take (.nat (by omega)) <|
    .take (.nat (by omega)) <| .take (.nat (by omega)) <| .take (.nat (by omega)) <| .take (.nat (by omega)) <|
    .take (.backlight bl0.1.2 bl0.2) <| .take (.backlight bl1.1.2 bl1.2) <| .last settings <| .check rfl <| .rows <| .optRow _ <|
    .optRow _ <| .optRow _ <| .check ?_ <| .check ?_ <| .check ?_ <| .check ?_ <| .check (decide_eq_true apart) <| .pure ?_
  · simp only [scan, step, bulb, tone, decide_true, Bool.and_self]
  · rw [backlightOk_of_pointsOk bl0.1.1 bl0.1.2 bl0.2, backlightOk_of_pointsOk bl1.1.1 bl1.1.2 bl1.2]
    simp [Nat.ne_of_gt heal.1, sleep]
  · rw [List.all_map, List.all_eq_true]
    intro c member
    obtain ⟨recovery, -, fault, request, response⟩ := each c member
    simp [recovery, request, response, severityOk_of_faultOk fault]
  · rw [allClosed, openMoving, displayFault]
    rfl
  · have table : fillTab 3 PortConfig.blank ((g.ports.list.map fun c => (c, c.request.toNat, c.response.toNat)).map (·.1)) = g.ports := by
      rw [List.map_map]
      exact (congrArg _ (List.map_id _)).trans (fillTab_list _ _)
    simp only [table, List.take_left, BitVec.ofNat_toNat, BitVec.setWidth_eq]
    rfl

end

end Sys2Proof.Machine
end

section
/-! PROOFS. FrameLoadProofs: the loads of FRAME, EXTRACT, TRANSMIT, DISPLAY, SNAPSHOT LIST and GENERAL (R182, R183). -/

namespace Sys2Proof.Machine

theorem optField_length (n : Nat) (v : Option Nat) : (optField n v).length = n := leBytes_length ..

theorem idKindField_length (kind : IdKind) : (idKindField kind).length = 1 := by cases kind <;> rfl

theorem byteOrderField_length (order : ByteOrder) : (byteOrderField order).length = 1 := by cases order <;> rfl

theorem faultField_length (f : Option FaultCode) : (faultField f).length = 3 := by cases f <;> rfl

theorem frameContent_length (e : FrameEntry) : (frameContent e).length = 23 := by
  simp [frameContent, optField_length, idKindField_length, faultField_length]

theorem descriptorContent_length (d : Descriptor) : (descriptorContent d).length = 14 := by
  simp [descriptorContent, optField_length, byteOrderField_length, leSigned_length]

/-- Settles O24. -/
theorem frameAndExtractLoadsWrite : Obligations.FrameAndExtractLoadsWrite := by
  refine ⟨fun p s mode access free => ⟨?_, ?_⟩, fun s => ⟨?_, ?_, ?_, ?_⟩, fun s index content => ?_⟩
  · intro n e minLen timeout ident mask replacement forward fault extracts apart
    have short : (frameContent e).length ≤ 51 := by rw [frameContent_length]; decide
    exact load_done (k := 0) mode access free short (by omega) (by rw [frameContent_length]; rfl) (by decide) (by decide)
      (loadFrame_accepts minLen timeout ident mask replacement forward fault extracts apart)
  · intro n slot d start some most shift gain_low gain_high offset_low offset_high invalid fit target former written
    have short : (descriptorContent d).length ≤ 51 := by rw [descriptorContent_length]; decide
    exact load_done (k := 1) mode access free short (by omega) (by rw [descriptorContent_length]; rfl) (by decide) (by decide)
      (loadExtract_accepts start some most shift gain_low gain_high ⟨offset_low, offset_high⟩ invalid fit target)
  · intro n e ident length least most fine
    exact loadEntry_accepts (by decide) (by decide) (loadTransmit_accepts ident length least most fine.1 fine.2)
  · exact fun n k => loadEntry_accepts (by decide) (by decide) (loadDisplay_accepts n k)
  · exact fun l short apart => loadEntry_accepts (by decide) (by decide) (loadSnapshotList_accepts short apart)
  · intro g threshold scan_low scan_high step_low step_high bulb tone_low tone_high heal_low heal_high sleep_low sleep_high least0 most0 ok0
      least1 most1 ok1 ports allClosed openMoving displayFault apart
    exact loadEntry_accepts (by decide) (by decide) (loadGeneral_accepts threshold ⟨scan_low, scan_high⟩ ⟨step_low, step_high⟩ bulb
      ⟨tone_low, tone_high⟩ ⟨heal_low, heal_high⟩ ⟨sleep_low, sleep_high⟩ ⟨⟨least0, most0⟩, ok0⟩ ⟨⟨least1, most1⟩, ok1⟩ ports allClosed
      openMoving displayFault apart)
  · exact ⟨frame_refused s index content, extract_refused s index content, transmit_refused s index content,
      display_refused s index content, snapshotList_refused s index content, general_refused s index content⟩

end Sys2Proof.Machine
end

section
/-! PROOFS. ChannelRefusalProofs: when a content of SIGNAL, SUBSTITUTION, INPUT, ANALOG, PATTERN or ATTRIBUTE is refused (R23, R40, R46, R52,
R127, R151, R183). -/

namespace Sys2Proof.Machine

open Reader

theorem optAt_isNone (c : List Byte) (o n : Nat) : (optAt c o n).isNone = true ↔ fieldAt c o n = 256 ^ n - 1 := by
  unfold optAt
  by_cases absent : fieldAt c o n = 256 ^ n - 1
  · simp [absent]
  · simp [absent]

/-- Two checks that are made on a condition. -/
theorem Reader.RefusedBy.when {α : Type} {c : List Byte} {o : Nat} {b : Bool} {C P Q : Prop} {res res' : Result} {yes no : Reader α}
    (asked : b = true ↔ C) (h : RefusedBy c o yes [(P, res), (Q, res')]) (h' : RefusedBy c o no []) :
    RefusedBy c o (if b = true then yes else no) [(C → P, res), (C → Q, res')] := fun result => by
  by_cases on : C
  · rw [if_pos (asked.2 on), h result]
    simp [refused_cons, on]
  · rw [if_neg (mt asked.1 on), h' result]
    simp [on, Refused]

section
variable (s : State) (index : Nat) (content : List Byte)

theorem pattern_refused (r : Result) :
    let f := fieldAt content
    s.loadEntry 11 index content = .error r ↔ Refused [(1 ≤ index ∧ index ≤ 7, .badIndex), (1 ≤ f 0 1 ∧ f 0 1 ≤ 16, .badValue)] r := by
  intro f
  refine loadEntry_refused (by decide) (by decide) ?_ r
  change RefusedBy content 0 (loadPattern index s.image) _
  unfold loadPattern
  refine .nat <| .nat <| .iff (P := index < 8 ∧ index ≠ 0) (by omega) <| .group <| .row fun p at_p => .check ?_ fun _ =>
    .check ?_ fun _ => .pure _
  · rw [bne_iff_ne, at_p, Ne, Fin.ext_iff]
    exact Iff.rfl
  · simp only [Bool.and_eq_true, decide_eq_true_eq]
    exact Iff.rfl

/-- The kind of a wear event by its code, and how many sources it has. -/
theorem wearKind_code {n : Nat} {kind : WearKind} (code : WearKind.all[n]? = some kind) :
    (kind = .ignitionCycle ↔ n = 9) ∧ (n < 9 ↔ ¬n = 9) ∧ (n < 9 → kind.sources = ([6, 6, 6, 32, 24, 3, 3, 128, 6][n]?).getD 0) := by
  have inside : n < 10 := (List.getElem?_eq_some_iff.1 code).1
  interval_cases n <;> cases code <;> decide

theorem wearRow_refused (r : Result) :
    let f := fieldAt content
    let yesNo := fun o => f o 1 ≤ 1
    let severity := fun o => f o 1 = 0xFF ∨ f o 1 ≤ 3
    s.loadEntry 14 index content = .error r ↔ Refused [
          (yesNo 0 ∧ f 1 1 < 10, .badValue),
          (index < 16 ∧ (f 1 1 < 9 → f 2 1 = 0xFF ∨ f 2 1 < ([6, 6, 6, 32, 24, 3, 3, 128, 6][f 1 1]?).getD 0), .badIndex),
          ((f 1 1 = 9 → f 2 1 = 0xFF) ∧ severity 9, .badValue)] r := by
  intro f yesNo severity
  refine loadEntry_refused (by decide) (by decide) ?_ r
  change RefusedBy content 0 (loadAttribute index s.image) _
  unfold loadAttribute
  refine .group <| .flag <| .enum fun kind code => .opt <| .nat <| .fault <| .group <| .row fun t _ => .check ?_ fun _ => .group <|
    .check ?_ fun _ => .check (severityOk_iff ..) fun _ => .pure _
  · obtain ⟨cycle, other, sources⟩ := wearKind_code code
    rw [Bool.or_eq_true, beq_iff_eq, cycle, or_iff_not_imp_left, ← other]
    refine imp_congr_right fun has => ?_
    rw [sources has, Option.all_eq_true]
    simp only [decide_eq_true_eq]
    exact optAt_byte content 2 _
  · rw [Bool.or_eq_true, bne_iff_ne, ← imp_iff_not_or, (wearKind_code code).1]
    refine imp_congr_right fun _ => ?_
    exact optAt_isNone ..

theorem input_refused (r : Result) :
    let img := s.image
    let f := fieldAt content
    let yesNo := fun o => f o 1 ≤ 1
    let signal := fun o => f o 2 = 0xFFFF ∨ f o 2 < 256
    let severity := fun o => f o 1 = 0xFF ∨ f o 1 ≤ 3
    let free := fun (o : Nat) (writer : Source) => ∀ i : Fin 256, f o 2 = i.val →
        (img.signals.get i).source = .none ∨ (img.signals.get i).source = writer
    s.loadEntry 5 index content = .error r ↔ Refused [
          (yesNo 0 ∧ yesNo 1 ∧ yesNo 5, .badValue),
          (index < 24 ∧ signal 3, .badIndex),
          (1 ≤ f 2 1 ∧ f 2 1 ≤ 15 ∧ severity 8, .badValue),
          (∀ n : Fin 24, index = n.val → free 3 (.discrete n), .conflict),
          (f 5 1 = 1 → (List.finRange 24).countP (fun k => k.val != index && (img.discretes.get k).wake) ≤ 3, .conflict)] r := by
  intro img f yesNo signal severity free
  refine loadEntry_refused (by decide) (by decide) ?_ r
  change RefusedBy content 0 (loadInput index s.image) _
  unfold loadInput
  refine .group <| .flag <| .group <| .flag <| .nat <| .opt <| .flag <| .fault <| .group <| .row fun n at_n => .iff (optAt_signal ..) <|
    .optRow fun target read => .check ?_ fun _ => .check ?_ fun _ => .check ?_ fun _ => .pure _
  · rw [Bool.and_eq_true, Bool.and_eq_true, severityOk_iff, decide_eq_true_iff, decide_eq_true_iff, and_assoc]
  · rw [free_iff read]
    constructor
    · intro free n' same
      obtain rfl : n = n' := Fin.ext (at_n.symm.trans same)
      exact free
    · exact fun free => free n at_n
  · have others : ∀ k : Fin 24, (k != n) = (k.val != index) := fun k => by
      rw [Bool.eq_iff_iff, bne_iff_ne, bne_iff_ne, at_n, Ne, Ne, Fin.ext_iff]
    simp only [Bool.or_eq_true, Bool.not_eq_true', decide_eq_true_eq, others, ← imp_iff_not_or, beq_eq_false_iff_ne, ne_eq]
    exact Iff.rfl

theorem analog_refused (r : Result) :
    let img := s.image
    let f := fieldAt content
    let signal := fun o => f o 2 = 0xFFFF ∨ f o 2 < 256
    let severity := fun o => f o 1 = 0xFF ∨ f o 1 ≤ 3
    let free := fun (o : Nat) (writer : Source) => ∀ i : Fin 256, f o 2 = i.val →
        (img.signals.get i).source = .none ∨ (img.signals.get i).source = writer
    s.loadEntry 6 index content = .error r ↔ Refused [
          (index < 8 ∧ signal 12, .badIndex),
          ((f 0 1 = 1 ∨ f 0 1 = 2 ∨ f 0 1 = 4 ∨ f 0 1 = 8) ∧ f 1 2 ≤ f 3 2 ∧ f 3 2 ≤ 4095 ∧ f 7 1 ≤ 15 ∧ severity 16, .badValue),
          (∀ n : Fin 8, index = n.val → free 12 (.analog n), .conflict)] r := by
  intro img f signal severity free
  refine loadEntry_refused (by decide) (by decide) ?_ r
  change RefusedBy content 0 (loadAnalog index s.image) _
  unfold loadAnalog
  refine .nat <| .nat <| .nat <| .int <| .nat <| .int <| .opt <| .fault <| .group <| .row fun n at_n => .iff (optAt_signal ..) <|
    .optRow fun target read => .group <| .check ?_ fun _ => .check ?_ fun _ => .check ?_ fun _ => .pure _
  · simp only [Bool.or_eq_true, beq_iff_eq, or_assoc]
    exact Iff.rfl
  · rw [Bool.and_eq_true, severityOk_iff]
    simp only [Bool.and_eq_true, decide_eq_true_eq]
    rw [and_comm (a := fieldAt content _ 2 ≤ 4095), and_assoc, and_assoc]
  · rw [free_iff read]
    constructor
    · intro free n' same
      obtain rfl : n = n' := Fin.ext (at_n.symm.trans same)
      exact free
    · exact fun free => free n at_n

theorem signal_refused (r : Result) :
    let img := s.image
    let f := fieldAt content
    let yesNo := fun o => f o 1 ≤ 1
    s.loadEntry 3 index content = .error r ↔ Refused [
          (yesNo 8, .badValue),
          (index < 256, .badIndex),
          (let lo := toSigned 32 (f 0 4)
            let hi := toSigned 32 (f 4 4)
            let v := toSigned 32 (f 9 4)
            lo ≤ hi ∧ (f 8 1 = 1 → lo ≤ v ∧ v ≤ hi), .badValue),
          (f 8 1 = 1 → ∀ i : Fin 256, index = i.val →
            (img.signals.get i).source = .none ∨ ∃ c, (img.signals.get i).source = .constant c, .conflict)] r := by
  intro img f yesNo
  have same : s.loadEntry 3 index content = .error r ↔ (loadSignal index s.image).on content = .error r := by
    unfold State.loadEntry
    cases (loadSignal index s.image).on content <;> simp
  suffices RefusedBy content 0 (loadSignal index s.image) _ from same.trans (this r)
  unfold loadSignal
  refine .int <| .int <| .flag <| .int <| .row fun i at_i => .group <| .check decide_eq_true_iff fun _ => ?_
  refine .when beq_iff_eq (.check ?_ fun _ => .check ?_ fun _ => .pure _) (.pure _)
  · rw [Bool.and_eq_true, decide_eq_true_iff, decide_eq_true_iff]
  · have here : (∀ k : Fin 256, index = k.val → (img.signals.get k).source = .none ∨ ∃ c, (img.signals.get k).source = .constant c)
        ↔ (img.signals.get i).source = .none ∨ ∃ c, (img.signals.get i).source = .constant c :=
      ⟨fun all => all i at_i, fun one k at_k => Fin.ext (at_i.symm.trans at_k) ▸ one⟩
    rw [here, Bool.or_eq_true, beq_iff_eq]
    refine or_congr_right ?_
    change (match (img.signals.get i).source with | .constant _ => true | _ => false) = true ↔ _
    cases (img.signals.get i).source <;> simp

theorem substitution_refused (r : Result) :
    let img := s.image
    let f := fieldAt content
    let yesNo := fun o => f o 1 ≤ 1
    s.loadEntry 4 index content = .error r ↔ Refused [
          (yesNo 0 ∧ f 2 1 < 3 ∧ yesNo 8, .badValue),
          (index < 16, .badIndex),
          (f 0 1 = 1 → (f 2 1 = 1 → f 3 1 ≠ f 1 1) ∧ (f 8 1 = 0 → f 2 1 ≠ 0), .badValue),
          (f 0 1 = 1 → ∀ k : Fin 16, index ≠ k.val →
            ¬((img.substitution.get k).inUse = true ∧ (img.substitution.get k).signal.val = f 1 1), .conflict)] r := by
  intro img f yesNo
  have same : s.loadEntry 4 index content = .error r ↔ (loadSubstitution index s.image).on content = .error r := by
    change s.substitute index content = _ ↔ _
    unfold State.substitute
    cases (loadSubstitution index s.image).on content <;> simp
  suffices RefusedBy content 0 (loadSubstitution index s.image) _ from same.trans (this r)
  unfold loadSubstitution
  refine .group <| .flag <| .nat <| .group <| .enum fun kind code => .nat <| .int <| .flag_of fun forced => .row fun e at_e =>
    .always (fieldAt_lt content 1 1) <| .row fun i at_i => .always (fieldAt_lt content 3 1) <| .row fun j at_j => ?_
  refine .when beq_iff_eq (.check ?_ fun _ => .check ?_ fun _ => .pure _) (.pure _)
  · have known : kind = f 2 1 := by
      have inside : f 2 1 < 3 := (List.getElem?_eq_some_iff.1 code).1
      have three : ∀ n < 3, ([0, 1, 2] : List Nat)[n]? = some n := by decide
      exact Option.some_inj.1 (code.symm.trans (three _ inside))
    have other : j = i ↔ f 3 1 = f 1 1 := by rw [Fin.ext_iff, ← at_j, ← at_i]
    have plain : f 8 1 = 0 ↔ ¬f 8 1 = 1 := by
      have : f 8 1 ≤ 1 := forced
      omega
    simp only [Bool.and_eq_true, Bool.not_eq_true', ← Bool.not_eq_true, Bool.or_eq_true, beq_iff_eq, bne_iff_ne, other, known, not_and,
      plain, or_iff_not_imp_left]
    exact Iff.rfl
  · have named : ∀ k : Fin 256, k = i ↔ k.val = f 1 1 := fun k => Fin.ext_iff.trans (by rw [← at_i])
    simp only [List.all_eq_true, List.mem_finRange, true_implies, Bool.or_eq_true, beq_iff_eq, Bool.not_eq_true', ← Bool.not_eq_true,
      Bool.and_eq_true, named]
    refine forall_congr' fun k => ?_
    rw [or_iff_not_imp_left, at_e, Fin.ext_iff, eq_comm]

end

end Sys2Proof.Machine
end

section
/-! PROOFS. RowRefusalProofs: when a content of DOOR, GAUGE, WARNING or LAMP is refused (R60, R83, R102, R126, R183). -/

namespace Sys2Proof.Machine

open Reader

section
variable {c : List Byte} {o : Nat}

/-- An optional row that a field names is there when the field is not all ones. -/
theorem isSome_of_read {n m : Nat} {i : Option (Fin m)} (read : optAt c o n = i.map (·.val)) :
    i.isSome = true ↔ fieldAt c o n ≠ 256 ^ n - 1 := by
  rw [Ne, ← optAt_isNone, read]
  cases i <;> simp

/-- The row that a field of two bytes names, by its number. -/
theorem toFin_of_read {i : Option (Fin 256)} (read : optAt c o 2 = i.map (·.val)) : i = toFin? 256 (fieldAt c o 2) := by
  cases i with
  | none =>
    rw [optAt_eq_none read]
    rfl
  | some i =>
    rw [(optAt_eq_some read).1]
    exact (show toFin? 256 i.val = some i from dif_pos i.isLt).symm

theorem toFin_eq_some {n v : Nat} {i : Fin n} : toFin? n v = some i ↔ v = i.val := by
  unfold toFin?
  by_cases inside : v < n
  · simp [inside, Fin.ext_iff]
  · simp only [inside, dite_false, reduceCtorEq, false_iff]
    exact fun same => inside (same ▸ i.isLt)

theorem known_of_read {i : Option (Fin 256)} (read : optAt c o 2 = i.map (·.val)) : fieldAt c o 2 = 0xFFFF ∨ fieldAt c o 2 < 256 :=
  (optAt_signal c o).1 fun x is => by
    obtain ⟨j, -, rfl⟩ := Option.map_eq_some_iff.1 (read.symm.trans is)
    exact j.isLt

/-- The kind of an owner by its code. -/
theorem lampOwner_code {n : Nat} {owner : LampOwner} (code : [LampOwner.none, .warnings, .signal, .door][n]? = some owner) :
    (owner = .signal ↔ n = 2) ∧ (owner = .door ↔ n = 3) := by
  have inside : n < 4 := (List.getElem?_eq_some_iff.1 code).1
  interval_cases n <;> cases code <;> decide

end

section
variable (s : State) (index : Nat) (content : List Byte)

theorem lamp_refused (r : Result) :
    let f := fieldAt content
    let yesNo := fun o => f o 1 ≤ 1
    let signal := fun o => f o 2 = 0xFFFF ∨ f o 2 < 256
    let severity := fun o => f o 1 = 0xFF ∨ f o 1 ≤ 3
    s.loadEntry 10 index content = .error r ↔ Refused [
          (f 0 1 < 4 ∧ yesNo 5, .badValue),
          (index < 24 ∧ signal 1 ∧ (f 4 1 = 0xFF ∨ f 4 1 < 6) ∧ (f 3 1 = 0xFF ∨ f 3 1 < 8), .badIndex),
          ((f 0 1 = 2 → f 1 2 ≠ 0xFFFF ∧ f 3 1 ≠ 0xFF) ∧ (f 0 1 = 3 → f 4 1 ≠ 0xFF) ∧ severity 8, .badValue)] r := by
  intro f yesNo signal severity
  refine loadEntry_refused (by decide) (by decide) ?_ r
  change RefusedBy content 0 (loadLamp index s.image) _
  unfold loadLamp
  refine .group <| .enum fun owner code => .opt <| .opt <| .opt <| .flag <| .fault <| .group <| .row fun l _ => .group <|
    .iff (optAt_signal ..) <| .optRow fun signal read_signal => .group <| .iff (optAt_byte ..) <| .optRow fun door read_door =>
    .iff (optAt_byte ..) <| .optRow fun pattern read_pattern => .group <| .check ?_ fun _ => .group <| .check ?_ fun _ =>
    .check (severityOk_iff ..) fun _ => .pure _
  · rw [Bool.or_eq_true, bne_iff_ne, ← imp_iff_not_or, (lampOwner_code code).1, Bool.and_eq_true, isSome_of_read read_signal,
      isSome_of_read read_pattern]
    exact Iff.rfl
  · rw [Bool.or_eq_true, bne_iff_ne, ← imp_iff_not_or, (lampOwner_code code).2, isSome_of_read read_door]
    exact Iff.rfl

theorem gauge_refused (r : Result) :
    let f := fieldAt content
    let yesNo := fun o => f o 1 ≤ 1
    let breakpoint := fun j => toSigned 32 (f (5 + 6 * j) 4)
    s.loadEntry 8 index content = .error r ↔ Refused [
          (yesNo 0 ∧ f 57 1 < 3 ∧ yesNo 62, .badValue),
          (index < 6, .badIndex),
          (100 ≤ f 2 2 ∧ f 2 2 ≤ 4095 ∧ 2 ≤ f 4 1 ∧ f 4 1 ≤ 8
            ∧ (∀ j < 7, j + 1 < f 4 1 → breakpoint j < breakpoint (j + 1)) ∧ (∀ j < 8, j < f 4 1 → f (9 + 6 * j) 2 ≤ f 2 2)
            ∧ f 53 2 ≤ f 2 2 ∧ f 55 1 ≤ 7 ∧ 1 ≤ f 56 1 ∧ f 58 2 ≤ f 2 2 ∧ f 60 2 ≤ 1023, .badValue)] r := by
  intro f yesNo breakpoint
  refine loadEntry_refused (by decide) (by decide) ?_ r
  change RefusedBy content 0 (loadGauge index s.image) _
  unfold loadGauge
  refine .group <| .flag <| .nat <| .nat <| .nat <| .always trivial <| .reads (breakpoints_reads content _ 8) fun _ => .nat <| .nat <| .nat <|
    .group <| .enum fun kind code => .nat <| .nat <| .flag <| .row fun g _ => .always (fieldAt_lt content 1 1) <| .row fun source _ =>
    .merge <| .merge <| .merge <| .check ?_ fun _ => .pure _
  simp only [Bool.and_eq_true, decide_eq_true_eq, and_assoc]
  refine and_congr_right fun _ => and_congr_right fun _ => and_congr_right fun _ => and_congr_right fun few => ?_
  obtain ⟨rise, stay⟩ := points_iff (c := content) (o := 5) few (f 2 2)
  exact and_congr rise (and_congr stay Iff.rfl)

theorem warning_refused (r : Result) :
    let f := fieldAt content
    let yesNo := fun o => f o 1 ≤ 1
    let signal := fun o => f o 2 = 0xFFFF ∨ f o 2 < 256
    let severity := fun o => f o 1 = 0xFF ∨ f o 1 ≤ 3
    s.loadEntry 9 index content = .error r ↔ Refused [
          (yesNo 0 ∧ yesNo 1 ∧ f 3 1 < 4 ∧ f 14 1 < 4 ∧ yesNo 22, .badValue),
          (index < 64 ∧ signal 12 ∧ (f 29 1 = 0xFF ∨ (f 29 1 < 24 ∧ f 30 1 < 8)) ∧ (f 27 1 = 0xFF ∨ f 27 1 < 8), .badIndex),
          (f 19 1 ≤ 7 ∧ 0 ≤ toSigned 32 (f 8 4) ∧ f 25 1 ≤ 100 ∧ f 26 1 ≤ 60 ∧ (f 27 1 ≠ 0xFF → 1 ≤ f 28 1) ∧ severity 33,
            .badValue)] r := by
  intro f yesNo signal severity
  refine loadEntry_refused (by decide) (by decide) ?_ r
  change RefusedBy content 0 (loadWarning index s.image) _
  unfold loadWarning
  refine .group <| .flag <| .group <| .flag <| .nat <| .group <| .enum fun op _ => .int <| .int <| .opt <| .group <| .enum fun qop _ =>
    .int <| .nat <| .nat <| .nat <| .flag <| .nat <| .nat <| .nat <| .opt <| .nat <| .opt <| .nat <| .fault <| .group <| .row fun w _ =>
    .always (fieldAt_lt content 2 1) <| .row fun primary _ => .group <| .iff (optAt_signal ..) <| .optRow fun qualifier _ =>
    .iff (P := (f 29 1 = 0xFF ∨ f 29 1 < 24) ∧ (f 27 1 = 0xFF ∨ f 27 1 < 8) ∧ (f 29 1 ≠ 0xFF → f 30 1 < 8)) (by tauto) <|
    .group <| .iff (optAt_byte ..) <| .optRow fun lamp at_lamp => .group <| .iff (optAt_byte ..) <| .optRow fun buzzer at_buzzer =>
    .iff ?_ <| .optRow fun pattern _ => .merge <| .check ?_ fun _ => .pure _
  · have lit := isSome_of_read at_lamp
    rw [show (f 29 1 ≠ 0xFF) = (lamp.isSome = true) from (propext lit).symm]
    cases lamp <;> simp [f]
  · have beeps : ∀ P, buzzer.isNone = true ∨ P ↔ (f 27 1 ≠ 0xFF → P) := fun P => by
      have absent : buzzer.isNone = true ↔ f 27 1 = 0xFF := by
        refine Iff.trans ?_ (optAt_isNone content 27 1)
        rw [show optAt content 27 1 = buzzer.map (·.val) from at_buzzer]
        cases buzzer <;> simp
      rw [absent, or_iff_not_imp_left]
    simp only [Bool.and_eq_true, decide_eq_true_eq, Bool.or_eq_true, severityOk_iff, beeps, and_assoc]
    exact Iff.rfl

/-! ### Sensors of a door -/

section
variable {img : Image}

/-- The sensors that fields name differ when no two fields are equal but absent ones. -/
theorem sensors_nodup {roles : List (Nat × Nat)} (apart : roles.Nodup) (known : ∀ a ∈ roles, fieldAt content a.1 a.2 = 0xFFFF
      ∨ fieldAt content a.1 a.2 < 256) :
    ((roles.map fun a => toFin? 256 (fieldAt content a.1 a.2)).filterMap id).Nodup ↔
      ∀ a ∈ roles, ∀ b ∈ roles, a ≠ b → fieldAt content a.1 a.2 = fieldAt content b.1 b.2 → fieldAt content a.1 a.2 = 0xFFFF := by
  have pair : ∀ a b : Nat × Nat, fieldAt content a.1 a.2 = 0xFFFF ∨ fieldAt content a.1 a.2 < 256 →
      ((∀ i, toFin? 256 (fieldAt content a.1 a.2) = some i → ∀ j, toFin? 256 (fieldAt content b.1 b.2) = some j → i ≠ j) ↔
        (fieldAt content a.1 a.2 = fieldAt content b.1 b.2 → fieldAt content a.1 a.2 = 0xFFFF)) := fun a b known => by
    simp only [toFin_eq_some]
    constructor
    · intro differ same
      by_contra present
      have inside := known.resolve_left present
      exact differ ⟨_, inside⟩ rfl ⟨_, inside⟩ same.symm rfl
    · rintro absent i is_i j is_j rfl
      have := absent (is_i.trans is_j.symm)
      omega
  rw [List.Nodup, List.pairwise_filterMap, List.pairwise_map]
  constructor
  · have either : Std.Symm fun a b : Nat × Nat => ∀ i, id (toFin? 256 (fieldAt content a.1 a.2)) = some i →
        ∀ j, id (toFin? 256 (fieldAt content b.1 b.2)) = some j → i ≠ j :=
      ⟨fun _ _ differ i is_i j is_j => (differ j is_j i is_i).symm⟩
    exact fun differ a ha b hb other => (pair a b (known a ha)).1 (differ.forall ha hb other)
  · exact fun absent => apart.pairwise_of_forall_ne fun a ha b hb other => (pair a b (known a ha)).2 (absent a ha b hb other)

/-- A field's signal is none of the sensors. -/
theorem sensors_avoid {roles : List (Nat × Nat)} {v : Nat} (known : v = 0xFFFF ∨ v < 256) :
    (!(toFin? 256 v).any (· ∈ (roles.map fun a => toFin? 256 (fieldAt content a.1 a.2)).filterMap id)) = true ↔
      ∀ a ∈ roles, fieldAt content a.1 a.2 = v → v = 0xFFFF := by
  rw [Bool.not_eq_true', ← Bool.not_eq_true, Option.any_eq_true]
  simp only [decide_eq_true_eq, List.mem_filterMap, List.mem_map, id, toFin_eq_some]
  constructor
  · intro none a ha same
    by_contra present
    have inside := known.resolve_left present
    exact none ⟨⟨v, inside⟩, rfl, _, ⟨a, ha, rfl⟩, toFin_eq_some.2 same⟩
  · rintro absent ⟨i, is, _, ⟨a, ha, rfl⟩, same⟩
    have := absent a ha ((toFin_eq_some.1 same).trans is.symm)
    omega

end

theorem Reader.RefusedBy.optRows {γ : Type} {c : List Byte} {o n : Nat} {res : Result} {checks : List (Prop × Result)}
    {l : List (Option Nat)} {k : List (Option (Fin n)) → Reader γ} (h : ∀ js, RefusedBy c o (k js) checks) :
    RefusedBy c o (l.mapM (fun i => Reader.optRow n i res) >>= k) ((∀ i ∈ l, ∀ x, i = some x → x < n, res) :: checks) :=
  .mapM (rel := fun _ _ => True) (fun _ _ _ h => .optRow fun j _ => h j trivial) fun js _ => h js

theorem door_refused (r : Result) :
    let img := s.image
    let f := fieldAt content
    let yesNo := fun o => f o 1 ≤ 1
    let signal := fun o => f o 2 = 0xFFFF ∨ f o 2 < 256
    let severity := fun o => f o 1 = 0xFF ∨ f o 1 ≤ 3
    let free := fun (o : Nat) (writer : Source) => ∀ i : Fin 256, f o 2 = i.val →
        (img.signals.get i).source = .none ∨ (img.signals.get i).source = writer
    let roles := [(1, 1), (2, 2), (4, 2), (6, 2), (8, 2)]
    s.loadEntry 7 index content = .error r ↔ Refused [
          (yesNo 0, .badValue),
          (index < 6 ∧ signal 2 ∧ signal 4 ∧ signal 6 ∧ signal 8 ∧ signal 12
            ∧ ∀ k < 9, f (17 + k) 1 = 0xFF ∨ f (17 + k) 1 < 8, .badIndex),
          (5 ≤ f 10 1 ∧ f 10 1 ≤ 100 ∧ f 11 1 ≤ 100 ∧ severity 16 ∧ (f 2 2 ≠ 0xFFFF ∨ f 8 2 ≠ 0xFFFF)
            ∧ (∀ a ∈ roles, ∀ b ∈ roles, a ≠ b → f a.1 a.2 = f b.1 b.2 → f a.1 a.2 = 0xFFFF)
            ∧ ∀ a ∈ roles, f a.1 a.2 = f 12 2 → f 12 2 = 0xFFFF, .badValue),
          (∀ d : Fin 6, index = d.val → free 12 (.derived (.door d)), .conflict)] r := by
  intro img f yesNo signal severity free roles
  refine loadEntry_refused (by decide) (by decide) ?_ r
  change RefusedBy content 0 (loadDoor index s.image) _
  unfold loadDoor
  refine .flag <| .nat <| .opt <| .opt <| .opt <| .opt <| .nat <| .nat <| .opt <| .fault <| .always (fun _ _ => trivial) <|
    .reads (.times (w := 1) fun j => .opt 1) fun _ => .group <| .row fun d at_d => .always (fieldAt_lt content 1 1) <|
    .row fun closed at_closed => .group <| .iff (optAt_signal ..) <| .optRow fun opened at_opened => .group <| .iff (optAt_signal ..) <|
    .optRow fun edge at_edge => .group <| .iff (optAt_signal ..) <| .optRow fun handle at_handle => .group <| .iff (optAt_signal ..) <|
    .optRow fun release at_release => .group <| .iff (optAt_signal ..) <| .optRow fun state at_state =>
    .iff ?_ <| .optRows fun lampMap => .merge <| .merge <| .check ?_ fun _ => .check ?_ fun _ => .pure _
  · rw [List.forall_mem_map]
    simp only [List.mem_range]
    refine forall₂_congr fun j _ => (optAt_byte ..).trans ?_
    rw [Nat.one_mul]
  · have sensors : [some closed, opened, edge, handle, release] = roles.map fun a => toFin? 256 (fieldAt content a.1 a.2) := by
      rw [toFin_of_read at_opened, toFin_of_read at_edge, toFin_of_read at_handle, toFin_of_read at_release,
        ← toFin_eq_some.2 at_closed]
      rfl
    have known : ∀ a ∈ roles, fieldAt content a.1 a.2 = 0xFFFF ∨ fieldAt content a.1 a.2 < 256 := by
      simp only [roles, List.forall_mem_cons, List.not_mem_nil, false_imp_iff, forall_const, and_true]
      exact ⟨.inr (fieldAt_lt content 1 1), known_of_read at_opened, known_of_read at_edge, known_of_read at_handle,
        known_of_read at_release⟩
    rw [sensors, toFin_of_read at_state]
    simp only [Bool.and_eq_true, decide_eq_true_eq, Bool.or_eq_true, severityOk_iff, isSome_of_read at_opened,
      isSome_of_read at_release, sensors_nodup content (by decide : roles.Nodup) known,
      sensors_avoid content (roles := roles) (known_of_read at_state), and_assoc]
    exact Iff.rfl
  · rw [free_iff at_state]
    constructor
    · intro free d' same
      obtain rfl : d = d' := Fin.ext (at_d.symm.trans same)
      exact free
    · exact fun free => free d at_d

end

end Sys2Proof.Machine
end

section
/-! PROOFS. ChannelAcceptProofs: the contents of INPUT, ANALOG, PATTERN, ATTRIBUTE, DOOR, GAUGE, WARNING and LAMP that meet the checks of
their rules (R46, R52, R60, R83, R102, R126, R127, R151). -/

namespace Sys2Proof.Machine

open Reader

section
variable {img : Image}

theorem loadInput_accepts {n : Fin 24} {c : DiscreteConfig} (least : 1 ≤ c.debounce) (most : c.debounce ≤ 15) (fault : faultOk c.fault)
    (free : img.free c.target (.discrete n) = true)
    (few : c.wake = true → (List.finRange 24).countP (fun k => k != n && (img.discretes.get k).wake) ≤ 3) :
    Accepts (loadInput n.val img) (discreteContent c)
      (({ img with discretes := img.discretes.set n c } : Image).retarget (img.discretes.get n).target c.target (.discrete n)) := by
  have flags : [flagByte (!c.supervised), flagByte c.activeHigh] = [flagByte (!c.supervised)] ++ [flagByte c.activeHigh] := rfl
  simp only [discreteContent, flags, List.append_assoc]
  unfold loadInput
  refine .take (.flag _) <| .take (.flag _) <| .take (.nat (by omega)) <| .take (.optFin _ (by decide)) <| .take (.flag _) <|
    .last (.fault fault) <| .row rfl <| .optRow _ <| .check ?_ <| .check free <| .check ?_ <| .pure ?_
  · rw [decide_eq_true least, decide_eq_true most, severityOk_of_faultOk fault]
    rfl
  · cases wakes : c.wake with
    | false => rfl
    | true => exact decide_eq_true (few wakes)
  · rw [Bool.not_not]

theorem loadAnalog_accepts {n : Fin 8} {c : AnalogConfig} (averaging : c.averaging = 1 ∨ c.averaging = 2 ∨ c.averaging = 4 ∨ c.averaging = 8)
    (order : c.low ≤ c.high) (high : c.high ≤ 4095) (shift : c.shift ≤ 15) (gain_low : -32768 ≤ c.gain) (gain_high : c.gain ≤ 32767)
    (offset : int32 c.offset) (fault : faultOk c.fault) (free : img.free c.target (.analog n) = true) :
    Accepts (loadAnalog n.val img) (analogContent c)
      (({ img with analogs := img.analogs.set n c } : Image).retarget (img.analogs.get n).target c.target (.analog n)) := by
  simp only [analogContent, List.append_assoc]
  unfold loadAnalog
  refine .take (.nat (by omega)) <| .take (.nat (by omega)) <| .take (.nat (by omega)) <| .take (.gain gain_low gain_high) <|
    .take (.nat (by omega)) <| .take (.int offset) <| .take (.optFin _ (by decide)) <| .last (.fault fault) <| .row rfl <| .optRow _ <|
    .check ?_ <| .check ?_ <| .check free <| .pure rfl
  · simpa [or_assoc] using averaging
  · rw [decide_eq_true high, decide_eq_true order, decide_eq_true shift, severityOk_of_faultOk fault]
    rfl

theorem loadPattern_accepts {n : Fin 8} {x : Pattern} (other : n ≠ 0) (least : 1 ≤ x.period) (most : x.period ≤ 16) :
    Accepts (loadPattern n.val img) (patternContent x) { img with patterns := img.patterns.set n x } := by
  unfold patternContent loadPattern
  refine .take (.nat (by omega)) <| .last (.nat (word_lt _ 2 (by decide))) <| .row rfl <| .check (bne_iff_ne.2 other) <| .check ?_ <| .pure ?_
  · rw [decide_eq_true least, decide_eq_true most]
    rfl
  · rw [BitVec.ofNat_toNat, BitVec.setWidth_eq]

theorem Reader.Takes.wearKind (kind : WearKind) : Takes (enum WearKind.all) (leBytes 1 kind.code) kind := fun _ => by cases kind <;> rfl

theorem loadAttribute_accepts {t : Fin 16} {c : AttrConfig} (threshold : c.threshold < 4294967296) (fault : faultOk c.fault)
    (none : c.kind = .ignitionCycle → c.source = none) (known : ∀ x, c.source = some x → x < c.kind.sources) :
    Accepts (loadAttribute t.val img) (attrContent c) { img with attrs := img.attrs.set t c } := by
  have few : c.kind.sources < 255 := by cases c.kind <;> decide
  simp only [attrContent, List.append_assoc]
  unfold loadAttribute
  refine .take (.flag _) <| .take (.wearKind _) <| .take (.opt fun x is => (known x is).trans few) <| .take (.nat threshold) <|
    .last (.fault fault) <| .row rfl <| .check ?_ <| .check ?_ <| .check (severityOk_of_faultOk fault) <| .pure rfl
  · rw [Bool.or_eq_true, Option.all_eq_true]
    exact .inr fun x is => decide_eq_true (known x is)
  · by_cases cycle : c.kind = .ignitionCycle
    · rw [none cycle]
      exact Bool.or_true _
    · rw [bne_iff_ne.2 cycle]
      rfl

theorem loadLamp_accepts {l : Fin 24} {c : LampConfig} (signal : c.owner = .signal → c.signal ≠ none ∧ c.pattern ≠ none)
    (door : c.owner = .door → c.door ≠ none) (fault : faultOk c.fault) :
    Accepts (loadLamp l.val img) (lampLoad c) { img with lamps := img.lamps.set l c } := by
  have owner : Takes (enum [LampOwner.none, .warnings, .signal, .door]) (ownerField c.owner) c.owner := fun _ => by cases c.owner <;> rfl
  simp only [lampLoad, List.append_assoc]
  unfold loadLamp
  refine .take owner <| .take (.optFin _ (by decide)) <| .take (.optFin _ (by decide)) <| .take (.optFin _ (by decide)) <|
    .take (.flag _) <| .last (.fault fault) <| .row rfl <| .optRow _ <| .optRow _ <| .optRow _ <| .check ?_ <| .check ?_ <|
    .check (severityOk_of_faultOk fault) <| .pure rfl
  · rw [Bool.or_eq_true, bne_iff_ne, ← imp_iff_not_or, Bool.and_eq_true, Option.isSome_iff_ne_none, Option.isSome_iff_ne_none]
    exact signal
  · rw [Bool.or_eq_true, bne_iff_ne, ← imp_iff_not_or, Option.isSome_iff_ne_none]
    exact door

/-! ### GAUGE -/

/-- Breakpoints with the zeros behind them. -/
def paddedPoints (m : Nat) (points : List (Int × Nat)) : List Byte :=
  points.flatMap (fun x => leSigned 4 x.1 ++ leBytes 2 x.2) ++ List.replicate (6 * (m - points.length)) 0

theorem pointsField_eq (m : Nat) (points : List (Int × Nat)) : pointsField m points = leBytes 1 points.length ++ paddedPoints m points :=
  List.append_assoc ..

/-- A code of three. -/
theorem Reader.Takes.ofThree {n : Nat} (known : n < 3) : Takes (enum [0, 1, 2]) (leBytes 1 n) n := fun l => by
  interval_cases n <;> rfl

/-- A fallback as its kind and its position. -/
theorem fallback_fields {top : Nat} (f : Fallback) (within : ∀ v, f = .position v → v ≤ top) : ∃ kind position, kind < 3 ∧ position ≤ top
    ∧ fallbackField f = leBytes 1 kind ++ leBytes 2 position
    ∧ (if kind = 0 then Fallback.hold else if kind = 1 then .rest else .position position) = f := by
  cases f with
  | hold => exact ⟨0, 0, by decide, Nat.zero_le _, rfl, rfl⟩
  | rest => exact ⟨1, 0, by decide, Nat.zero_le _, rfl, rfl⟩
  | position v => exact ⟨2, v, by decide, within v rfl, rfl, rfl⟩

theorem loadGauge_accepts {g : Fin 6} {c : GaugeConfig} (fs_low : 100 ≤ c.fs) (fs_high : c.fs ≤ 4095) (least : 2 ≤ c.points.length)
    (most : c.points.length ≤ 8) (points : pointsOk c.fs c.points) (rest : c.rest ≤ c.fs) (damping : c.damping ≤ 7) (slew_low : 1 ≤ c.slew)
    (slew_high : c.slew < 256) (fallback : ∀ v, c.fallback = .position v → v ≤ c.fs) (overrun : c.overrun ≤ 1023) :
    Accepts (loadGauge g.val img) (gaugeLoad c) { img with gauges := img.gauges.set g c } := by
  obtain ⟨kind, position, known, within, written, back⟩ := fallback_fields c.fallback fallback
  have marks : Takes (breakpoints 8) (paddedPoints 8 c.points) (c.points ++ List.replicate (8 - c.points.length) (0, 0)) :=
    .breakpoints most fun x member => ⟨(points.2 x member).1, by have := (points.2 x member).2; omega⟩
  have ordinates : c.points.all (·.2 ≤ c.fs) = true := List.all_eq_true.2 fun x member => decide_eq_true (points.2 x member).2
  simp only [gaugeLoad, pointsField_eq, written, List.append_assoc]
  unfold loadGauge
  refine .take (.flag _) <| .take (.nat (fin_le_bytes _ 1 (by decide))) <| .take (.nat (by omega)) <| .take (.nat (by omega)) <|
    .take marks <| .take (.nat (by omega)) <| .take (.nat (by omega)) <| .take (.nat slew_high) <| .take (.ofThree known) <|
    .take (.nat (by omega)) <| .take (.nat (by omega)) <| .last (.flag _) <| .row rfl <| .row rfl <| ?_
  rw [List.take_left, back]
  refine .check ?_ <| .check ?_ <| .check ?_ <| .check ?_ <| .pure rfl
  · rw [decide_eq_true fs_low, decide_eq_true fs_high, decide_eq_true least, decide_eq_true most]
    rfl
  · rw [points.1, ordinates]
    rfl
  · rw [decide_eq_true rest, decide_eq_true damping, decide_eq_true slew_low]
    rfl
  · rw [decide_eq_true within, decide_eq_true overrun]
    rfl

/-! ### WARNING -/

theorem Reader.Takes.operator (op : Operator) : Takes (enum operators) (operatorField op) op := fun _ => by cases op <;> rfl

/-- The qualifier's fields. -/
def qualifierField (q : Option Qualifier) : List Byte :=
  match q with
  | some q => leBytes 2 q.signal.val ++ operatorField q.op ++ leSigned 4 q.threshold
  | none => [0xFF, 0xFF, 0] ++ leSigned 4 0

theorem qualifierField_eq (q : Option Qualifier) : qualifierField q = optField 2 ((q.map (·.signal)).map (·.val))
    ++ (operatorField ((q.map (·.op)).getD .above) ++ leSigned 4 ((q.map (·.threshold)).getD 0)) := by
  cases q with
  | none => rfl
  | some q => exact List.append_assoc ..

/-- The fields of a beep pattern and its repetitions. -/
def buzzerField (b : Option (Fin 8 × Nat)) : List Byte :=
  match b with
  | some (p, n) => leBytes 1 p.val ++ leBytes 1 n
  | none => [0xFF, 0]

theorem buzzerField_eq (b : Option (Fin 8 × Nat)) : buzzerField b = optField 1 ((b.map (·.1)).map (·.val)) ++ leBytes 1 ((b.map (·.2)).getD 0) := by
  cases b <;> rfl

/-- The fields of a lamp and its pattern. -/
def lightField (l : Option (Fin 24 × Fin 8)) : List Byte :=
  match l with
  | some (l, p) => leBytes 1 l.val ++ leBytes 1 p.val
  | none => [0xFF, 0]

theorem lightField_eq (l : Option (Fin 24 × Fin 8)) :
    lightField l = optField 1 ((l.map (·.1)).map (·.val)) ++ leBytes 1 ((l.map (·.2.val)).getD 0) := by
  cases l <;> rfl

theorem qualifier_back (q : Option Qualifier) :
    (q.map (·.signal)).map (fun i => (⟨i, (q.map (·.op)).getD .above, (q.map (·.threshold)).getD 0⟩ : Qualifier)) = q := by
  cases q <;> rfl

theorem buzzer_back (b : Option (Fin 8 × Nat)) : (b.map (·.1)).map (·, (b.map (·.2)).getD 0) = b := by cases b <;> rfl

theorem light_back (l : Option (Fin 24 × Fin 8)) :
    (match l.map (·.1), l.map (·.2) with | some l, some p => some (l, p) | _, _ => none) = l := by
  cases l <;> rfl

theorem warningLoad_eq (c : WarningConfig) : warningLoad c = ([flagByte c.inUse] ++ [flagByte c.watch]) ++ leBytes 1 c.primary.val
    ++ operatorField c.op ++ leSigned 4 c.threshold ++ leSigned 4 c.hysteresis ++ qualifierField c.qualifier ++ leBytes 1 c.level
    ++ leBytes 1 c.onDelay ++ leBytes 1 c.offDelay ++ [flagByte c.latching] ++ leBytes 2 c.message ++ leBytes 1 c.minimum
    ++ leBytes 1 c.autoDismiss ++ buzzerField c.buzzer ++ lightField c.lamp ++ faultField c.fault := rfl

theorem loadWarning_accepts {w : Fin 64} {c : WarningConfig} (threshold : int32 c.threshold) (nonneg : 0 ≤ c.hysteresis)
    (hysteresis : int32 c.hysteresis) (qualifier : ∀ q, c.qualifier = some q → int32 q.threshold) (level : c.level ≤ 7)
    (onDelay : c.onDelay < 256) (offDelay : c.offDelay < 256) (message : c.message < 65536) (minimum : c.minimum ≤ 100)
    (autoDismiss : c.autoDismiss ≤ 60) (buzzer : ∀ x n, c.buzzer = some (x, n) → 1 ≤ n ∧ n < 256) (fault : faultOk c.fault) :
    Accepts (loadWarning w.val img) (warningLoad c) { img with warnings := img.warnings.set w c } := by
  have other : int32 ((c.qualifier.map (·.threshold)).getD 0) := by
    cases given : c.qualifier with
    | none => exact ⟨by decide, by decide⟩
    | some q => exact qualifier q given
  have repetitions : (c.buzzer.map (·.2)).getD 0 < 256 ∧ ((c.buzzer.map (·.1)).isNone = true ∨ 1 ≤ (c.buzzer.map (·.2)).getD 0) := by
    cases given : c.buzzer with
    | none => exact ⟨by decide, .inl rfl⟩
    | some x => exact ⟨(buzzer x.1 x.2 given).2, .inr (buzzer x.1 x.2 given).1⟩
  have shown : (c.lamp.map (·.2.val)).getD 0 < 256 := by
    cases c.lamp with
    | none => decide
    | some x => exact fin_le_bytes x.2 1 (by decide)
  rw [warningLoad_eq, qualifierField_eq, buzzerField_eq, lightField_eq]
  simp only [List.append_assoc]
  unfold loadWarning
  refine .take (.flag _) <| .take (.flag _) <| .take (.nat (fin_le_bytes _ 1 (by decide))) <| .take (.operator _) <| .take (.int threshold) <|
    .take (.int hysteresis) <| .take (.optFin _ (by decide)) <| .take (.operator _) <| .take (.int other) <| .take (.nat (by omega)) <|
    .take (.nat (by omega)) <| .take (.nat (by omega)) <| .take (.flag _) <| .take (.nat (by omega)) <| .take (.nat (by omega)) <|
    .take (.nat (by omega)) <| .take (.optFin _ (by decide)) <| .take (.nat repetitions.1) <| .take (.optFin _ (by decide)) <|
    .take (.nat shown) <| .last (.fault fault) <| .row rfl <| .row rfl <| .optRow _ <| .optRow _ <| .optRow _ <|
    .optRow_at (j := c.lamp.map (·.2)) (by cases c.lamp <;> rfl) <| .check ?_ <| .check ?_ <| .pure ?_
  · rw [decide_eq_true level, decide_eq_true nonneg, decide_eq_true minimum, decide_eq_true autoDismiss]
    rfl
  · rw [severityOk_of_faultOk fault, Bool.and_true, Bool.or_eq_true, decide_eq_true_iff]
    exact repetitions.2
  · refine congrArg (fun x => { img with warnings := img.warnings.set w x }) ?_
    obtain ⟨⟩ := c
    congr 1
    · exact qualifier_back _
    · exact buzzer_back _
    · exact light_back _

/-! ### DOOR -/

/-- The lamp numbers of a list are looked up. -/
theorem Reader.Accepts.optRows {β : Type} {n : Nat} {r : Result} {js : List (Option (Fin n))} {k : List (Option (Fin n)) → Reader β}
    {l : List Byte} {b : β} (h : Accepts (k js) l b) :
    Accepts ((js.map fun j => j.map (·.val)).mapM (fun i => Reader.optRow n i r) >>= k) l b := by
  induction js generalizing k with
  | nil =>
    rw [List.map_nil, List.mapM_nil, pure_bind]
    exact h
  | cons j js ih =>
    rw [List.map_cons, List.mapM_cons, bind_assoc]
    refine .optRow j ?_
    rw [bind_assoc]
    exact ih (by rw [pure_bind]; exact h)

theorem loadDoor_accepts {d : Fin 6} {c : DoorConfig} (travel_low : 5 ≤ c.travel) (travel_high : c.travel ≤ 100) (slow : c.slow ≤ 100)
    (fault : faultOk c.fault) (senses : c.opened ≠ none ∨ c.release ≠ none)
    (apart : ([some c.closed, c.opened, c.edge, c.handle, c.release].filterMap id).Nodup)
    (own : ∀ i, c.stateSignal = some i → i ∉ [some c.closed, c.opened, c.edge, c.handle, c.release].filterMap id)
    (free : img.free c.stateSignal (.derived (.door d)) = true) :
    Accepts (loadDoor d.val img) (doorLoad c)
      (({ img with doors := img.doors.set d c } : Image).retarget (img.doors.get d).stateSignal c.stateSignal (.derived (.door d))) := by
  have lamps : Takes (times 9 (opt 1)) (c.lampMap.list.flatMap fun p => optField 1 (p.map (·.val)))
      (c.lampMap.list.map fun p => p.map (·.val)) := by
    have read := Takes.times (r := opt 1) (l := c.lampMap.list) fun p _ => Takes.optFin (n := 1) p (by decide)
    rwa [c.lampMap.ok] at read
  simp only [doorLoad, List.append_assoc]
  unfold loadDoor
  refine .take (.flag _) <| .take (.nat (fin_le_bytes _ 1 (by decide))) <| .take (.optFin _ (by decide)) <| .take (.optFin _ (by decide)) <|
    .take (.optFin _ (by decide)) <| .take (.optFin _ (by decide)) <| .take (.nat (by omega)) <| .take (.nat (by omega)) <|
    .take (.optFin _ (by decide)) <| .take (.fault fault) <| .last lamps <| .row rfl <| .row rfl <| .optRow _ <| .optRow _ <|
    .optRow _ <| .optRow _ <| .optRow _ <| .optRows <| .check ?_ <| .check ?_ <| .check ?_ <| .check free <| .pure ?_
  · rw [decide_eq_true travel_low, decide_eq_true travel_high, decide_eq_true slow, severityOk_of_faultOk fault]
    rfl
  · rw [Bool.or_eq_true, Option.isSome_iff_ne_none, Option.isSome_iff_ne_none]
    exact senses
  · rw [Bool.and_eq_true, decide_eq_true_iff, Bool.not_eq_true', ← Bool.not_eq_true, Option.any_eq_true]
    exact ⟨apart, fun ⟨i, named, among⟩ => own i named (of_decide_eq_true among)⟩
  · rw [fillTab_list]

end

end Sys2Proof.Machine
end

section
/-! PROOFS. ChannelLoadProofs: the loads of SIGNAL, SUBSTITUTION, INPUT, ANALOG, DOOR, GAUGE, WARNING, LAMP, PATTERN and ATTRIBUTE (R23, R40,
R182, R183). -/

namespace Sys2Proof.Machine

open Reader

/-! ### SUBSTITUTION -/

section
variable {img : Image}

/-- The fields of an alternate. -/
def alternateField (a : Alternate) : List Byte :=
  match a with
  | .none => [0, 0] ++ leSigned 4 0
  | .signal j => [1] ++ leBytes 1 j.val ++ leSigned 4 0
  | .constant v => [2, 0] ++ leSigned 4 v

theorem substitutionLoad_eq (e : SubEntry) :
    substitutionLoad e = [flagByte e.inUse] ++ leBytes 1 e.signal.val ++ alternateField e.alternate ++ [flagByte e.forced] := rfl

/-- An alternate as its kind, its signal and its constant. -/
theorem alternate_fields {lo hi : Int} (a : Alternate) (within : ∀ c, a = .constant c → int32 c ∧ lo ≤ c ∧ c ≤ hi) :
    ∃ (j : Fin 256) (c : Int), int32 c ∧ alternateField a = leBytes 1 a.code ++ (leBytes 1 j.val ++ leSigned 4 c)
      ∧ (∀ i, a ≠ .signal i → (a.code == 1 && j == i) = false)
      ∧ (if a.code = 0 then Alternate.none else if a.code = 1 then .signal j else .constant (clamp lo hi c)) = a := by
  have zero : int32 0 := ⟨by decide, by decide⟩
  cases a with
  | none => exact ⟨0, 0, zero, rfl, fun _ _ => rfl, rfl⟩
  | signal j => exact ⟨j, 0, zero, rfl, fun i other => by simpa [Alternate.code] using fun same => other (congrArg _ same), rfl⟩
  | constant c =>
    obtain ⟨width, low, high⟩ := within c rfl
    exact ⟨0, c, width, rfl, fun _ _ => rfl, congrArg Alternate.constant (clamp_within low high)⟩

theorem substitutionLoad_accepts {n : Fin 16} {e : SubEntry}
    (fine : e.inUse = true → e.alternate ≠ .signal e.signal ∧ (e.forced = true ∨ e.alternate ≠ .none)
      ∧ ∀ k, k ≠ n → ¬((img.substitution.get k).inUse = true ∧ (img.substitution.get k).signal = e.signal))
    (within : ∀ c, e.alternate = .constant c → int32 c ∧ (img.signals.get e.signal).min ≤ c ∧ c ≤ (img.signals.get e.signal).max) :
    Accepts (loadSubstitution n.val img) (substitutionLoad e) (n, e, { img with substitution := img.substitution.set n e }) := by
  obtain ⟨j, c, width, written, other, back⟩ := alternate_fields e.alternate within
  have known : e.alternate.code < 3 := by cases e.alternate <;> simp [Alternate.code]
  rw [substitutionLoad_eq, written]
  simp only [List.append_assoc]
  unfold loadSubstitution
  refine .take (.flag _) <| .take (.nat (fin_le_bytes _ 1 (by decide))) <| .take (.ofThree known) <|
    .take (.nat (fin_le_bytes _ 1 (by decide))) <| .take (.int width) <| .last (.flag _) <| .row rfl <| .row rfl <| .row rfl <| ?_
  obtain ⟨inUse, i, alternate, forced⟩ := e
  have entry : (⟨inUse, i, if alternate.code = 0 then Alternate.none else if alternate.code = 1 then .signal j
      else .constant (clamp (img.signals.get i).min (img.signals.get i).max c), forced⟩ : SubEntry) = ⟨inUse, i, alternate, forced⟩ :=
    congrArg (SubEntry.mk inUse i · forced) back
  have written : (n, (⟨inUse, i, if alternate.code = 0 then Alternate.none else if alternate.code = 1 then .signal j
      else .constant (clamp (img.signals.get i).min (img.signals.get i).max c), forced⟩ : SubEntry), _) = _ :=
    congrArg (fun e : SubEntry => (n, e, ({ img with substitution := img.substitution.set n e } : Image))) entry
  cases inUse with
  | false => exact .pure written
  | true =>
    obtain ⟨own, offers, single⟩ := fine rfl
    refine .check ?_ <| .check ?_ <| .pure written
    · rw [other i own, Bool.not_false, Bool.true_and, Bool.or_eq_true]
      refine offers.imp_right fun some => bne_iff_ne.2 fun none => some ?_
      cases alternate with
      | none => rfl
      | signal j => nomatch none
      | constant c => nomatch none
    · rw [List.all_eq_true]
      intro k _
      rw [Bool.or_eq_true, beq_iff_eq, or_iff_not_imp_left, Bool.not_eq_true', ← Bool.not_eq_true, Bool.and_eq_true, beq_iff_eq]
      exact single k

end

/-! ### SIGNAL -/

section
variable {img : Image} {t : Tab 256 SignalRun} {i : Fin 256} {lo hi : Int}

/-- The settings of a signal after a SIGNAL load. -/
def signalConfig (lo hi : Int) (constant : Option Int) (source : Source) : SignalConfig :=
  match constant with
  | some c => ⟨.constant c, lo, hi⟩
  | none => ⟨match source with | .constant _ => .none | w => w, lo, hi⟩

theorem loadSignal_accepts (width_lo : int32 lo) (width_hi : int32 hi) (order : lo ≤ hi) (constant : Option Int)
    (fine : ∀ c, constant = some c → lo ≤ c ∧ c ≤ hi
      ∧ ((img.signals.get i).source = .none ∨ ∃ c', (img.signals.get i).source = .constant c')) :
    Accepts (loadSignal i.val img) (signalLoad lo hi constant) (i, constant,
      { img with signals := img.signals.set i (signalConfig lo hi constant (img.signals.get i).source) }) := by
  have width : int32 (constant.getD 0) := by
    cases constant with
    | none => exact ⟨by decide, by decide⟩
    | some c => exact ⟨le_trans width_lo.1 (fine c rfl).1, le_trans (fine c rfl).2.1 width_hi.2⟩
  simp only [signalLoad, List.append_assoc]
  unfold loadSignal
  refine .take (.int width_lo) <| .take (.int width_hi) <| .take (.flag _) <| .last (.int width) <| .row rfl <|
    .check (decide_eq_true order) <| ?_
  cases constant with
  | none =>
    refine .pure ?_
    cases (img.signals.get i).source <;> rfl
  | some c =>
    obtain ⟨low, high, source⟩ := fine c rfl
    refine .check ?_ <| .check ?_ <| .pure rfl
    · exact Bool.and_eq_true_iff.2 ⟨decide_eq_true low, decide_eq_true high⟩
    · rcases source with none | ⟨c', constant⟩
      · rw [none]
        rfl
      · rw [constant]
        rfl

/-- The held value of a resolved signal (R32). -/
theorem resolved_held (img : Image) (t : Tab 256 SignalRun) (i : Fin 256) :
    let r := t.get i
    let u := resolved img t i
    let cfg := img.signals.get i
    (cfg.min ≤ cfg.max → cfg.min ≤ r.own ∧ r.own ≤ cfg.max → cfg.min ≤ r.held ∧ r.held ≤ cfg.max → cfg.min ≤ u.held ∧ u.held ≤ cfg.max)
      ∧ (u.eff.status = .valid → u.held = u.own) ∧ (u.eff.status = .invalid → u.held = r.held) := by
  intro r u cfg
  simp only [u, resolved]
  split
  · exact ⟨fun _ own _ => own, fun _ => rfl, fun no => (nomatch no)⟩
  · split
    · exact ⟨fun order _ _ => ⟨clamp_ge order _, clamp_le order _⟩, fun no => (nomatch no), fun no => (nomatch no)⟩
    · exact ⟨fun _ _ held => held, fun no => (nomatch no), fun _ => rfl⟩

/-- The record of a signal after a SIGNAL load, before it is resolved (R23). -/
def loadedRun (lo hi : Int) (constant : Option Int) (r : SignalRun) : SignalRun :=
  let r := match constant with
    | some v => { r with own := v, written := .valid, qual := false }
    | none => r
  { r with own := clamp lo hi r.own, qual := r.qual || decide (clamp lo hi r.own ≠ r.own), held := clamp lo hi r.held }

/-- What a SIGNAL load leaves of its signal. -/
theorem takeSignalLoad_shows (constant : Option Int) (order : lo ≤ hi) {s : State}
    (limits : (s.image.signals.get i).min = lo ∧ (s.image.signals.get i).max = hi) :
    let r := loadedRun lo hi constant (t.get i)
    let u := (takeSignalLoad i constant s ⟨t, []⟩).st
    u.get i = resolved s.image u i ∧ lo ≤ (u.get i).held ∧ (u.get i).held ≤ hi
      ∧ ((u.get i).eff.status = .valid → (u.get i).held = (u.get i).own)
      ∧ ((u.get i).eff.status = .invalid → (u.get i).held = r.held)
      ∧ (u.get i).own = r.own ∧ (u.get i).written = r.written ∧ (u.get i).qual = r.qual := by
  intro r u
  have run : takeSignalLoad i constant s ⟨t, []⟩ = resolveWithDependents s.image i ⟨t.set i r, []⟩ := by
    simp only [takeSignalLoad, limits]
    rfl
  have reached := resolveWithDependents_resolutions (img := s.image) (i := i) (a := ⟨t.set i r, []⟩) (may := fun _ => True) trivial
    (fun _ _ => trivial) (resolutions_refl s.image (t.set i r) _)
  rw [← run] at reached
  have now : u.get i = resolved s.image (t.set i r) i := (reached.2 i).1 (.inl rfl)
  have stands : u.get i = resolved s.image u i := now.trans (resolved_congr reached.1 (.inr now)).symm
  obtain ⟨within, valid, invalid⟩ := resolved_held s.image (t.set i r) i
  have own := reached.1 i
  rw [Tab.get_set_self] at own within invalid
  have inside : lo ≤ r.own ∧ r.own ≤ hi ∧ lo ≤ r.held ∧ r.held ≤ hi :=
    ⟨clamp_ge order _, clamp_le order _, clamp_ge order _, clamp_le order _⟩
  obtain ⟨low, high⟩ := within (by rw [limits.1, limits.2]; exact order) (by rw [limits.1, limits.2]; exact ⟨inside.1, inside.2.1⟩)
    (by rw [limits.1, limits.2]; exact inside.2.2)
  rw [← now] at low high valid invalid
  rw [limits.1] at low
  rw [limits.2] at high
  exact ⟨stands, low, high, valid, invalid, own⟩

end

section
variable {p : Port} {s : State} {i : Fin 256} {lo hi : Int}

theorem signalLoad_length (lo hi : Int) (constant : Option Int) : (signalLoad lo hi constant).length = 13 := by
  simp [signalLoad]

/-- A SIGNAL content that meets the checks of R23 is written, its signal cut to the limits and resolved. -/
theorem signalLoad_done (mode : s.control.mode = .configuring) (access : accessNow s = true) (free : storeCommandRuns s = false)
    (width_lo : int32 lo) (width_hi : int32 hi) (order : lo ≤ hi) (constant : Option Int)
    (fine : ∀ c, constant = some c → lo ≤ c ∧ c ≤ hi
      ∧ ((s.image.signals.get i).source = .none ∨ ∃ c', (s.image.signals.get i).source = .constant c')) :
    let r := loadedRun lo hi constant (s.signals.get i)
    ∃ v : State, exec (.loadEntrySignal p (BitVec.ofNat 16 i.val) 0x01 (signalLoad lo hi constant)) s
          = .next (finish (v.answer p 0x22 .done (3 :: leBytes 2 i.val ++ [1])))
        ∧ v = { s.heard.setStaging p none with image := v.image, signals := v.signals, mail := v.mail }
        ∧ v.image = { s.image with signals := s.image.signals.set i (signalConfig lo hi constant (s.image.signals.get i).source) }
        ∧ v.signals.get i = resolved v.image v.signals i
        ∧ lo ≤ (v.signals.get i).held ∧ (v.signals.get i).held ≤ hi
        ∧ ((v.signals.get i).eff.status = .valid → (v.signals.get i).held = (v.signals.get i).own)
        ∧ ((v.signals.get i).eff.status = .invalid → (v.signals.get i).held = r.held)
        ∧ (v.signals.get i).own = r.own ∧ (v.signals.get i).written = r.written ∧ (v.signals.get i).qual = r.qual := by
  intro r
  let h := s.heard.setStaging p none
  let img : Image := { s.image with signals := s.image.signals.set i (signalConfig lo hi constant (s.image.signals.get i).source) }
  have limits : (img.signals.get i).min = lo ∧ (img.signals.get i).max = hi := by
    rw [show img.signals.get i = signalConfig lo hi constant (s.image.signals.get i).source from Tab.get_set_self ..]
    cases constant <;> exact ⟨rfl, rfl⟩
  have read : (loadSignal i.val h.image).on (signalLoad lo hi constant) = .ok (i, constant, img) :=
    loadSignal_accepts width_lo width_hi order constant fine
  have taken : h.loadEntry 3 i.val (signalLoad lo hi constant) = .ok (({ h with image := img } : State).runSignals (takeSignalLoad i constant)) := by
    simp only [State.loadEntry, read]
  have short : (signalLoad lo hi constant).length ≤ 51 := by rw [signalLoad_length]; decide
  exact ⟨_, load_one_part (k := 2) mode access free short (by omega) (by rw [signalLoad_length]; rfl) taken, rfl, rfl,
    takeSignalLoad_shows (s := { h with image := img }) constant order limits⟩

end

theorem ownerField_length (owner : LampOwner) : (ownerField owner).length = 1 := by cases owner <;> rfl

theorem discreteContent_length (c : DiscreteConfig) : (discreteContent c).length = 9 := by
  simp [discreteContent, optField_length, faultField_length]

theorem analogContent_length (c : AnalogConfig) : (analogContent c).length = 17 := by
  simp [analogContent, optField_length, faultField_length]

theorem patternContent_length (x : Pattern) : (patternContent x).length = 3 := by simp [patternContent]

theorem attrContent_length (c : AttrConfig) : (attrContent c).length = 10 := by
  simp [attrContent, optField_length, faultField_length]

/-- Settles O25. -/
theorem channelLoadsWrite : Obligations.ChannelLoadsWrite := by
  refine ⟨fun p s mode access free => ⟨?_, ?_, ?_, ?_, ?_⟩, fun s => ⟨?_, ?_, ?_, ?_, ?_⟩, fun s index content => ?_⟩
  · intro i lo hi low order high before wrote
    have width_lo : int32 lo := ⟨low, order.trans high⟩
    have width_hi : int32 hi := ⟨low.trans order, high⟩
    refine ⟨?_, fun c low high source => ?_⟩
    · obtain ⟨v, run, frame, image, stands, least, most, valid, invalid, own, written, qual⟩ :=
        signalLoad_done (p := p) (i := i) mode access free width_lo width_hi order none fun _ h => nomatch h
      exact ⟨v, ⟨run, frame, image, stands, least, most, valid, invalid⟩, own, written, qual⟩
    · obtain ⟨v, run, frame, image, stands, least, most, valid, invalid, own, written, qual⟩ :=
        signalLoad_done (p := p) (i := i) mode access free width_lo width_hi order (some c) fun _ h => Option.some_inj.1 h ▸ ⟨low, high, source⟩
      have inside : clamp lo hi c = c := clamp_within low high
      refine ⟨v, ⟨run, frame, image, stands, least, most, valid, invalid⟩, own.trans inside, written, qual.trans ?_⟩
      change (false || decide (clamp lo hi c ≠ c)) = false
      simp [inside]
  · intro n c least most fault target few
    have short : (discreteContent c).length ≤ 51 := by rw [discreteContent_length]; decide
    exact load_done (k := 4) mode access free short (by omega) (by rw [discreteContent_length]; rfl) (by decide) (by decide)
      (loadInput_accepts least most fault target few)
  · intro n c averaging order high shift gain_low gain_high offset_low offset_high fault target
    have short : (analogContent c).length ≤ 51 := by rw [analogContent_length]; decide
    exact load_done (k := 5) mode access free short (by omega) (by rw [analogContent_length]; rfl) (by decide) (by decide)
      (loadAnalog_accepts averaging order high shift gain_low gain_high ⟨offset_low, offset_high⟩ fault target)
  · intro n x other least most
    have short : (patternContent x).length ≤ 51 := by rw [patternContent_length]; decide
    exact load_done (k := 10) mode access free short (by omega) (by rw [patternContent_length]; rfl) (by decide) (by decide)
      (loadPattern_accepts other least most)
  · intro t c threshold fault none known
    have short : (attrContent c).length ≤ 51 := by rw [attrContent_length]; decide
    exact load_done (k := 13) mode access free short (by omega) (by rw [attrContent_length]; rfl) (by decide) (by decide)
      (loadAttribute_accepts threshold fault none known)
  · intro n e fine within
    obtain ⟨own, each⟩ := setEntry_resolutions s n e
    refine ⟨s.setEntry n e, ?_, rfl, rfl, fun inUse => ?_⟩
    · have loads : (loadSubstitution n.val s.image).on (substitutionLoad e) = .ok (n, e, _) := substitutionLoad_accepts fine within
      change s.substitute n.val (substitutionLoad e) = _
      rw [State.substitute, loads]
      rfl
    · have now := (each e.signal).1 (.inl ⟨inUse, rfl⟩)
      exact now.trans (resolved_congr own (.inr now)).symm
  · intro d c travel_low travel_high slow fault senses apart free
    exact loadEntry_accepts (by decide) (by decide) (loadDoor_accepts travel_low travel_high slow fault senses apart.1 apart.2 free)
  · intro g c fs_low fs_high least most points rest damping slew_low slew_high fallback overrun
    exact loadEntry_accepts (by decide) (by decide)
      (loadGauge_accepts fs_low fs_high least most points rest damping slew_low slew_high fallback overrun)
  · intro w c threshold nonneg hysteresis qualifier level onDelay offDelay message minimum autoDismiss buzzer fault
    exact loadEntry_accepts (by decide) (by decide) (loadWarning_accepts threshold nonneg hysteresis qualifier level onDelay offDelay message
      minimum autoDismiss buzzer fault)
  · exact fun l c signal door fault => loadEntry_accepts (by decide) (by decide) (loadLamp_accepts signal door fault)
  · exact ⟨signal_refused s index content, substitution_refused s index content, input_refused s index content,
      analog_refused s index content, door_refused s index content, gauge_refused s index content, warning_refused s index content,
      lamp_refused s index content, pattern_refused s index content, wearRow_refused s index content⟩

end Sys2Proof.Machine
end
